-- ==== Sys2Proof/Word.lean ====
section
/-! DEFINITION. The words of the Lumipar 820: bytes on the lane link and standing maps of the pin deck. -/

namespace Sys2Proof

/-- One byte of a frame: a link address, a tag or a payload byte (R168). -/
abbrev Byte := BitVec 8

/-- A standing map, the set of spots on which a pin stands (00_scope 4.1). Spot n is bit n − 1, as R191 writes it. -/
abbrev SpotMap := BitVec 10

/-- All ten spots: a fresh rack. -/
abbrev fullRack : SpotMap := 0x3FF#10

/-- No spot. -/
abbrev noSpots : SpotMap := 0#10

end Sys2Proof
end

