-- ==== Sys2Proof/Syntax.lean ====
section
/-! DEFINITION. The commands of the block: one constructor of `Instr` for each row of spec/opcode_table.json.
Machine events carry the lane and what the event delivers.  A frame-borne command carries the frame's sender and
destination addresses and the payload bytes that follow the part its class fixes (the request code and tag of R175,
the transfer kind and tag of R192), so that payloads that are short or out of range are commands too (log entry 30). -/

namespace Sys2Proof

/-- Lane A (odd) or lane B (even) of the pair (00_scope 4.1). -/
inductive LaneId where
  | A
  | B
deriving DecidableEq, Repr

/-- A well-formed request or transfer frame: sender, destination, tag, and the bytes after code (or kind) and tag
(R175, R192). -/
structure Msg where
  sender : Byte
  dest   : Byte
  tag    : Byte
  args   : List Byte
deriving DecidableEq, Repr

/-- A well-formed frame of a class without a tag: CENSUS, TIME, SETUP, START, URGENT_START (R168, R192). -/
structure Bare where
  sender  : Byte
  dest    : Byte
  payload : List Byte
deriving DecidableEq, Repr

/-- A frame as it stands on the line, check field included (R168, section 12.1). -/
structure RawFrame where
  cls     : BitVec 4
  sender  : Byte
  dest    : Byte
  length  : Byte
  payload : List Byte
  check   : BitVec 16
deriving DecidableEq, Repr

/-- The four request classes (R168). -/
inductive ReqClass where
  | lane
  | session
  | billing
  | report
deriving DecidableEq, Repr

/-- The three causes of a warm reset (R188). -/
inductive WarmCause where
  | resetLine
  | brownout
  | stationReset
deriving DecidableEq, Repr

/-- How the transmission of a queued frame ends (R174). -/
inductive TxOutcome where
  | lost
  | acked
  | unacked
deriving DecidableEq, Repr

/-- The commands the station takes, in the order of spec/opcode_table.json. -/
inductive Instr where
  | ball (l : LaneId)
  | foul (l : LaneId)
  | settleExpiry (l : LaneId)
  | spacingWait2W (l : LaneId)
  | readDone (l : LaneId) (levels : List Nat)
  | clearDone (l : LaneId)
  | setDone (l : LaneId)
  | phaseLimitExpiry (l : LaneId)
  | liftTop
  | rackFullChange (asserted : Bool)
  | liftCurrentSample (sample : Byte)
  | runOnExpiry
  | transitOverdue
  | purgeEnd
  | clockTick
  | windowEntryExpiry (index : Nat)
  | quietPeriodEnd
  | idleWatchExpiry
  | lineIdle
  | startNoticeOutcome (sent : Bool)
  | queuedFrameOutcome (o : TxOutcome)
  | startNoticeReceived (urgent : Bool) (f : Bare)
  | census (f : Bare)
  | receiveFrame (f : RawFrame)
  | offer (m : Msg)
  | answer (m : Msg)
  | ident (m : Msg)
  | balls (m : Msg)
  | commit (m : Msg)
  | transferDone (m : Msg) (declined : Bool)
  | sourceStepTimeout
  | targetStepTimeout
  | time (f : Bare)
  | setupRequest (f : Bare)
  | setupAnswer (f : Bare)
  | setupWaitExpiry
  | setupAnswerDelayExpiry (requester : Byte)
  | supplyWarningFall
  | supplyWarningRelease
  | powerOn (retained : Bool) (strap : BitVec 6) (rackFull supplyLow : Bool)
  | warmReset (cause : WarmCause) (supplyLow : Bool)
  | stationResetTimeout
  | unknownRequest (c : ReqClass) (code : Byte) (m : Msg)
  | hold (m : Msg)
  | release (m : Msg)
  | setHoldMode (m : Msg)
  | laneReset (m : Msg)
  | clearFault (m : Msg)
  | calibrate (m : Msg)
  | clearJam (m : Msg)
  | setGroup (m : Msg)
  | setCensusSilent (m : Msg)
  | stationReset (m : Msg)
  | startSession (m : Msg)
  | addBowler (m : Msg)
  | beginSession (m : Msg)
  | setHandicap (m : Msg)
  | setAbsent (m : Msg)
  | endSession (m : Msg)
  | correctFrame (m : Msg)
  | moveSession (m : Msg)
  | resumeParked (m : Msg)
  | discardParked (m : Msg)
  | openLane (m : Msg)
  | closeLane (m : Msg)
  | addCredit (m : Msg)
  | tariffBand (m : Msg)
  | tariffCommit (m : Msg)
  | releaseJournal (m : Msg)
  | archiveClear (m : Msg)
  | laneStatus (m : Msg)
  | stationStatus (m : Msg)
  | session (m : Msg)
  | game (m : Msg)
  | calibration (m : Msg)
  | journal (m : Msg)
  | archive (m : Msg)
  | resetCause (m : Msg)
  | brownout
  | resetLineAsserted
deriving DecidableEq, Repr

end Sys2Proof
end

