-- ==== Sys2Proof/Config.lean ====
section
/-! DEFINITION. What an 820 fixes for all time, and the free values: constants without a body that stand for what the
manual leaves open. Durations are in milliseconds. -/

namespace Sys2Proof.Config

/-- R163 has the source's deferred DONE carry the new session id, and no frame carries that id to the source (R162,
R192). The id is this free value, one in 1..255, applied to the free-value counter (log entry 13). -/
opaque freeSessionId : Nat → Fin 255

/-- R135 lets either session's run of archived games come first when two sessions are archived in one event. The
choice is this free value, applied to the free-value counter (log entry 14). -/
opaque freeRunFirst : Nat → Bool

/-- Read limit 3.0 s (section 1.1, R10). -/
def readLimit : Nat := 3000
/-- Clear limit 4.0 s (section 1.1, R10). -/
def clearLimit : Nat := 4000
/-- Set limit 5.0 s (section 1.1, R10). -/
def setLimit : Nat := 5000
/-- Calibration limit 8.0 s (section 1.1, R10, R32). -/
def calLimit : Nat := 8000
/-- The run-on of 3.0 s (R91). -/
def runOn : Nat := 3000
/-- The purge of 8.0 s (R97, R98). -/
def purge : Nat := 8000
/-- The transfer step timer, 1.5 s (R154). -/
def stepLimit : Nat := 1500
/-- The idle watch, 5.0 s (R140). -/
def idleWatch : Nat := 5000
/-- The setup wait, 2.0 s (R183). -/
def setupWait : Nat := 2000
/-- STATION_RESET is made at the latest 1.0 s after it was taken (R188). -/
def stationResetLimit : Nat := 1000
/-- One step of a peer answer's stagger, 20 ms (R185). -/
def staggerStep : Nat := 20
/-- What one step on an empty queue lets pass, 0.1 s (log entry 6). -/
def tick : Nat := 100

/-- Frames the outbound queue holds (R173). -/
def queueCap : Nat := 12
/-- Entries the window list holds (R140). -/
def windowCap : Nat := 16
/-- Records the transit list holds (R88). -/
def transitCap : Nat := 6
/-- The largest accrued age, 30.0 s in tenths (R88). -/
def ageCap : Nat := 300
/-- The balance's bounds (R103). -/
def balanceMin : Int := -50000
/-- The balance's bounds (R103). -/
def balanceMax : Int := 2000000
/-- The bound at which lane total, subtotals and paused seconds saturate (R103). -/
def totalMax : Nat := 99999999
/-- The bound at which games charged saturates (R103). -/
def gamesMax : Nat := 65535
/-- The last sequence number there is (R125). -/
def seqMax : Nat := 4294967295
/-- Blocks of the record store (section 7.1). -/
def storeBlocks : Nat := 64
/-- Threshold on every spot after retention loss (R40). -/
def defaultThreshold : Nat := 24
/-- The strap value of `State.reset` (log entry 2). -/
def resetStrap : Nat := 1

end Sys2Proof.Config
end

