-- ==== Sys2Proof/Machine/State.lean ====
section
/-! DEFINITION. The state of the 820, block by block, as plain data. A part that the manual makes present only in some
condition is an argument of the constructor that stands for the condition, or an `Option`. Durations that remain are in
milliseconds. INVENTORY.md lists every part with its rule and reset value. -/

namespace Sys2Proof.Machine

/-! ## Two of a kind: the per-lane blocks -/

/-- One thing per lane. -/
structure Pair (α : Type) where
  a : α
  b : α
deriving DecidableEq, Repr

/-- The lane's own. -/
def Pair.get {α : Type} (p : Pair α) : LaneId → α
  | .A => p.a
  | .B => p.b

/-- Replace the lane's own. -/
def Pair.set {α : Type} (p : Pair α) (l : LaneId) (x : α) : Pair α :=
  match l with
  | .A => { p with a := x }
  | .B => { p with b := x }

/-! ## Lane sequencer (R1 to R27) -/

/-- What the deck places in SETTING (R2). The respot map is present only for RESPOT. -/
inductive CycleKind where
  | full
  | respot (spots : SpotMap)
deriving DecidableEq, Repr

/-- What began the cycle (R2). -/
inductive Origin where
  | ball
  | opening
  | recovery
deriving DecidableEq, Repr

/-- The pending ball (R2). `bowler` is the session id and bowler index current when the ball was taken; the ball is
scored when it is present (R3, R5, log entry 38). -/
structure PendingBall where
  bowler : Option (Nat × Nat)
  foul   : Bool
deriving DecidableEq, Repr

/-- The cycle record (R2). -/
structure Cycle where
  kind     : CycleKind
  read     : Bool
  origin   : Origin
  restart  : Nat
  frameEnd : Bool
  ball     : Option PendingBall
deriving DecidableEq, Repr

/-- The position at which a lane is held (R1). -/
inductive HoldPoint where
  | read
  | rack (frameEnding : Bool)
deriving DecidableEq, Repr

/-- The phase a lane in SPACING waits for (R1). -/
inductive NextPhase where
  | reading
  | clearing
  | calibrating
deriving DecidableEq, Repr

/-- The phase that overran; it fixes the fault code (R10). -/
inductive Phase where
  | reading
  | clearing
  | setting
  | calibrating
deriving DecidableEq, Repr

/-- The fault record (R10). The code is the phase's (`Phase.code`). -/
structure FaultRec where
  phase    : Phase
  repeated : Bool
  retained : Option Cycle
deriving DecidableEq, Repr

/-- The ten states (section 1.1), each with what is present only in it (R1). -/
inductive SeqState where
  | standby
  | armed
  | settling
  | spacing (next : NextPhase)
  | reading
  | clearing
  | setting
  | held (point : HoldPoint)
  | calibrating
  | fault (record : FaultRec)
deriving DecidableEq, Repr

/-- The six hold reasons (R13). -/
inductive HoldReason where
  | eachBall
  | frameEnd
  | desk
  | credit
  | journal
  | ret
deriving DecidableEq, Repr

/-- The hold set: each reason at most once, in no order (R13). -/
structure HoldSet where
  eachBall : Bool
  frameEnd : Bool
  desk     : Bool
  credit   : Bool
  journal  : Bool
  ret      : Bool
deriving DecidableEq, Repr

/-- The hold mode (R16). -/
inductive HoldMode where
  | none
  | eachBall
  | frameEnd
deriving DecidableEq, Repr

/-- The deferred requests of a lane (R24). OPEN_LANE keeps the balance as set, which its DONE carries (R106). -/
inductive DeferredReq where
  | openLane (balance : Int)
  | closeLane
  | laneReset
  | clearFault
  | calibrate
deriving DecidableEq, Repr

/-- The pending-request record (R24). -/
structure PendingReq where
  addr : Nat
  tag  : Nat
  req  : DeferredReq
deriving DecidableEq, Repr

/-- The sequencer record (R1). `timer` is what remains of the settle timer or the phase limit, in the states that have
one (section 1.1). -/
structure Sequencer where
  state : SeqState
  cycle : Option Cycle
  holds : HoldSet
  mode  : HoldMode
  foul  : Bool
  stray : Bool
  pend  : Option PendingReq
  timer : Option Nat
deriving DecidableEq, Repr

/-! ## Deck sensor (R28 to R40) -/

/-- What the deck last left standing (R28, R30). -/
inductive RackState where
  | empty
  | full
  | partialRack
deriving DecidableEq, Repr

/-- The last read taken in READING (R28, R29). -/
structure LastRead where
  levels    : List Nat
  map       : SpotMap
  estimated : Bool
deriving DecidableEq, Repr

/-- The mode of a calibration, with the step of SINGLE_STEP (R31). -/
inductive CalMode where
  | sweep
  | single (step : Nat)
deriving DecidableEq, Repr

/-- The result in the calibration record (R39). -/
inductive CalResult where
  | none
  | running
  | complete
  | aborted
  | timedOut
deriving DecidableEq, Repr

/-- The calibration record (R32 to R39). Lists are per spot, spot 1 first. `reads` and `misses` are the reads taken in
the step not yet settled and each spot's misses among them (R33, R34). `missCount` is recorded by a single step (R36),
`outcome` by a completed sweep (R35): the thresholds after, and the spots with outcome UNREADABLE. -/
structure CalRecord where
  mode      : Option CalMode
  result    : CalResult
  steps     : Nat
  stray     : Bool
  before    : Option (List Nat × SpotMap)
  firstMiss : List (Option Nat)
  allMiss   : List (Option Nat)
  missCount : Option (List Nat)
  outcome   : Option (List Nat × SpotMap)
  reads     : Nat
  misses    : List Nat
deriving DecidableEq, Repr

/-- A lane's deck sensor (R28). -/
structure Deck where
  thresholds : List Nat
  unreadable : SpotMap
  rack       : RackState
  last       : Option LastRead
  cal        : CalRecord
deriving DecidableEq, Repr

/-! ## Scoring: the records the score engine writes (R41 to R43) -/

/-- Where a ball was bowled (R41), or frame 1 of a game (R66). -/
inductive BallLane where
  | A
  | B
  | remote
deriving DecidableEq, Repr

/-- A ball entry (R41). The maps are absent on a carried entry. -/
structure BallEntry where
  frame     : Nat
  ball      : Nat
  before    : Option SpotMap
  after     : Option SpotMap
  pins      : Nat
  foul      : Bool
  estimated : Bool
  split     : Bool
  corrected : Bool
  supplied  : Bool
  lane      : BallLane
deriving DecidableEq, Repr

/-- A frame's mark (R42). -/
inductive Mark where
  | strike
  | spare
  | opened
  | incomplete
deriving DecidableEq, Repr

/-- A frame record (R42). -/
structure FrameRec where
  balls : List BallEntry
  mark  : Mark
  score : Option Nat
  cum   : Option Nat
deriving DecidableEq, Repr

/-- A game's status (R43). -/
inductive GameStatus where
  | playing
  | complete
  | abandoned
deriving DecidableEq, Repr

/-- A game record (R43): ten frame slots, frame 1 first. -/
structure Game where
  name     : List Byte
  handicap : Nat
  number   : Nat
  frames   : List (Option FrameRec)
  status   : GameStatus
  charged  : Bool
  scratch  : Option Nat
  total    : Nat
  revision : Nat
deriving DecidableEq, Repr

/-! ## Session table (R65 to R87) -/

/-- A bowler entry (R66). -/
structure Bowler where
  name      : List Byte
  handicap  : Nat
  absent    : Bool
  completed : Nat
  game      : Option Game
  first     : BallLane
deriving DecidableEq, Repr

/-- The barrier of a session in WAIT_PARTNER (R65). -/
inductive Barrier where
  | start
  | frame (f : Nat)
deriving DecidableEq, Repr

/-- The transfer phase of a session in MOVING (R65). -/
inductive TransferPhase where
  | sending
  | committed
deriving DecidableEq, Repr

/-- The resume state of a SUSPENDED session (R65); the barrier is kept with WAIT_PARTNER (R86). -/
inductive ResumeState where
  | forming
  | playing
  | waitPartner (b : Barrier)
deriving DecidableEq, Repr

/-- The session states (R65), each with what is present only in it. -/
inductive SessionState where
  | forming
  | playing
  | waitPartner (b : Barrier)
  | waitMove
  | moving (p : TransferPhase)
  | suspended (r : ResumeState)
  | parked
deriving DecidableEq, Repr

/-- The turn field (R74). -/
inductive Turn where
  | none
  | outstanding
  | active
  | ended
deriving DecidableEq, Repr

/-- What is present from the first game onward (R65). -/
structure GamePos where
  number : Nat
  frame  : Nat
  lane   : LaneId
deriving DecidableEq, Repr

/-- A session record (R65). Bowler indices count from 1. -/
structure Session where
  id       : Nat
  home     : LaneId
  cross    : Bool
  state    : SessionState
  size     : Nat
  bowlers  : List Bowler
  pos      : Option GamePos
  turn     : Turn
  current  : Option Nat
  limit    : Nat
  discount : Nat
deriving DecidableEq, Repr

/-! ## Ball return (R88 to R102) -/

/-- Why the return jammed (R88). -/
inductive JamReason where
  | overfill
  | overdue
  | stall
deriving DecidableEq, Repr

/-- The return states (section 5.1); the jam reason is present only in JAMMED (R88). -/
inductive ReturnState where
  | idle
  | running
  | rackFull
  | jammed (r : JamReason)
  | purging
deriving DecidableEq, Repr

/-- A ball record of the transit list (R88). The age is in tenths of a second. -/
structure BallRecord where
  origin  : LaneId
  arrival : Option Nat
  age     : Nat
deriving DecidableEq, Repr

/-- The return record (R88). The timers hold what remains. -/
structure Return where
  state      : ReturnState
  transit    : List BallRecord
  rackFull   : Bool
  strain     : Bool
  purgeCount : Option Nat
  pend       : Option (Nat × Nat)
  runOn      : Option Nat
  purge      : Option Nat
deriving DecidableEq, Repr

/-! ## Lane meters and tariffs (R103 to R124) -/

/-- How a lane is billed (R104). -/
inductive BillMode where
  | game
  | time
  | none
deriving DecidableEq, Repr

/-- One entry of the subtotal map (R103). -/
structure Subtotal where
  band    : Nat
  seconds : Nat
  amount  : Nat
deriving DecidableEq, Repr

/-- Why a turn is held by the meter (R103). -/
inductive WaitReason where
  | credit
  | journal
deriving DecidableEq, Repr

/-- The admission wait (R103, R116). `charge` is the charge and band index computed, for a GAME lane. -/
structure AdmissionWait where
  reason   : WaitReason
  session  : Nat
  bowler   : Nat
  game     : Nat
  frame    : Nat
  discount : Nat
  charge   : Option (Nat × Nat)
deriving DecidableEq, Repr

/-- A meter record (R103). The subtotal map is kept in ascending band index. -/
structure Meter where
  isOpen    : Bool
  mode      : BillMode
  prepaid   : Bool
  balance   : Int
  total     : Nat
  residue   : Nat
  roundBand : Option Nat
  subtotals : List Subtotal
  paused    : Nat
  games     : Nat
  wait      : Option AdmissionWait
deriving DecidableEq, Repr

/-- A tariff band (R107). -/
structure Band where
  limit : Nat
  price : Nat
  rate  : Nat
deriving DecidableEq, Repr

/-- The live table (R107): band 0 first; no bands and no day start after retention loss. -/
structure LiveTariff where
  dayStart : Option Nat
  bands    : List Band
deriving DecidableEq, Repr

/-- Both copies of the tariff table (R107). The staged table has eight slots, slot 0 first. -/
structure Tariff where
  live   : LiveTariff
  staged : List (Option Band)
deriving DecidableEq, Repr

/-! ## Record store (R125 to R139) -/

/-- A station time: day 0..6 and second of day 0..86,399 (00_scope 4.2). -/
structure StationTime where
  day    : Nat
  second : Nat
deriving DecidableEq, Repr

/-- Why a lane was closed (R128). -/
inductive CloseReason where
  | request
  | forced
  | power
deriving DecidableEq, Repr

/-- The kinds of journal entry with their own fields (R128). -/
inductive JournalBody where
  | opening (mode : BillMode) (prepaid : Bool) (balance : Option Int)
  | game (session bowler number band price : Nat) (discount : Option Nat) (amount : Nat)
  | credit (added : Nat) (clamped : Bool) (balance : Int)
  | closing (reason : CloseReason) (total : Nat) (balance : Option Int) (paused : Nat) (list : Option (List Subtotal))
deriving DecidableEq, Repr

/-- A journal entry (R127). -/
structure JournalEntry where
  seq  : Nat
  lane : LaneId
  time : Option StationTime
  body : JournalBody
deriving DecidableEq, Repr

/-- A ball of an archived game (R134). -/
structure ArchivedBall where
  frame     : Nat
  ball      : Nat
  pins      : Nat
  foul      : Bool
  estimated : Bool
  split     : Bool
  corrected : Bool
  supplied  : Bool
  lane      : BallLane
deriving DecidableEq, Repr

/-- An archived game (R134). -/
structure ArchivedGame where
  serial   : Nat
  session  : Nat
  name     : List Byte
  handicap : Nat
  number   : Nat
  complete : Bool
  charged  : Bool
  scratch  : Option Nat
  total    : Option Nat
  first    : BallLane
  time     : Option StationTime
  balls    : List ArchivedBall
deriving DecidableEq, Repr

/-- The record store (R125). -/
structure Store where
  share      : Nat
  journal    : List JournalEntry
  lastSeq    : Nat
  archive    : List ArchivedGame
  nextSerial : Nat
  layoutHeld : Bool
deriving DecidableEq, Repr

/-! ## Spacing unit (R140 to R149) -/

/-- A start entry (R140). The arrival time is held as the entry's age, and W in use at its arrival as its life. The lane
is the byte the notice carried (R194). -/
structure StartEntry where
  station : Nat
  lane    : Nat
  age     : Nat
  life    : Nat
deriving DecidableEq, Repr

/-- A start request (R140), with the time the lane has waited (R145). -/
structure StartRequest where
  lane   : LaneId
  next   : NextPhase
  urgent : Bool
  waited : Nat
deriving DecidableEq, Repr

/-- The notice in the arbiter slot (R140), whether it is on the line, and whether its request has left without it: withdrawn
(R146), or granted in local mode (R148, log entry 29). -/
structure Notice where
  lane      : LaneId
  next      : NextPhase
  urgent    : Bool
  onLine    : Bool
  withdrawn : Bool
deriving DecidableEq, Repr

/-- The spacing unit (R140). -/
structure Spacing where
  window  : List StartEntry
  waiting : List StartRequest
  slot    : Option Notice
  passed  : Bool
  quiet   : Option Nat
  idle    : Nat
  isLocal : Bool
deriving DecidableEq, Repr

/-! ## Session transfer (R154 to R167) -/

/-- The part in hand on the source side (R154). DESIGN CHOICE (log entry 48): R154's next frame is read as the frame in hand,
and COMMIT is none of its values, for the record is COMMITTED from the event that queues COMMIT (R160). -/
inductive Part where
  | ident (i : Nat)
  | balls (i : Nat)
deriving DecidableEq, Repr

/-- The source side's states (R154); the part in hand is present in SENDING. -/
inductive SourceState where
  | waiting
  | offered
  | sending (p : Part)
  | committed
deriving DecidableEq, Repr

/-- The fields of an OFFER (R156). -/
structure OfferFields where
  size     : Nat
  number   : Nat
  frame    : Nat
  current  : Nat
  limit    : Nat
  discount : Nat
  lane     : LaneId
deriving DecidableEq, Repr

/-- The fields of an IDENT (R159). -/
structure IdentFields where
  name      : List Byte
  handicap  : Nat
  absent    : Bool
  charged   : Bool
  completed : Nat
deriving DecidableEq, Repr

/-- A ball as BALLS carries it (R159). -/
structure CarriedBall where
  pins      : Nat
  foul      : Bool
  estimated : Bool
  corrected : Bool
  split     : Bool
  supplied  : Bool
deriving DecidableEq, Repr

/-- The fields of a BALLS (R159): the ball count of each filled frame, and the ball list. -/
structure BallsFields where
  counts : List Nat
  balls  : List CarriedBall
deriving DecidableEq, Repr

/-- What the target has received of one bowler (R154). -/
structure BowlerParts where
  ident : Option IdentFields
  balls : Option BallsFields
deriving DecidableEq, Repr

/-- The transfer record (R154) by side. No tag is taken in WAITING (R155). `receiving` tells RECEIVING from ACCEPTED. -/
inductive TransferRec where
  | idle
  | source (state : SourceState) (tag : Option Nat) (peer : Nat) (lane : LaneId) (session : Nat)
      (requester : Nat × Nat) (timer : Option Nat)
  | target (receiving : Bool) (tag peer : Nat) (offer : OfferFields) (parts : List BowlerParts) (badStructure : Bool)
      (timer : Nat)
deriving DecidableEq, Repr

/-- The transfer unit (R154). -/
structure Transfer where
  record  : TransferRec
  lastTag : Nat
deriving DecidableEq, Repr

/-! ## Station control (R183 to R188) -/

/-- The setup record (R184): W and settle time in tenths of a second, the transit limit in seconds. -/
structure Setup where
  spacing : Nat
  window  : Nat
  settle  : Nat
  transit : Nat
  share   : Nat
  low     : Nat
  strain  : Nat
  stall   : Nat
deriving DecidableEq, Repr

/-- Where the setup came from (R183). -/
inductive SetupSource where
  | desk
  | peer
  | builtIn
deriving DecidableEq, Repr

/-- The causes in the reset cause record (R188). -/
inductive Cause where
  | powerOn
  | retentionLost
  | warm (c : WarmCause)
deriving DecidableEq, Repr

/-- Station control (R183). `pair` absent is a mute station (R182). The station is CONFIGURED, and its setup locked,
exactly when `source` is present; `setup` holds the built-in defaults until then (R184). The clock is valid exactly when
present (R186). `resetDue` is the time left of a STATION_RESET taken (R188). `lineHeld` and `brownHeld` hold the station
in reset (R187, R188). -/
structure Control where
  pair      : Option Nat
  setup     : Setup
  source    : Option SetupSource
  setupWait : Option Nat
  answers   : List (Nat × Nat)
  clock     : Option StationTime
  supplyLow : Bool
  cause     : Cause
  warmCount : Nat
  resetDue  : Option Nat
  lineHeld  : Bool
  brownHeld : Bool
deriving DecidableEq, Repr

/-! ## What the station sends (R153, R178, R82, R156 to R163, R184) -/

/-- The requests by name (R175), and what else a reply can answer: a setup answer (R184) and an unknown code (R176). -/
inductive ReqName where
  | hold | release | setHoldMode | laneReset | clearFault | calibrate | clearJam | setGroup | setCensusSilent
  | stationReset
  | startSession | addBowler | beginSession | setHandicap | setAbsent | endSession | correctFrame | moveSession
  | resumeParked | discardParked
  | openLane | closeLane | addCredit | tariffBand | tariffCommit | releaseJournal | archiveClear
  | laneStatus | stationStatus | session | game | calibration | journal | resetCause | archive
  | setup
  | unknown (code : Nat)
deriving DecidableEq, Repr

/-- The refusal reasons (R178), in its order. -/
inductive RefuseReason where
  | notPermitted | busy | state | range | noClock | journalFull | noSession | badStructure | inFrame | tariffOrder
  | cross | laneTaken | notFound | locked | unknown
deriving DecidableEq, Repr

/-- The results of a reply (R178). -/
inductive Result where
  | done
  | accepted
  | clamped
  | failed
  | refused (r : RefuseReason)
deriving DecidableEq, Repr

/-- The reasons of an ANSWER (R157, R161, R192). -/
inductive AnswerReason where
  | laneClosed | laneTaken | tableFull | busy | notPermitted | incomplete | badStructure
deriving DecidableEq, Repr

/-- The step a failed move names (R192), with the bowler of the part in hand. -/
inductive MoveStep where
  | offer
  | ident (i : Nat)
  | balls (i : Nat)
  | commit
deriving DecidableEq, Repr

/-- The admission answers (R116). -/
inductive Admission where
  | admitted
  | holdCredit
  | holdJournal
deriving DecidableEq, Repr

/-- The cycle record as LANE_STATUS shows it (R25). -/
structure CycleView where
  kind     : CycleKind
  read     : Bool
  origin   : Origin
  restart  : Nat
  frameEnd : Bool
  ball     : Option (Bool × Bool)
deriving DecidableEq, Repr

/-- The fault record as LANE_STATUS shows it (R25). -/
structure FaultView where
  phase    : Phase
  repeated : Bool
  retained : Option (Origin × Nat)
deriving DecidableEq, Repr

/-- The state names (section 1.1). -/
inductive SeqName where
  | standby | armed | settling | spacing | reading | clearing | setting | held | calibrating | fault
deriving DecidableEq, Repr

/-- The LANE_STATUS report (R25, R101, R122, R181). `runs` is present for an open TIME lane. -/
structure LaneStatusView where
  state       : SeqName
  point       : Option HoldPoint
  next        : Option NextPhase
  holds       : HoldSet
  mode        : HoldMode
  cycle       : Option CycleView
  fault       : Option FaultView
  foul        : Bool
  stray       : Bool
  pend        : Option ReqName
  ret         : ReturnState
  meter       : Meter
  runs        : Option Bool
  sessions    : List (Nat × SessionState)
  current     : Option (Nat × Nat)
  outstanding : List Nat
deriving DecidableEq, Repr

/-- STATION_STATUS part 6, a side of the transfer record (R167). -/
structure TransferView where
  record  : TransferRec
  received : List (Bool × Bool)
  lastTag : Nat
deriving DecidableEq, Repr

/-- The seven parts of STATION_STATUS (R181). -/
inductive StationPart where
  | control (pair : Option Nat) (source : Option SetupSource) (locked : Bool) (clock : Option StationTime)
      (supplyLow : Bool) (group : Nat) (groupOn silent : Bool) (queued : Nat)
  | ret (state : ReturnState) (rackFull strain power : Bool) (purgeCount : Option Nat) (pending : Bool)
      (transit : List BallRecord)
  | live (t : LiveTariff)
  | staged (t : List (Option Band))
  | store (share : Nat) (layoutHeld : Bool) (capacity held free : Nat) (oldest newest : Option Nat) (lastSeq : Nat)
      (archiveCap games : Nat) (newestSerial : Option Nat)
  | spacing (window : List (Nat × Nat × Nat)) (waiting : List (LaneId × NextPhase × Bool)) (offered : Bool)
      (quiet : Option Nat) (isLocal : Bool)
  | transfer (v : TransferView)
deriving DecidableEq, Repr

/-- The parts of SESSION (R84). -/
inductive SessionPart where
  | head (id : Nat) (home : LaneId) (cross : Bool) (partner : Option Nat) (state : SessionState) (size filled : Nat)
      (pos : Option GamePos) (turn : Turn) (current : Option Nat) (limit discount : Nat)
  | bowler (name : List Byte) (handicap : Nat) (absent : Bool) (completed : Nat) (first : BallLane)
      (game : Option (Nat × GameStatus × Bool × Nat × Nat))
deriving DecidableEq, Repr

/-- The parts of GAME (R63). -/
inductive GameBody where
  | head (session bowler : Nat) (name : List Byte) (handicap number : Nat) (status : GameStatus) (charged : Bool)
      (scratch : Option Nat) (total : Nat)
  | frames (fs : List (Option (Mark × Option Nat × Option Nat)))
  | balls (bs : List BallEntry)
deriving DecidableEq, Repr

/-- The parts of CALIBRATION (R39, R193). -/
inductive CalPart where
  | head (thresholds : List Nat) (unreadable : SpotMap) (rack : RackState) (mode : Option CalMode) (result : CalResult)
      (steps : Nat) (stray : Bool)
  | last (r : Option LastRead)
  | first (before : Option (List Nat × SpotMap)) (firstMiss : List (Option Nat))
  | all (allMiss : List (Option Nat)) (missCount : Option (List Nat))
  | outcome (o : Option (List Nat × SpotMap))
deriving DecidableEq, Repr

/-- The parts of JOURNAL (R132). -/
inductive JournalPart where
  | entry (e : JournalEntry) (oldest newest : Nat)
  | items (seq count : Nat) (list : List Subtotal)
deriving DecidableEq, Repr

/-- The parts of ARCHIVE (R136). -/
inductive ArchivePart where
  | head (g : ArchivedGame) (held : Nat)
  | balls (serial : Nat) (bs : List ArchivedBall)
deriving DecidableEq, Repr

/-- The contents of a report (R181). -/
inductive Report where
  | lane (v : LaneStatusView)
  | station (p : StationPart)
  | session (p : SessionPart)
  | game (revision entries : Nat) (b : GameBody)
  | calibration (p : CalPart)
  | journal (p : JournalPart)
  | archive (p : ArchivePart)
  | resetCause (cause : Cause) (count : Nat) (source : Option SetupSource) (clockValid : Bool)
deriving DecidableEq, Repr

/-- The result data of a reply (R178), as each owning rule names it. -/
inductive ReplyData where
  | none
  | sessionId (id : Nat)
  | bowlerIndex (i : Nat)
  | balance (b : Int)
  | counts (good unreadable : Nat)
  | calResult (r : CalResult)
  | purged (n : Nat)
  | freed (n : Nat) (upTo : Option Nat)
  | removed (n : Nat)
  | held (oldest newest : Option Nat)
  | moved (session station : Nat)
  | moveFailed (step : MoveStep) (reason : Option AnswerReason)
  | report (r : Report)
deriving DecidableEq, Repr

/-- A reply (R178). -/
structure Reply where
  req      : ReqName
  tag      : Nat
  deferred : Bool
  result   : Result
  data     : ReplyData
deriving DecidableEq, Repr

/-- What both kinds of display update carry (R82). -/
structure DisplayHead where
  lane    : LaneId
  session : Nat
  bowler  : Nat
  name    : List Byte
  number  : Nat
  frame   : Nat
  scores  : List (Option Nat)
  known   : Nat
  total   : Nat
deriving DecidableEq, Repr

/-- A display update (R82). -/
inductive Display where
  | ball (h : DisplayHead) (ball pins : Nat) (foul split estimated : Bool) (mark : Mark)
  | turn (h : DisplayHead) (answer : Admission)
deriving DecidableEq, Repr

/-- The fault notices (R153). -/
inductive FaultNotice where
  | fault (lane : LaneId) (phase : Phase)
  | jam (r : JamReason)
  | strain (sample : Nat)
  | creditLow (lane : LaneId) (balance : Int)
  | supplyLow
  | sessionParked (id : Nat)
deriving DecidableEq, Repr

/-- A transfer frame's kind and fields (R156 to R163). -/
inductive TransferMsg where
  | offer (f : OfferFields)
  | answer (declined : Option AnswerReason)
  | ident (i : Nat) (f : IdentFields)
  | balls (i : Nat) (f : BallsFields)
  | commit
  | done
deriving DecidableEq, Repr

/-- What a frame of the outbound queue carries; it fixes the frame's class (`Payload.cls`). -/
inductive Payload where
  | reply (r : Reply)
  | display (d : Display)
  | notice (n : FaultNotice)
  | transfer (tag : Nat) (m : TransferMsg)
  | setupRequest
  | setupAnswer (s : Setup)
deriving DecidableEq, Repr

/-- Who is told how a queued frame's transmission ended: the transfer unit (R173), or station control for the reply
to a STATION_RESET (R188). -/
inductive FrameMark where
  | none
  | transfer
  | stationReset
deriving DecidableEq, Repr

/-- A frame of the outbound queue (R173); `onLine` while it is being transmitted. -/
structure QueuedFrame where
  dest    : Nat
  payload : Payload
  mark    : FrameMark
  onLine  : Bool
deriving DecidableEq, Repr

/-! ## Link controller (R168 to R182) -/

/-- The link controller. `lineIdle` says that the line is idle and nothing has begun since (R142, R169). `ack` and
`response` are the line's own: the acknowledgement slot and the census position the station drove in the frame last
received (R170, R150); they are the model's, for the station keeps no record of them (log entry 4). -/
structure Link where
  queue    : List QueuedFrame
  group    : Nat
  groupOn  : Bool
  lineIdle : Bool
  ack      : Bool
  response : Option Nat
deriving DecidableEq, Repr

/-! ## The whole station -/

/-- The state of the 820. `pending` is the queue of commands that wait, first in, first out. `free` counts the free
values drawn so far; it is the model's own (log entry 15). -/
structure State where
  pending  : List Instr
  seqs     : Pair Sequencer
  decks    : Pair Deck
  meters   : Pair Meter
  sessions : List Session
  nextId   : Nat
  ret      : Return
  tariff   : Tariff
  store    : Store
  spacing  : Spacing
  silent   : Bool
  transfer : Transfer
  link     : Link
  ctl      : Control
  free     : Nat
deriving DecidableEq, Repr

/-- Why the machine stops with a fault: no command of the 820 does. Every command the manual lists has an effect in every
state, so there is no reason to name, and none is raised. -/
inductive Fault where
deriving DecidableEq, Repr

/-- Why a command is refused by the model. -/
inductive Refusal where
  /-- `exec` has no meaning for the command yet. Raised by no arm. Safe: the model stops. -/
  | notModelled (mnemonic : String)
deriving DecidableEq, Repr

/-! ## Values at power-on with retention lost -/

/-- The empty hold set (R26). -/
def HoldSet.empty : HoldSet := ⟨false, false, false, false, false, false⟩

/-- A lane sequencer at power-on (R26). -/
def Sequencer.powerOn : Sequencer :=
  { state := .standby, cycle := none, holds := .empty, mode := .none, foul := false, stray := false, pend := none,
    timer := none }

/-- The calibration record at power-on: result NONE, no per-spot parts (R40). DESIGN CHOICE (log entry 46): its mode is absent,
its steps completed are 0 and its stray-ball flag is clear, for which R40 gives no value. -/
def CalRecord.empty : CalRecord :=
  { mode := none, result := .none, steps := 0, stray := false, before := none, firstMiss := List.replicate 10 none,
    allMiss := List.replicate 10 none, missCount := none, outcome := none, reads := 0, misses := List.replicate 10 0 }

/-- A deck sensor at power-on with retention lost (R40). -/
def Deck.lost : Deck :=
  { thresholds := List.replicate 10 Config.defaultThreshold, unreadable := noSpots, rack := .empty, last := none,
    cal := .empty }

/-- A meter record at power-on with retention lost (R124). -/
def Meter.lost : Meter :=
  { isOpen := false, mode := .none, prepaid := false, balance := 0, total := 0, residue := 0, roundBand := none,
    subtotals := [], paused := 0, games := 0, wait := none }

/-- The tariff tables after retention loss (R107, R124). -/
def Tariff.lost : Tariff := { live := { dayStart := none, bands := [] }, staged := List.replicate 8 none }

/-- The record store after retention loss (R139). -/
def Store.lost : Store :=
  { share := 24, journal := [], lastSeq := 0, archive := [], nextSerial := 1, layoutHeld := false }

/-- The built-in defaults (R184). -/
def Setup.builtIn : Setup :=
  { spacing := 3, window := 20, settle := 18, transit := 12, share := 24, low := 500, strain := 150, stall := 210 }

/-- The return at power-on, with the rack-full sensor's level (R102). -/
def Return.powerOn (rackFull : Bool) : Return :=
  { state := .idle, transit := [], rackFull := rackFull, strain := false, purgeCount := none, pend := none,
    runOn := none, purge := none }

/-- The spacing unit after a reset, with the quiet period of the window in use (R147, R149). -/
def Spacing.reset (window : Nat) : Spacing :=
  { window := [], waiting := [], slot := none, passed := false, quiet := some (window * 100), idle := Config.idleWatch,
    isLocal := false }

/-- The setup request a station that is not mute queues (R184). -/
def setupRequestFrame : QueuedFrame := { dest := 255, payload := .setupRequest, mark := .none, onLine := false }

/-- The machine right after reset: power-on with retention lost, the straps reading `Config.resetStrap`, the rack-full
sensor deasserted and the supply above its warning level (R183 and each block's power-on column; log entries 1 to 3). -/
def State.reset : State :=
  { pending := []
    seqs := ⟨.powerOn, .powerOn⟩
    decks := ⟨.lost, .lost⟩
    meters := ⟨.lost, .lost⟩
    sessions := []
    nextId := 1
    ret := .powerOn false
    tariff := .lost
    store := .lost
    spacing := .reset 20
    silent := false
    transfer := { record := .idle, lastTag := 0 }
    link := { queue := [setupRequestFrame], group := 0, groupOn := false, lineIdle := false, ack := false,
              response := none }
    ctl := { pair := some Config.resetStrap, setup := .builtIn, source := none, setupWait := some Config.setupWait,
             answers := [], clock := none, supplyLow := false, cause := .retentionLost, warmCount := 0,
             resetDue := none, lineHeld := false, brownHeld := false }
    free := 0 }

end Sys2Proof.Machine
end

