-- ==== Sys2Proof/Machine/Flags.lean ====
section
/-! DEFINITION. The hold set, what applies where, and the outputs that follow from the state: the sweep guard, the motors,
the sense pass asked for, the lift and the return's power demand. -/

namespace Sys2Proof.Machine

/-! ## Hold reasons (R13 to R15) -/

/-- Whether a reason is in the set. -/
def HoldSet.has (h : HoldSet) : HoldReason → Bool
  | .eachBall => h.eachBall
  | .frameEnd => h.frameEnd
  | .desk => h.desk
  | .credit => h.credit
  | .journal => h.journal
  | .ret => h.ret

/-- Write one reason's membership. -/
def HoldSet.put (h : HoldSet) (r : HoldReason) (v : Bool) : HoldSet :=
  match r with
  | .eachBall => { h with eachBall := v }
  | .frameEnd => { h with frameEnd := v }
  | .desk => { h with desk := v }
  | .credit => { h with credit := v }
  | .journal => { h with journal := v }
  | .ret => { h with ret := v }

/-- The set holds no reason. -/
def HoldSet.isEmpty (h : HoldSet) : Bool :=
  !(h.eachBall || h.frameEnd || h.desk || h.credit || h.journal || h.ret)

/-- Some reason in the set applies at the hold point (R15). -/
def HoldSet.appliesAt (h : HoldSet) : HoldPoint → Bool
  | .read => h.eachBall
  | .rack frameEnding => (frameEnding && h.frameEnd) || h.desk || h.credit || h.journal || h.ret

/-- The reasons that apply in ARMED (R13, R14): all but EACH_BALL and FRAME_END. -/
def HoldReason.appliesArmed : HoldReason → Bool
  | .eachBall | .frameEnd => false
  | .desk | .credit | .journal | .ret => true

/-- What RELEASE leaves (R18). -/
def HoldSet.released (h : HoldSet) : HoldSet := { h with eachBall := false, frameEnd := false, desk := false }

/-- What a lane reset and a warm reset leave: CREDIT and JOURNAL (R23, R27). -/
def HoldSet.kept (h : HoldSet) : HoldSet := { HoldSet.empty with credit := h.credit, journal := h.journal }

/-- A reason that pauses a TIME meter is in the set (R111). -/
def HoldSet.pauses (h : HoldSet) : Bool := h.credit || h.journal || h.ret

/-! ## Sequencer states -/

/-- The state's name (section 1.1). -/
def SeqState.name : SeqState → SeqName
  | .standby => .standby
  | .armed => .armed
  | .settling => .settling
  | .spacing _ => .spacing
  | .reading => .reading
  | .clearing => .clearing
  | .setting => .setting
  | .held _ => .held
  | .calibrating => .calibrating
  | .fault _ => .fault

/-- The lane is in FAULT. -/
def SeqState.isFault : SeqState → Bool
  | .fault _ => true
  | _ => false

/-- The lane is in HELD, at either point. -/
def SeqState.isHeld : SeqState → Bool
  | .held _ => true
  | _ => false

/-- A calibration is in flight: waiting for its grant or reading (R37). -/
def SeqState.inCalibration : SeqState → Bool
  | .calibrating => true
  | .spacing .calibrating => true
  | _ => false

/-- The cycle record a lane has in flight, or retains in its fault record (R2, R27). -/
def Sequencer.lostCycle (q : Sequencer) : Option Cycle :=
  match q.state with
  | .fault f => f.retained
  | _ => q.cycle

/-- The cycle places gripped pins back. -/
def CycleKind.isRespot : CycleKind → Bool
  | .full => false
  | .respot _ => true

/-! ## Fault codes (R10) -/

/-- The fault codes (R10). -/
inductive FaultCode where
  | readTimeout
  | clearTimeout
  | setTimeout
  | calTimeout
deriving DecidableEq, Repr

/-- The code that belongs to the phase (R10). -/
def Phase.code : Phase → FaultCode
  | .reading => .readTimeout
  | .clearing => .clearTimeout
  | .setting => .setTimeout
  | .calibrating => .calTimeout

/-! ## Outputs

While the station is held in reset they are those of the state before the hold (DESIGN CHOICE, log entry 59). -/

/-- The sweep guard is up in ARMED and down in every other state (section 1.1). -/
def SeqState.guardUp : SeqState → Bool
  | .armed => true
  | _ => false

/-- The motors a sequencer demands (section 1.1). -/
inductive Motor where
  | stopped
  | deckDrive
  | sweepDrive
deriving DecidableEq, Repr

/-- The motor demand of each state (section 1.1). -/
def SeqState.motor : SeqState → Motor
  | .reading | .setting | .calibrating => .deckDrive
  | .clearing => .sweepDrive
  | _ => .stopped

/-- The sense pass asked of the pinsetter, counted from 1 over the calibration, one at a time: the first from the grant on
(R32), the next one in the event of each read that is not the last (R33). Outside CALIBRATING none is asked for (log entry
51). -/
def sensePass (q : Sequencer) (d : Deck) : Option Nat :=
  match q.state with
  | .calibrating => some (4 * d.cal.steps + d.cal.reads + 1)
  | _ => none

/-- The lift runs in RUNNING and PURGING (section 5.1). -/
def ReturnState.liftRuns : ReturnState → Bool
  | .running | .purging => true
  | _ => false

/-- The return is JAMMED. -/
def ReturnState.isJammed : ReturnState → Bool
  | .jammed _ => true
  | _ => false

/-- The return's power demand (R100). -/
def powerDemand (meters : Pair Meter) (r : Return) : Bool :=
  meters.a.isOpen || meters.b.isOpen || !r.transit.isEmpty || r.state.liftRuns

end Sys2Proof.Machine
end

