-- ==== Sys2Proof/Machine/Operands.lean ====
section
/-! DEFINITION. How the operands of a frame-borne command are read: the bytes of a payload by R191, the request fields of
each request in the order its rule lists them, the address map of R171 and the access rule of R177. -/

namespace Sys2Proof.Machine

/-! ## Numbers, lanes, flags (R191) -/

/-- The other lane of the pair. -/
def other : LaneId → LaneId
  | .A => .B
  | .B => .A

/-- A lane as a ball's lane (R41). -/
def ballLane : LaneId → BallLane
  | .A => .A
  | .B => .B

/-- A lane as it is written: A 0, B 1 (R191). -/
def laneCode : LaneId → Nat
  | .A => 0
  | .B => 1

/-- A number wider than one byte, most significant byte first (R191). -/
def bigEndian (bs : List Byte) : Nat := bs.foldl (fun n b => n * 256 + b.toNat) 0

/-- The number in the `n` bytes from `off` on, absent where the payload ends before them (R194). -/
def numAt (bs : List Byte) (off n : Nat) : Option Nat :=
  if off + n ≤ bs.length then some (bigEndian ((bs.drop off).take n)) else none

/-- The byte at `off` as a number. -/
def byteAt (bs : List Byte) (off : Nat) : Option Nat := (bs[off]?).map BitVec.toNat

/-- A lane value: A 0, B 1 (R191). -/
def laneOf : Nat → Option LaneId
  | 0 => some .A
  | 1 => some .B
  | _ => none

/-- A flag or option in one byte (R191): any value but 0 is set (log entry 18). -/
def flagOf (n : Nat) : Bool := n != 0

/-- A name in a request or an IDENT ends at the first 0 byte or at the end of its field (R191). -/
def nameField (bs : List Byte) : List Byte := bs.takeWhile (· != 0)

/-- A printable character code, 32..126 (R66). -/
def printable (b : Byte) : Bool := 32 ≤ b.toNat && b.toNat ≤ 126

/-- A name as it enters the table: other characters become '?' and the rest beyond the twelfth is dropped (R66). -/
def enterName (bs : List Byte) : List Byte := (bs.take 12).map fun b => if printable b then b else 63#8

/-- A handicap as it enters the table (R66). -/
def enterHandicap (n : Nat) : Nat := min n 255

/-! ## Addresses (R171, R172, R177) -/

/-- What a link address is to the station with pair address `pair` (R171, R177). -/
inductive SenderKind where
  | desk
  | ownConsole
  | reader
  | stranger
deriving DecidableEq, Repr

/-- A desk station, 240..247. -/
def isDesk (a : Nat) : Bool := 240 ≤ a && a ≤ 247
/-- A console, 65..124. -/
def isConsole (a : Nat) : Bool := 65 ≤ a && a ≤ 124
/-- A pair controller, 1..60. -/
def isPair (a : Nat) : Bool := 1 ≤ a && a ≤ 60

/-- The sender's kind (R177). -/
def senderKind (pair a : Nat) : SenderKind :=
  if isDesk a then .desk
  else if isConsole a && a == 64 + pair then .ownConsole
  else if isConsole a || isPair a then .reader
  else .stranger

/-- Who may make a request (R175). -/
inductive Access where
  | deskOnly
  | deskOrConsole
  | anyReader
deriving DecidableEq, Repr

/-- The access rule (R177). -/
def Access.permits : Access → SenderKind → Bool
  | _, .desk => true
  | .deskOnly, _ => false
  | .deskOrConsole, k => k == .ownConsole
  | .anyReader, k => k != .stranger

/-- The destinations the station accepts (R172): its pair address, its group's address while enabled, broadcast. -/
def accepts (pair : Option Nat) (group : Nat) (groupOn : Bool) (dest : Nat) : Bool :=
  pair == some dest || (groupOn && dest == 127 + group) || dest == 255

/-! ## Request fields, in the order the owning rules name them (R191; log entries 17 and 18) -/

/-- HOLD(lane, reason) (R17). -/
structure HoldArgs where
  lane   : Nat
  reason : Nat
deriving DecidableEq, Repr

/-- HOLD's reasons by position in R17: DESK 0, EACH_BALL 1, FRAME_END 2 (R191, log entry 17). -/
def holdReasonOf : Nat → Option HoldReason
  | 0 => some .desk
  | 1 => some .eachBall
  | 2 => some .frameEnd
  | _ => none

/-- Hold modes by position in R16: NONE 0, EACH_BALL 1, FRAME_END 2. -/
def holdModeOf : Nat → Option HoldMode
  | 0 => some .none
  | 1 => some .eachBall
  | 2 => some .frameEnd
  | _ => none

/-- Billing modes by position in R103: GAME 0, TIME 1, NONE 2. -/
def billModeOf : Nat → Option BillMode
  | 0 => some .game
  | 1 => some .time
  | 2 => some .none
  | _ => none

/-- No fields. -/
def parseNone (_ : List Byte) : Option Unit := some ()

/-- One field of one byte. -/
def parse1 (bs : List Byte) : Option Nat := byteAt bs 0

/-- Two fields of one byte. -/
def parse2 (bs : List Byte) : Option (Nat × Nat) := do
  let x ← byteAt bs 0
  let y ← byteAt bs 1
  pure (x, y)

/-- Three fields of one byte. -/
def parse3 (bs : List Byte) : Option (Nat × Nat × Nat) := do
  let x ← byteAt bs 0
  let y ← byteAt bs 1
  let z ← byteAt bs 2
  pure (x, y, z)

/-- HOLD (R17). -/
def parseHold (bs : List Byte) : Option HoldArgs := do
  let lane ← byteAt bs 0
  let reason ← byteAt bs 1
  pure { lane, reason }

/-- CALIBRATE(lane, mode, step): the step is a field in SINGLE_STEP mode only, SWEEP 0, SINGLE_STEP 1 (R31). -/
structure CalArgs where
  lane : Nat
  mode : Nat
  step : Nat
deriving DecidableEq, Repr

/-- CALIBRATE (R31). -/
def parseCalibrate (bs : List Byte) : Option CalArgs := do
  let lane ← byteAt bs 0
  let mode ← byteAt bs 1
  if mode = 1 then
    let step ← byteAt bs 2
    pure { lane, mode, step }
  else
    pure { lane, mode, step := 0 }

/-- START_SESSION(lane, n, cross, game limit, discount) (R68). -/
structure StartArgs where
  lane     : Nat
  size     : Nat
  cross    : Bool
  limit    : Nat
  discount : Nat
deriving DecidableEq, Repr

/-- START_SESSION (R68). -/
def parseStart (bs : List Byte) : Option StartArgs := do
  let lane ← byteAt bs 0
  let size ← byteAt bs 1
  let cross ← byteAt bs 2
  let limit ← byteAt bs 3
  let discount ← byteAt bs 4
  pure { lane, size, cross := flagOf cross, limit, discount }

/-- ADD_BOWLER(session, handicap, absent, name): the name is the last field (R69, R191); a handicap has two bytes (R66). -/
structure BowlerArgs where
  session  : Nat
  handicap : Nat
  absent   : Bool
  name     : List Byte
deriving DecidableEq, Repr

/-- ADD_BOWLER (R69). -/
def parseBowler (bs : List Byte) : Option BowlerArgs := do
  let session ← byteAt bs 0
  let handicap ← numAt bs 1 2
  let absent ← byteAt bs 3
  pure { session, handicap, absent := flagOf absent, name := nameField (bs.drop 4) }

/-- SET_HANDICAP(session, bowler, handicap) (R71). -/
def parseHandicap (bs : List Byte) : Option (Nat × Nat × Nat) := do
  let session ← byteAt bs 0
  let bowler ← byteAt bs 1
  let handicap ← numAt bs 2 2
  pure (session, bowler, handicap)

/-- CORRECT_FRAME(session, bowler, frame, pinfalls): the list runs to the end of the payload, a byte a ball (R60). -/
structure CorrectArgs where
  session : Nat
  bowler  : Nat
  frame   : Nat
  pins    : List Nat
deriving DecidableEq, Repr

/-- CORRECT_FRAME (R60). -/
def parseCorrect (bs : List Byte) : Option CorrectArgs := do
  let session ← byteAt bs 0
  let bowler ← byteAt bs 1
  let frame ← byteAt bs 2
  pure { session, bowler, frame, pins := (bs.drop 3).map BitVec.toNat }

/-- MOVE_SESSION(session, station, lane, force) (R155). -/
structure MoveArgs where
  session : Nat
  station : Nat
  lane    : Nat
  force   : Bool
deriving DecidableEq, Repr

/-- MOVE_SESSION (R155). -/
def parseMove (bs : List Byte) : Option MoveArgs := do
  let session ← byteAt bs 0
  let station ← byteAt bs 1
  let lane ← byteAt bs 2
  let force ← byteAt bs 3
  pure { session, station, lane, force := flagOf force }

/-- OPEN_LANE(lane, mode, prepaid, initial credit) (R105). -/
structure OpenArgs where
  lane    : Nat
  mode    : Nat
  prepaid : Bool
  credit  : Nat
deriving DecidableEq, Repr

/-- OPEN_LANE (R105). -/
def parseOpen (bs : List Byte) : Option OpenArgs := do
  let lane ← byteAt bs 0
  let mode ← byteAt bs 1
  let prepaid ← byteAt bs 2
  let credit ← numAt bs 3 4
  pure { lane, mode, prepaid := flagOf prepaid, credit }

/-- ADD_CREDIT(lane, amount): the amount, 1..200,000, has three bytes (R117, R191). -/
def parseCredit (bs : List Byte) : Option (Nat × Nat) := do
  let lane ← byteAt bs 0
  let amount ← numAt bs 1 3
  pure (lane, amount)

/-- TARIFF_BAND(slot, limit, price, rate) (R109). -/
structure BandArgs where
  slot : Nat
  band : Band
deriving DecidableEq, Repr

/-- TARIFF_BAND (R109). -/
def parseBand (bs : List Byte) : Option BandArgs := do
  let slot ← byteAt bs 0
  let limit ← numAt bs 1 2
  let price ← numAt bs 3 2
  let rate ← numAt bs 5 2
  pure { slot, band := { limit, price, rate } }

/-- TARIFF_COMMIT(n, D) (R110). -/
def parseCommit (bs : List Byte) : Option (Nat × Nat) := do
  let n ← byteAt bs 0
  let d ← numAt bs 1 2
  pure (n, d)

/-- RELEASE_JOURNAL(s) (R131). -/
def parseSeq (bs : List Byte) : Option Nat := numAt bs 0 4

/-- JOURNAL(sequence, part, first item): the item is taken as 0 when the payload ends before it (R132, R193), or when it is
all ones and so absent (R191). -/
def parseJournal (bs : List Byte) : Option (Nat × Nat × Nat) := do
  let seq ← numAt bs 0 4
  let part ← byteAt bs 4
  let first := (byteAt bs 5).getD 0
  pure (seq, part, if first = 255 then 0 else first)

/-! ## Request names and codes (R175, R191) -/

/-- The request of a class that a code names: its position in R175's table, counting from 1. -/
def reqOf : ReqClass → Nat → Option ReqName
  | .lane, 1 => some .hold
  | .lane, 2 => some .release
  | .lane, 3 => some .setHoldMode
  | .lane, 4 => some .laneReset
  | .lane, 5 => some .clearFault
  | .lane, 6 => some .calibrate
  | .lane, 7 => some .clearJam
  | .lane, 8 => some .setGroup
  | .lane, 9 => some .setCensusSilent
  | .lane, 10 => some .stationReset
  | .session, 1 => some .startSession
  | .session, 2 => some .addBowler
  | .session, 3 => some .beginSession
  | .session, 4 => some .setHandicap
  | .session, 5 => some .setAbsent
  | .session, 6 => some .endSession
  | .session, 7 => some .correctFrame
  | .session, 8 => some .moveSession
  | .session, 9 => some .resumeParked
  | .session, 10 => some .discardParked
  | .billing, 1 => some .openLane
  | .billing, 2 => some .closeLane
  | .billing, 3 => some .addCredit
  | .billing, 4 => some .tariffBand
  | .billing, 5 => some .tariffCommit
  | .billing, 6 => some .releaseJournal
  | .billing, 7 => some .archiveClear
  | .report, 1 => some .laneStatus
  | .report, 2 => some .stationStatus
  | .report, 3 => some .session
  | .report, 4 => some .game
  | .report, 5 => some .calibration
  | .report, 6 => some .journal
  | .report, 7 => some .resetCause
  | .report, 8 => some .archive
  | _, _ => none

/-- The request code a reply repeats (R178, R191); SETUP is code 0 (R192). -/
def ReqName.code : ReqName → Nat
  | .hold => 1 | .release => 2 | .setHoldMode => 3 | .laneReset => 4 | .clearFault => 5 | .calibrate => 6
  | .clearJam => 7 | .setGroup => 8 | .setCensusSilent => 9 | .stationReset => 10
  | .startSession => 1 | .addBowler => 2 | .beginSession => 3 | .setHandicap => 4 | .setAbsent => 5
  | .endSession => 6 | .correctFrame => 7 | .moveSession => 8 | .resumeParked => 9 | .discardParked => 10
  | .openLane => 1 | .closeLane => 2 | .addCredit => 3 | .tariffBand => 4 | .tariffCommit => 5
  | .releaseJournal => 6 | .archiveClear => 7
  | .laneStatus => 1 | .stationStatus => 2 | .session => 3 | .game => 4 | .calibration => 5 | .journal => 6
  | .resetCause => 7 | .archive => 8
  | .setup => 0
  | .unknown c => c

/-- Who may make each request (R175). A reply that answers no request has no access rule. -/
def ReqName.access : ReqName → Access
  | .hold | .release | .setHoldMode | .clearJam | .correctFrame => .deskOrConsole
  | .startSession | .addBowler | .beginSession | .setHandicap | .setAbsent | .endSession => .deskOrConsole
  | .laneReset | .clearFault | .calibrate | .setGroup | .setCensusSilent | .stationReset => .deskOnly
  | .moveSession | .resumeParked | .discardParked => .deskOnly
  | .openLane | .closeLane | .addCredit | .tariffBand | .tariffCommit | .releaseJournal | .archiveClear => .deskOnly
  | .archive => .deskOnly
  | .laneStatus | .stationStatus | .session | .game | .calibration | .journal | .resetCause => .anyReader
  | .setup | .unknown _ => .deskOnly

/-! ## Transfer and setup payloads (R192) -/

/-- The reasons of an ANSWER by code (R192). -/
def answerReasonOf : Nat → Option AnswerReason
  | 1 => some .laneClosed
  | 2 => some .laneTaken
  | 3 => some .tableFull
  | 4 => some .busy
  | 5 => some .notPermitted
  | 6 => some .incomplete
  | 7 => some .badStructure
  | _ => none

/-- An ANSWER's fields (R192): ACCEPT (`none`) or DECLINE with its reason; a value outside its list is ignored (R194). DEDUCED
(log entry 56): so is a pair that does not go together, ACCEPT with a reason other than 0 and DECLINE with reason 0. -/
def parseAnswer (bs : List Byte) : Option (Option AnswerReason) := do
  let result ← byteAt bs 0
  let reason ← byteAt bs 1
  if result = 0 ∧ reason = 0 then pure none
  else if result = 1 then
    let r ← answerReasonOf reason
    pure (some r)
  else none

/-- An OFFER's fields (R192), absent when short or out of the ranges of R65 (R157, R194). -/
def parseOffer (bs : List Byte) : Option OfferFields := do
  let size ← byteAt bs 0
  let number ← byteAt bs 1
  let frame ← byteAt bs 2
  let current ← byteAt bs 3
  let limit ← byteAt bs 4
  let discount ← byteAt bs 5
  let laneByte ← byteAt bs 6
  let lane ← laneOf laneByte
  if 1 ≤ size ∧ size ≤ 6 ∧ 1 ≤ number ∧ number ≤ 99 ∧ 1 ≤ frame ∧ frame ≤ 10 ∧ current ≤ size ∧ limit ≤ 99 ∧
      discount ≤ 100 then
    pure { size, number, frame, current, limit, discount, lane }
  else none

/-- An IDENT (R192): the bowler index and the fields, absent when short (R194). -/
def parseIdent (bs : List Byte) : Option (Nat × IdentFields) := do
  let i ← byteAt bs 0
  let handicap ← byteAt bs 13
  let flags ← byteAt bs 14
  let completed ← byteAt bs 15
  pure (i, { name := nameField ((bs.drop 1).take 12), handicap, absent := flags.testBit 0, charged := flags.testBit 1,
             completed })

/-- Bit `i` of a byte list, most significant bit of the first byte first (section 12.1). -/
def bitAt (bs : List Byte) (i : Nat) : Bool :=
  match bs[i / 8]? with
  | some b => b.getMsbD (i % 8)
  | none => false

/-- The number in `n` bits from bit `off` on, most significant first. -/
def bitsAt (bs : List Byte) (off n : Nat) : Nat :=
  (List.range n).foldl (fun a i => a * 2 + (bitAt bs (off + i)).toNat) 0

/-- One ball of a BALLS frame, nine bits from bit `off` on (R192). -/
def carriedAt (bs : List Byte) (off : Nat) : CarriedBall :=
  { pins := bitsAt bs off 4, foul := bitAt bs (off + 4), estimated := bitAt bs (off + 5),
    corrected := bitAt bs (off + 6), split := bitAt bs (off + 7), supplied := bitAt bs (off + 8) }

/-- A BALLS (R192): bowler index, filled frames, and the fields; absent when shorter than its layout (R194). The ten
2-bit counts are in the high 20 bits of three bytes; those of the filled frames are taken. -/
def parseBalls (bs : List Byte) : Option (Nat × Nat × BallsFields) := do
  let i ← byteAt bs 0
  let filled ← byteAt bs 1
  let count ← byteAt bs 5
  if 6 + (9 * count + 7) / 8 ≤ bs.length then
    pure (i, filled,
      { counts := (List.range (min filled 10)).map fun f => bitsAt bs (16 + 2 * f) 2,
        balls := (List.range count).map fun b => carriedAt bs (48 + 9 * b) })
  else none

/-- Move a value to the nearer end of its range (00_scope 4.2). -/
def clamp (lo hi n : Nat) : Nat := max lo (min hi n)

/-- A setup answer's fields as they are adopted: each clamped, and a stall level not above the strain level set to the
strain level + 16, clamped at 255 (R184). Absent when the payload is shorter than nine bytes (R194). -/
def parseSetup (bs : List Byte) : Option Setup := do
  let spacing ← byteAt bs 0
  let window ← byteAt bs 1
  let settle ← byteAt bs 2
  let transit ← byteAt bs 3
  let share ← byteAt bs 4
  let low ← numAt bs 5 2
  let strain ← byteAt bs 7
  let stall ← byteAt bs 8
  pure { spacing := clamp 1 8 spacing, window := clamp 5 50 window, settle := clamp 5 40 settle,
         transit := clamp 4 30 transit, share := clamp 8 48 share, low := low, strain := strain,
         stall := if strain < stall then stall else min 255 (strain + 16) }

/-- A TIME frame's fields, absent when short or out of range (R186, R194). -/
def parseTime (bs : List Byte) : Option StationTime := do
  let day ← byteAt bs 0
  let second ← numAt bs 1 3
  if day ≤ 6 ∧ second ≤ 86399 then pure { day, second } else none

end Sys2Proof.Machine
end

