-- ==== Sys2Proof/Machine/Ops.lean ====
section
/-! DEFINITION. The shared operations: reading and writing one block, the outbound queue (R173), replies (R178), fault
notices (R153), taking a frame (R170, R172), the request path (R176 to R179), and beginning a transmission (R169, R174). -/

namespace Sys2Proof.Machine

/-! ## One block at a time -/

/-- The lane's sequencer. -/
def State.seq (s : State) (l : LaneId) : Sequencer := s.seqs.get l
/-- The lane's deck sensor. -/
def State.deck (s : State) (l : LaneId) : Deck := s.decks.get l
/-- The lane's meter. -/
def State.meter (s : State) (l : LaneId) : Meter := s.meters.get l

/-- Write the lane's sequencer. -/
def State.setSeq (s : State) (l : LaneId) (q : Sequencer) : State := { s with seqs := s.seqs.set l q }
/-- Write the lane's deck sensor. -/
def State.setDeck (s : State) (l : LaneId) (d : Deck) : State := { s with decks := s.decks.set l d }
/-- Write the lane's meter. -/
def State.setMeter (s : State) (l : LaneId) (m : Meter) : State := { s with meters := s.meters.set l m }
/-- Write the session records. -/
def State.setSessions (s : State) (x : List Session) : State := { s with sessions := x }
/-- Write the next-id counter. -/
def State.setNextId (s : State) (n : Nat) : State := { s with nextId := n }
/-- Write the return record. -/
def State.setRet (s : State) (r : Return) : State := { s with ret := r }
/-- Write the tariff tables. -/
def State.setTariff (s : State) (t : Tariff) : State := { s with tariff := t }
/-- Write the record store. -/
def State.setStore (s : State) (t : Store) : State := { s with store := t }
/-- Write the spacing unit. -/
def State.setSpacing (s : State) (u : Spacing) : State := { s with spacing := u }
/-- Write the census-silent flag. -/
def State.setSilent (s : State) (v : Bool) : State := { s with silent := v }
/-- Write the transfer unit. -/
def State.setTransfer (s : State) (t : Transfer) : State := { s with transfer := t }
/-- Write the link controller. -/
def State.setLink (s : State) (k : Link) : State := { s with link := k }
/-- Write station control. -/
def State.setCtl (s : State) (c : Control) : State := { s with ctl := c }
/-- Write the count of free values drawn. -/
def State.setFree (s : State) (n : Nat) : State := { s with free := n }
/-- Write the queue of waiting commands. -/
def State.setPending (s : State) (q : List Instr) : State := { s with pending := q }

/-- Neither the reset line nor a brownout holds the station in reset (R187, R188). -/
def State.running (s : State) : Bool := !(s.ctl.lineHeld || s.ctl.brownHeld)

/-- The window W in use, in milliseconds (R140). -/
def State.windowMs (s : State) : Nat := s.ctl.setup.window * 100

/-! ## The outbound queue (R173) -/

/-- The class of the frame that carries a payload (R168). -/
def Payload.cls : Payload → Nat
  | .notice _ => 3
  | .transfer _ _ => 4
  | .setupRequest => 6
  | .setupAnswer _ => 6
  | .reply _ => 11
  | .display _ => 12

/-- The frame carries a display update. -/
def QueuedFrame.isDisplay (f : QueuedFrame) : Bool := f.payload.cls == 12

/-- Place a frame behind every frame of its class or a lower one (R173): all the station's frames carry one sender. -/
def placeFrame (f : QueuedFrame) : List QueuedFrame → List QueuedFrame
  | [] => [f]
  | g :: q => if g.payload.cls ≤ f.payload.cls then g :: placeFrame f q else f :: g :: q

/-- Remove the oldest display update that is not being transmitted, when there is one (R173). -/
def dropDisplay : List QueuedFrame → Option (List QueuedFrame)
  | [] => none
  | g :: q => if g.isDisplay && !g.onLine then some q else (dropDisplay q).map (g :: ·)

/-- The queue after a frame joins it, or `none` when the arriving frame is discarded (R173). -/
def joinQueue (q : List QueuedFrame) (f : QueuedFrame) : Option (List QueuedFrame) :=
  if q.length < Config.queueCap then some (placeFrame f q)
  else if f.isDisplay then none
  else (dropDisplay q).map (placeFrame f)

/-- Queue a frame. A mute station discards it as it is made (R182). -/
def send (dest : Nat) (mark : FrameMark) (p : Payload) (s : State) : State :=
  if s.ctl.pair.isNone then s
  else match joinQueue s.link.queue { dest := dest, payload := p, mark := mark, onLine := false } with
    | some q => s.setLink { s.link with queue := q }
    | none => s

/-- Queue a fault notice, addressed to broadcast (R153). -/
def notice (n : FaultNotice) (s : State) : State := send 255 .none (.notice n) s

/-- Queue the first reply to a request (R178). -/
def reply (m : Msg) (name : ReqName) (r : Result) (d : ReplyData) (s : State) : State :=
  send m.sender.toNat .none (.reply { req := name, tag := m.tag.toNat, deferred := false, result := r, data := d }) s

/-- Refuse a request (R178). -/
def refuse (m : Msg) (name : ReqName) (r : RefuseReason) (s : State) : State := reply m name (.refused r) .none s

/-- Queue a deferred reply to the address and tag of a pending record (R178). -/
def deferredReply (addr tag : Nat) (name : ReqName) (r : Result) (d : ReplyData) (s : State) : State :=
  send addr .none (.reply { req := name, tag := tag, deferred := true, result := r, data := d }) s

/-- Queue a display update for the pair's console, 64 + p (R82). -/
def display (d : Display) (s : State) : State := send (64 + s.ctl.pair.getD 0) .none (.display d) s

/-- Queue a transfer frame, marked so that its outcome is reported (R173). -/
def sendTransfer (dest tag : Nat) (m : TransferMsg) (s : State) : State := send dest .transfer (.transfer tag m) s

/-! ## Taking a frame (R170, R172) -/

/-- The station accepts frames to this destination (R172). -/
def State.acceptsDest (s : State) (dest : Byte) : Bool := accepts s.ctl.pair s.link.group s.link.groupOn dest.toNat

/-- A well-formed frame ends: the line is no longer idle, and the acknowledgement slot is driven when the frame is accepted
and the station is not mute (R169, R170, R182). DESIGN CHOICE (log entry 50): another station's frame takes the line from the
station with this event, its end; no command stands for its start. -/
def takeFrame (dest : Byte) (s : State) : State :=
  s.setLink { s.link with lineIdle := false, ack := s.ctl.pair.isSome && s.acceptsDest dest, response := none }

/-- The request path (R176): a request accepted at the pair address is tested for access (R177), then for a payload that
ends before its last required field (R194), then goes to its owner. One accepted at a group address or at broadcast is
dropped without effect (R179). A mute station takes none (R182). -/
def request {α : Type} (name : ReqName) (parse : List Byte → Option α) (owner : α → State → State) (m : Msg)
    (s : State) : State :=
  let s := takeFrame m.dest s
  match s.ctl.pair with
  | none => s
  | some p =>
    if m.dest.toNat = p then
      if name.access.permits (senderKind p m.sender.toNat) then
        match parse m.args with
        | some a => owner a s
        | none => refuse m name .range s
      else refuse m name .notPermitted s
    else s

/-! ## Beginning a transmission (R142, R169, R174) -/

/-- A frame of the station's own is on the line. -/
def State.transmitting (s : State) : Bool :=
  (s.spacing.slot.any (·.onLine)) || s.link.queue.any (·.onLine)

/-- The offered notice: the slot's, while the last check stands passed (R142). -/
def State.offered (s : State) : Option Notice := if s.spacing.passed then s.spacing.slot else none

/-- On an idle line, with nothing of the station's own on it, the offered notice begins; without one, the head of the queue
(R174). Made at the end of every event (log entry 8). -/
def beginTx (s : State) : State :=
  if s.link.lineIdle && !s.transmitting && s.ctl.pair.isSome then
    match s.offered with
    | some n =>
      let s := s.setSpacing { s.spacing with slot := some { n with onLine := true } }
      s.setLink { s.link with lineIdle := false }
    | none =>
      match s.link.queue with
      | [] => s
      | f :: q => s.setLink { s.link with queue := { f with onLine := true } :: q, lineIdle := false }
  else s

/-- Take an event whole: nothing while the station is held in reset (log entry 10); otherwise the event's effect, and then
a transmission begins if one can. -/
def live (s : State) (event : State → State) : Host.Outcome State Fault Refusal :=
  if s.running then .next (beginTx (event s)) else .next s

/-! ## Counting (00_scope 4.2) -/

/-- Add, saturating at the bound. -/
def satAdd (bound a b : Nat) : Nat := min bound (a + b)

/-- The next of a counter 1..bound that wraps to 1. -/
def wrapNext (bound n : Nat) : Nat := if n ≥ bound then 1 else n + 1

end Sys2Proof.Machine
end

