-- ==== Sys2Proof/Machine/Scoring.lean ====
section
/-! DEFINITION. The score engine (chapter Scoring): racks, pinfalls, marks, frame ends, scores, truncation, corrections.
It keeps no state; these are functions on game records. -/

namespace Sys2Proof.Machine

/-! ## Standing maps -/

/-- The spot with index i (spot i + 1) is in the map. -/
def onSpot (m : SpotMap) (i : Nat) : Bool := m.getLsbD i

/-- The number of spots in a map. -/
def spotCount (m : SpotMap) : Nat := (List.range 10).foldl (fun n i => n + (onSpot m i).toNat) 0

/-- The spots at which a test holds, as a map. -/
def spotsWhere (f : Nat → Bool) : SpotMap :=
  BitVec.ofNat 10 ((List.range 10).foldl (fun n i => n + (f i).toNat * 2 ^ i) 0)

/-- The spots adjacent to the spot with index i (R48's table). -/
def adjacent : Nat → SpotMap
  | 0 => 0b0000000110#10
  | 1 => 0b0000011101#10
  | 2 => 0b0000110011#10
  | 3 => 0b0011010010#10
  | 4 => 0b0110101110#10
  | 5 => 0b1100010100#10
  | 6 => 0b0010001000#10
  | 7 => 0b0101011000#10
  | 8 => 0b1010110000#10
  | 9 => 0b0100100000#10
  | _ => noSpots

/-- The spots of `m` in `reached` or adjacent to one in it. -/
def spread (m reached : SpotMap) : SpotMap :=
  (List.range 10).foldl (fun r i => if onSpot reached i then r ||| (adjacent i &&& m) else r) reached

/-- The lowest spot of a map, as a map. -/
def lowestSpot (m : SpotMap) : SpotMap :=
  (List.range 10).foldr (fun i r => if onSpot m i then BitVec.ofNat 10 (2 ^ i) else r) noSpots

/-- Every spot of the map can be reached from every other by adjacent spots of it (R48). -/
def connected (m : SpotMap) : Bool :=
  (List.range 9).foldl (fun r _ => spread m r) (lowestSpot m) == m

/-- The split test (R48). -/
def isSplit (before after : SpotMap) (foul : Bool) : Bool :=
  before == fullRack && !foul && !onSpot after 0 && 2 ≤ spotCount after && !connected after

/-! ## Frames -/

/-- A strike ball: ten pins and no foul (R49, R50). -/
def BallEntry.isStrike (b : BallEntry) : Bool := !b.foul && b.pins == 10

/-- The mark of frame f from its balls: INCOMPLETE while balls are owed (R42, R49, R50). An empty list is a blank frame. -/
def markOf (f : Nat) : List BallEntry → Mark
  | [] => .opened
  | [b1] => if f < 10 && b1.isStrike then .strike else .incomplete
  | [b1, b2] =>
    if f < 10 then (if b1.pins + b2.pins = 10 then .spare else .opened)
    else if b1.isStrike || b1.pins + b2.pins == 10 then .incomplete else .opened
  | b1 :: b2 :: _ :: _ => if b1.isStrike then .strike else if b1.pins + b2.pins = 10 then .spare else .opened

/-- The frame has ended with these balls. -/
def frameEnded (f : Nat) (bs : List BallEntry) : Bool := markOf f bs != .incomplete

/-- The frame goes on against a fresh rack: after a strike or a spare in the tenth (R50). -/
def freshNext (f : Nat) : List BallEntry → Bool
  | [b1] => f == 10 && b1.isStrike
  | [b1, b2] => f == 10 && (if b1.isStrike then b2.isStrike else b1.pins + b2.pins == 10)
  | _ => false

/-- The rack the next ball of the frame is bowled at (R44). -/
def nextRack (f : Nat) (bs : List BallEntry) : SpotMap :=
  match bs.getLast? with
  | none => fullRack
  | some b =>
    if b.foul then b.before.getD fullRack
    else if freshNext f bs then fullRack
    else b.after.getD fullRack &&& b.before.getD fullRack

/-- The cycle kind after a ball (R54). -/
def cycleKind (f : Nat) (bs : List BallEntry) : CycleKind :=
  match bs.getLast? with
  | none => .full
  | some b =>
    if frameEnded f bs || freshNext f bs || b.foul then .full
    else .respot (b.after.getD fullRack &&& b.before.getD fullRack)

/-- The ball result made from a read (R44 to R48, R53 step 2). -/
def ballResult (l : LaneId) (f : Nat) (bs : List BallEntry) (map : SpotMap) (estimated foul : Bool) : BallEntry :=
  let before := nextRack f bs
  { frame := f, ball := bs.length + 1, before := some before, after := some map
    pins := if foul then 0 else spotCount (before &&& ~~~map)
    foul := foul
    estimated := estimated || (map &&& ~~~before) != noSpots
    split := isSplit before map foul
    corrected := false, supplied := false, lane := ballLane l }

/-- A supplied ball (R58). -/
def suppliedBall (f : Nat) (bs : List BallEntry) : BallEntry :=
  let rack := nextRack f bs
  { frame := f, ball := bs.length + 1, before := some rack, after := some rack, pins := 0, foul := false
    estimated := true, split := false, corrected := false, supplied := true
    lane := (bs.getLast?.map (·.lane)).getD .A }

/-! ## Games -/

/-- The frame record in slot f, 1..10. -/
def Game.slot (g : Game) (f : Nat) : Option FrameRec := if f = 0 then none else (g.frames[f - 1]?).join

/-- Write slot f. -/
def Game.setSlot (g : Game) (f : Nat) (r : FrameRec) : Game := { g with frames := g.frames.set (f - 1) (some r) }

/-- The balls of slot f, none when it is empty. -/
def Game.ballsOf (g : Game) (f : Nat) : List BallEntry := ((g.slot f).map (·.balls)).getD []

/-- The balls of a list of slots in bowling order. -/
def slotBalls (fs : List (Option FrameRec)) : List BallEntry := fs.flatMap fun o => (o.map (·.balls)).getD []

/-- The game's ball list: the frames' lists end to end (chapter Scoring). -/
def Game.balls (g : Game) : List BallEntry := slotBalls g.frames

/-- The pinfalls of a ball list, summed. -/
def pinSum (bs : List BallEntry) : Nat := (bs.map (·.pins)).sum

/-- 10 plus the first k of the later balls; absent while there are fewer, except in a COMPLETE game, where a missing bonus
ball counts 0 (R51, R56). -/
def bonusScore (complete : Bool) (k : Nat) (later : List BallEntry) : Option Nat :=
  if complete || k ≤ later.length then some (10 + pinSum (later.take k)) else none

/-- A frame's score (R51), given the balls of later frames. -/
def frameScore (complete : Bool) (f : Nat) (r : FrameRec) (later : List BallEntry) : Option Nat :=
  match r.mark with
  | .incomplete => none
  | .opened => some (pinSum r.balls)
  | .strike => if f = 10 then some (pinSum r.balls) else bonusScore complete 2 later
  | .spare => if f = 10 then some (pinSum r.balls) else bonusScore complete 1 later

/-- Marks, frame scores and cumulatives of the slots from frame f on (R49 to R52). `acc` is the cumulative before them,
absent once a score is. -/
def scoreFrames (complete : Bool) : Nat → Option Nat → List (Option FrameRec) → List (Option FrameRec)
  | _, _, [] => []
  | f, _, none :: rest => none :: scoreFrames complete (f + 1) none rest
  | f, acc, some r :: rest =>
    let r1 := { r with mark := markOf f r.balls }
    let sc := frameScore complete f r1 (slotBalls rest)
    let cum := match acc, sc with
      | some a, some v => some (a + v)
      | _, _ => none
    some { r1 with score := sc, cum := cum } :: scoreFrames complete (f + 1) cum rest

/-- The known cumulative: that of the highest frame whose cumulative is present, or 0 (R52). -/
def knownOf (fs : List (Option FrameRec)) : Nat :=
  fs.foldl (fun n o => match o with
    | some r => r.cum.getD n
    | none => n) 0

/-- The known cumulative of a game (R52). -/
def Game.known (g : Game) : Nat := knownOf g.frames

/-- One recomputation of marks, scores, cumulatives, totals; the revision is raised once, 255 to 0 (R43, R55). -/
def Game.recompute (g : Game) : Game :=
  let fs := scoreFrames (g.status == .complete) 1 (some 0) g.frames
  { g with frames := fs
           total := knownOf fs + g.handicap
           scratch := if g.status == .complete then (((fs[9]?).join).bind (·.cum)) else none
           revision := (g.revision + 1) % 256 }

/-- The game becomes COMPLETE (R56). -/
def Game.finish (g : Game) : Game := ({ g with status := .complete }).recompute

/-- A new game record (R43). -/
def Game.fresh (name : List Byte) (handicap number : Nat) : Game :=
  { name := name, handicap := handicap, number := number, frames := List.replicate 10 none, status := .playing
    charged := false, scratch := none, total := handicap, revision := 0 }

/-- Append a ball to frame f, beginning the frame when its slot is empty, and recompute (R53 steps 1, 2, 4). -/
def Game.append (g : Game) (f : Nat) (b : BallEntry) : Game :=
  let bs := g.ballsOf f ++ [b]
  (g.setSlot f { balls := bs, mark := markOf f bs, score := none, cum := none }).recompute

/-- A blank frame f, recorded when its slot is empty; a blank tenth frame completes the game (R57). -/
def Game.blank (g : Game) (f : Nat) : Game :=
  match g.slot f with
  | some _ => g
  | none =>
    let g := (g.setSlot f { balls := [], mark := .opened, score := none, cum := none }).recompute
    if f = 10 then g.finish else g

/-- Frame f holds at least one ball and balls are owed in it (R58). -/
def Game.inPlay (g : Game) (f : Nat) : Bool :=
  !(g.ballsOf f).isEmpty && !frameEnded f (g.ballsOf f)

/-- The frame of the game in play, when there is one (R58). -/
def Game.frameInPlay (g : Game) : Option Nat := ((List.range 10).map (· + 1)).find? g.inPlay

/-- Supply at most `n` balls to frame f, until it has ended (R58). -/
def Game.supply (f : Nat) : Nat → Game → Game
  | 0, g => g
  | n + 1, g => if g.inPlay f then Game.supply f n (g.append f (suppliedBall f (g.ballsOf f))) else g

/-- The frame truncation rule on a game; the frame it completed, when there was one in play (R58). -/
def Game.truncate (g : Game) : Game × Option Nat :=
  match g.frameInPlay with
  | none => (g, none)
  | some f =>
    let g := Game.supply f 2 g
    (if f = 10 then g.finish else g, some f)

/-! ## Corrections (R60 to R62) -/

/-- The structure test (R61) on the new pinfalls of frame f, which holds `count` balls. -/
def structureOk (f count : Nat) (ps : List Nat) : Bool :=
  ps.length == count &&
  match ps with
  | [b1] => f < 10 && b1 == 10
  | [b1, b2] => if f < 10 then b1 ≤ 9 && b1 + b2 ≤ 10 else b1 ≤ 9 && b1 + b2 ≤ 9
  | [b1, b2, b3] => f == 10 && (if b1 = 10 then b2 == 10 || b2 + b3 ≤ 10 else b1 + b2 == 10)
  | _ => false

/-- One ball under a correction (R62). -/
def BallEntry.correct (b : BallEntry) (p : Nat) : BallEntry :=
  if b.pins = p then b
  else { b with pins := p, corrected := true, estimated := false, foul := b.foul && p == 0 }

/-- An accepted correction of frame f: the game is recomputed when a pinfall changed (R62). -/
def Game.correct (g : Game) (f : Nat) (ps : List Nat) : Game :=
  let bs := g.ballsOf f
  if bs.map (·.pins) = ps then g
  else
    let bs' := (bs.zip ps).map fun x => x.1.correct x.2
    (g.setSlot f { balls := bs', mark := markOf f bs', score := none, cum := none }).recompute

/-- The handicap is written to the game and the game recomputed (R55, R71). -/
def Game.setHandicap (g : Game) (h : Nat) : Game := ({ g with handicap := h }).recompute

end Sys2Proof.Machine
end

