-- ==== Sys2Proof/Machine/Store.lean ====
section
/-! DEFINITION. The record store: the billing journal and the game archive (R125 to R139). -/

namespace Sys2Proof.Machine

/-- Journal capacity in entries (R125). -/
def Store.journalCap (t : Store) : Nat := 8 * t.share

/-- Archive capacity in games (R125). -/
def Store.archiveCap (t : Store) : Nat := 4 * (Config.storeBlocks - t.share)

/-- The free count: the lesser of the room left and the sequence numbers left (R129). -/
def Store.freeCount (t : Store) : Nat := min (t.journalCap - t.journal.length) (Config.seqMax - t.lastSeq)

/-- The oldest sequence held (R132). -/
def Store.oldest (t : Store) : Option Nat := t.journal.head?.map (·.seq)

/-- The newest sequence held (R132). -/
def Store.newest (t : Store) : Option Nat := t.journal.getLast?.map (·.seq)

/-- The number of the station's lanes whose open flag is set (R130). -/
def openLanes (m : Pair Meter) : Nat := m.a.isOpen.toNat + m.b.isOpen.toNat

/-- The journal admission test passes with `extra` over the number of open lanes: 2 for OPEN, 1 for GAME and CREDIT (R130). -/
def State.journalRoom (s : State) (extra : Nat) : Bool := openLanes s.meters + extra ≤ s.store.freeCount

/-- Append an entry: numbered, stamped with the station time while the clock is valid, newest (R129). -/
def appendEntry (l : LaneId) (body : JournalBody) (s : State) : State :=
  let n := s.store.lastSeq + 1
  s.setStore { s.store with
    lastSeq := n, journal := s.store.journal ++ [{ seq := n, lane := l, time := s.ctl.clock, body := body }] }

/-- A ball as the archive keeps it, without its maps (R134). -/
def BallEntry.archived (b : BallEntry) : ArchivedBall :=
  { frame := b.frame, ball := b.ball, pins := b.pins, foul := b.foul, estimated := b.estimated, split := b.split
    corrected := b.corrected, supplied := b.supplied, lane := b.lane }

/-- Append a game to the archive: it takes the next serial, and the oldest goes when the archive is full (R135). -/
def archiveGame (sid : Nat) (first : BallLane) (g : Game) (complete : Bool) (s : State) : State :=
  let t := s.store
  let a : ArchivedGame :=
    { serial := t.nextSerial, session := sid, name := g.name, handicap := g.handicap, number := g.number
      complete := complete, charged := g.charged, scratch := if complete then g.scratch else none
      total := if complete then some g.total else none, first := first, time := s.ctl.clock
      balls := g.balls.map BallEntry.archived }
  let kept := if t.archiveCap ≤ t.archive.length then t.archive.drop 1 else t.archive
  s.setStore { t with archive := kept ++ [a], nextSerial := wrapNext 65535 t.nextSerial }

/-- Hand a bowler's current game over at the removal of its session: COMPLETE as it is, one with a ball as ABANDONED, one
without a ball not at all (R73). DESIGN CHOICE (log entry 52): a COMPLETE game without a ball is archived as COMPLETE. -/
def handOver (sid : Nat) (b : Bowler) (s : State) : State :=
  match b.game with
  | none => s
  | some g =>
    if g.status = .complete then archiveGame sid b.first g true s
    else if g.balls.isEmpty then s
    else archiveGame sid b.first g false s

/-- Hand over every bowler's game in list order (R73, R135). -/
def handOverAll (sid : Nat) (bs : List Bowler) (s : State) : State := bs.foldl (fun s b => handOver sid b s) s

/-- RELEASE_JOURNAL(q) on the journal: what is left, the number freed, and the release point of the reply (R131). -/
def Store.release (t : Store) (q : Nat) : Store × Nat × Option Nat × Bool :=
  match t.oldest, t.newest with
  | some o, some n =>
    if q < o then (t, 0, none, false)
    else
      let upTo := min q n
      let kept := t.journal.filter (upTo < ·.seq)
      ({ t with journal := kept }, t.journal.length - kept.length, some upTo, n < q)
  | _, _ => (t, 0, none, false)

/-- The layout check at setup adoption (R126). -/
def Store.layoutCheck (t : Store) (share : Nat) : Store :=
  if share = t.share then { t with layoutHeld := false }
  else if t.journal.isEmpty then { t with share := share, archive := [], layoutHeld := false }
  else { t with layoutHeld := true }

end Sys2Proof.Machine
end

