-- ==== Sys2Proof/Machine/Meters.lean ====
section
/-! DEFINITION. The lane meters and the tariff tables: band lookup, time charges, game charges, the closing rounding
(R103 to R124). -/

namespace Sys2Proof.Machine

/-- The relative minute of a second of day (R108). -/
def relMinute (dayStart second : Nat) : Nat := (second / 60 + (1440 - dayStart)) % 1440

/-- The index of the first band whose limit lies above r, counting from `i`; the last band when there is none (R108). -/
def findBand (r : Nat) : Nat → List Band → Option (Nat × Band)
  | _, [] => none
  | i, [b] => some (i, b)
  | i, b :: c :: rest => if r < b.limit then some (i, b) else findBand r (i + 1) (c :: rest)

/-- The band in force at a second of day (R108). Absent only while the table holds no bands. -/
def LiveTariff.lookup (t : LiveTariff) (second : Nat) : Option (Nat × Band) :=
  findBand (relMinute (t.dayStart.getD 0) second) 0 t.bands

/-- Add seconds and an amount to a band's entry of the subtotal map, creating it in its place when absent (R103). -/
def addSubtotal (band seconds amount : Nat) : List Subtotal → List Subtotal
  | [] => [{ band := band, seconds := satAdd Config.totalMax 0 seconds, amount := satAdd Config.totalMax 0 amount }]
  | e :: rest =>
    if e.band = band then
      { e with seconds := satAdd Config.totalMax e.seconds seconds, amount := satAdd Config.totalMax e.amount amount } ::
        rest
    else if band < e.band then
      { band := band, seconds := satAdd Config.totalMax 0 seconds, amount := satAdd Config.totalMax 0 amount } :: e :: rest
    else e :: addSubtotal band seconds amount rest

/-- What a time charge or rounding of c deducts: c, or on a prepaid lane what brings the balance to −50,000 (R112, R120). -/
def Meter.deduction (m : Meter) (c : Nat) : Nat :=
  if m.prepaid then min c (m.balance - Config.balanceMin).toNat else c

/-- Charge an amount with seconds to a band: balance when prepaid, lane total, subtotal (R112, R115, R120). -/
def Meter.charge (m : Meter) (band seconds amount : Nat) : Meter :=
  { m with
    balance := if m.prepaid then m.balance - amount else m.balance
    total := satAdd Config.totalMax m.total amount
    subtotals := addSubtotal band seconds amount m.subtotals }

/-- A running second in band b at the hourly rate (R112). -/
def Meter.runSecond (m : Meter) (b : Nat) (rate : Nat) : Meter :=
  let r := m.residue + rate
  { m.charge b 1 (m.deduction (r / 3600)) with residue := r % 3600, roundBand := some b }

/-- The closing rounding (R120). -/
def Meter.round (m : Meter) : Meter :=
  if 1800 ≤ m.residue ∧ 0 < m.deduction 1 then
    { m.charge (m.roundBand.getD 0) 0 1 with residue := 0 }
  else { m with residue := 0 }

/-- The charge of a game at price P and discount k, rounded half up (R115). -/
def gameCharge (price discount : Nat) : Nat := (price * (100 - discount) + 50) / 100

/-- Write a lane's meter; a prepaid balance that falls below the low-credit level queues CREDIT_LOW (R114). -/
def writeMeter (l : LaneId) (m : Meter) (s : State) : State :=
  let low : Int := s.ctl.setup.low
  let before := (s.meter l).balance
  let s := s.setMeter l m
  if m.prepaid && low ≤ before && m.balance < low then notice (.creditLow l m.balance) s else s

/-- The meter runs the second: open, TIME, not in FAULT, none of CREDIT, JOURNAL, RETURN in the hold set (R111). -/
def State.meterRuns (s : State) (l : LaneId) : Bool :=
  !(s.seq l).state.isFault && !(s.seq l).holds.pauses

/-- The tick meters the second of day on one lane (R111, R112). -/
def meterSecond (second : Nat) (l : LaneId) (s : State) : State :=
  let m := s.meter l
  if m.isOpen && m.mode == .time then
    if s.meterRuns l then
      match s.tariff.live.lookup second with
      | some (b, band) => writeMeter l (m.runSecond b band.rate) s
      | none => s
    else s.setMeter l { m with paused := satAdd Config.totalMax m.paused 1 }
  else s

/-- The band index and price in force at the station's present second of day (R115; log entry 36). -/
def State.gameBand (s : State) : Nat × Nat :=
  match s.tariff.live.lookup ((s.ctl.clock.map (·.second)).getD 0) with
  | some (b, band) => (b, band.price)
  | none => (0, 0)

/-- What a CLOSE entry carries (R121 step 3, R128). -/
def Meter.closeBody (m : Meter) (r : CloseReason) : JournalBody :=
  .closing r m.total (if m.prepaid then some m.balance else none) m.paused
    (if m.mode = .time then some m.subtotals else none)

/-- The meter's part of a close: rounding, CLOSE entry, open flag cleared, admission wait removed (R121, R124). -/
def closeMeter (l : LaneId) (r : CloseReason) (s : State) : State :=
  let s := writeMeter l (s.meter l).round s
  let s := appendEntry l ((s.meter l).closeBody r) s
  s.setMeter l { s.meter l with isOpen := false, wait := none }

/-! ## Tariff tables (R107 to R110) -/

/-- Limits strictly ascending (R110). -/
def ascending : List Nat → Bool
  | x :: y :: rest => x < y && ascending (y :: rest)
  | _ => true

/-- The bands of slots 0 to n − 1, absent when one of them is unwritten (R110). -/
def writtenBands (n : Nat) (staged : List (Option Band)) : Option (List Band) := (staged.take n).mapM id

/-- The bands a TARIFF_COMMIT of n slots makes live, absent when R110's second test fails. -/
def commitBands (n : Nat) (staged : List (Option Band)) : Option (List Band) :=
  match writtenBands n staged with
  | some bs =>
    if n ≠ 0 ∧ bs.all (fun b => 1 ≤ b.limit && b.limit ≤ 1440) ∧ ascending (bs.map (·.limit)) then some bs else none
  | none => none

end Sys2Proof.Machine
end

