-- ==== Sys2Proof/Machine/Sessions.lean ====
section
/-! DEFINITION. The session table: turn order, barriers, game ends, un-crossing, and the turn start with its admission by
the lane meter (R65 to R87, R115, R116). An operation that makes turn selections answers the new state and the ids of the
sessions it selected for; their turn starts are made afterwards, lane A's first (R81). -/

namespace Sys2Proof.Machine

/-! ## The table (R65, R67, R74) -/

/-- The session with an id. -/
def State.session? (s : State) (id : Nat) : Option Session := s.sessions.find? (·.id == id)

/-- Replace the record with the same id. -/
def putSession (x : Session) (s : State) : State :=
  s.setSessions (s.sessions.map fun y => if y.id = x.id then x else y)

/-- Remove a record; its id becomes free. -/
def dropSession (id : Nat) (s : State) : State := s.setSessions (s.sessions.filter (·.id != id))

/-- Put a new record into the table, ordered by session id (R65). -/
def insertSession (x : Session) : List Session → List Session
  | [] => [x]
  | y :: rest => if x.id < y.id then x :: y :: rest else y :: insertSession x rest

/-- The lane on which the session bowls its current frame. -/
def Session.frameLane (x : Session) : Option LaneId := x.pos.map (·.lane)

/-- The session occupies its frame lane in these states (R67). -/
def SessionState.usesFrameLane : SessionState → Bool
  | .playing | .waitMove | .moving _ => true
  | _ => false

/-- The lane is occupied by the session (R67). -/
def Session.occupies (x : Session) (l : LaneId) : Bool :=
  (x.home == l && x.state != .parked) || (x.frameLane == some l && x.state.usesFrameLane)

/-- The lane is occupied by a session (R67). -/
def State.occupied (s : State) (l : LaneId) : Bool := s.sessions.any (·.occupies l)

/-- The partner: the session, other than a PARKED one, whose home lane is the other lane (R67). -/
def State.partner? (s : State) (x : Session) : Option Session :=
  s.sessions.find? fun y => y.id != x.id && y.home == other x.home && y.state != .parked

/-- The bowler with an index, counting from 1. -/
def Session.bowler? (x : Session) (i : Nat) : Option Bowler := if i = 0 then none else x.bowlers[i - 1]?

/-- Change the bowler with an index. -/
def Session.modifyBowler (x : Session) (i : Nat) (f : Bowler → Bowler) : Session :=
  if i = 0 then x else { x with bowlers := x.bowlers.modify (i - 1) f }

/-- Change the current game of the bowler with an index. -/
def Session.modifyGame (x : Session) (i : Nat) (f : Game → Game) : Session :=
  x.modifyBowler i fun b => { b with game := b.game.map f }

/-- The turn makes its bowler current (R74). -/
def Turn.holds : Turn → Bool
  | .active | .ended => true
  | _ => false

/-- The current bowler of a lane: session id and bowler index (R74). R74 speaks of the one session whose turn is ACTIVE or
ENDED there. DESIGN CHOICE (log entry 55): of two such sessions, the one with the lowest id. -/
def State.currentBowler (s : State) (l : LaneId) : Option (Nat × Nat) :=
  (s.sessions.find? fun x => x.turn.holds && x.frameLane == some l).bind fun x => x.current.map fun i => (x.id, i)

/-- Every bowler is absent (R77). -/
def Session.allAbsent (x : Session) : Bool := x.bowlers.all (·.absent)

/-- The lane reserved by an accepted transfer (R157). -/
def State.reserved (s : State) : Option LaneId :=
  match s.transfer.record with
  | .target _ _ _ o _ _ _ => some o.lane
  | _ => none

/-- The id a new session takes: the counter's, or the first above it that no live session holds, counting 255 to 1 (R67). -/
def State.newId (s : State) : Nat :=
  let candidates := (List.range 255).map fun k => (s.nextId - 1 + k) % 255 + 1
  (candidates.find? fun n => (s.session? n).isNone).getD s.nextId

/-- Add a new record under the id it takes, and move the counter past the id (R67). -/
def addSession (x : Session) (s : State) : State :=
  let s := s.setSessions (insertSession x s.sessions)
  s.setNextId (wrapNext 255 x.id)

/-! ## Frames and games -/

/-- Game `number` starts: a new record for every bowler, frame 1 on the home lane, no index (R66, R70, R80). -/
def Session.startGame (number : Nat) (x : Session) : Session :=
  { x with
    bowlers := x.bowlers.map fun b =>
      { b with game := some (Game.fresh b.name b.handicap number), first := ballLane x.home }
    pos := some { number := number, frame := 1, lane := x.home }
    state := .playing, turn := .none, current := none }

/-- The frame lane of frame f: the home lane, for a cross session by parity (R65). -/
def Session.laneOfFrame (x : Session) (f : Nat) : LaneId := if x.cross && f % 2 == 0 then other x.home else x.home

/-- The session enters frame f of its game, PLAYING, with no turn and no index (R77, R78). -/
def Session.enterFrame (f : Nat) (x : Session) : Session :=
  { x with
    pos := x.pos.map fun p => { p with frame := f, lane := x.laneOfFrame f }
    state := .playing, turn := .none, current := none }

/-- What a turn selection came to (R76, R77). -/
inductive Choice where
  | chosen
  | finished
  | idle
deriving DecidableEq, Repr

/-- Go through bowlers from index i on: absent ones receive a blank frame f, the first other is chosen (R76). -/
def passOver (f : Nat) : Nat → List Bowler → List Bowler × Option Nat
  | _, [] => ([], none)
  | i, b :: rest =>
    if b.absent then
      let r := passOver f (i + 1) rest
      ({ b with game := b.game.map fun g => g.blank f } :: r.1, r.2)
    else (b :: rest, some i)

/-- The turn selection on the record (R76). A non-cross session that is idle at the start of a frame passes over no bowler
(R77, log entry 22). -/
def Session.choose (x : Session) : Session × Choice :=
  if !x.cross && x.current.isNone && x.allAbsent then ({ x with turn := .none }, .idle)
  else
    let k := x.current.getD 0
    let r := passOver ((x.pos.map (·.frame)).getD 1) (k + 1) (x.bowlers.drop k)
    let bs := x.bowlers.take k ++ r.1
    match r.2 with
    | some i => ({ x with bowlers := bs, current := some i, turn := .outstanding }, .chosen)
    | none => ({ x with bowlers := bs, turn := .none }, .finished)

/-- The session has reached its end at game `number` (R80). -/
def Session.atLimit (x : Session) (number : Nat) : Bool := (x.limit != 0 && x.limit ≤ number) || 99 ≤ number

/-- Games completed is raised by one for every bowler, saturating at 99 (R80). -/
def Session.countGames (x : Session) : Session :=
  { x with bowlers := x.bowlers.map fun b => { b with completed := satAdd 99 b.completed 1 } }

/-- Every bowler's game is archived as COMPLETE, in list order (R80, R135). -/
def archiveAll (id : Nat) (bs : List Bowler) (s : State) : State :=
  bs.foldl (fun s b =>
    match b.game with
    | some g => archiveGame id b.first g true s
    | none => s) s

/-- The game end: every game is archived as COMPLETE, then the session is removed at its limit or starts its next game
(R80). -/
def gameEnd (id : Nat) (s : State) : State :=
  match s.session? id with
  | none => s
  | some x =>
    let s := archiveAll id x.bowlers s
    let number := (x.pos.map (·.number)).getD 1
    if x.atLimit number then dropSession id s else putSession (x.countGames.startGame (number + 1)) s

/-- The selection of a session that has just entered a frame (R76, R77). A cross session that is idle there finishes the
frame at once and waits; its barrier test cannot pass then, for its partner is playing or everyone is absent (R78). -/
def selectFresh (id : Nat) (s : State) : State × List Nat :=
  match s.session? id with
  | none => (s, [])
  | some x =>
    match x.choose with
    | (y, .chosen) => (putSession y s, [id])
    | (y, .idle) => (putSession y s, [])
    | (y, .finished) =>
      if y.cross then
        (putSession { y with state := .waitPartner (.frame ((y.pos.map (·.frame)).getD 1)) } s, [])
      else (putSession y s, [])

/-- A session that has finished frame f goes on as a non-cross one (R77). -/
def nextFrame (id f : Nat) (s : State) : State × List Nat :=
  if f = 10 then selectFresh id (gameEnd id s)
  else
    match s.session? id with
    | none => (s, [])
    | some x => selectFresh id (putSession (x.enterFrame (f + 1)) s)

/-- Both selections after a barrier, in table order (R78). -/
def selectBoth (a b : Nat) (s : State) : State × List Nat :=
  let r := selectFresh a s
  let q := selectFresh b r.1
  (q.1, r.2 ++ q.2)

/-- Clear the cross flag of a session (R79). -/
def clearCross (id : Nat) (s : State) : State :=
  match s.session? id with
  | none => s
  | some x => putSession { x with cross := false } s

/-- Barrier 10 passes: both game ends, in an order the manual leaves open (R135, log entry 14); a session left alone is
un-crossed (R80). -/
def bothGameEnds (a b : Nat) (s : State) : State :=
  let first := Config.freeRunFirst s.free
  let s := s.setFree (s.free + 1)
  let s := if first then gameEnd b (gameEnd a s) else gameEnd a (gameEnd b s)
  match s.session? a, s.session? b with
  | some _, none => clearCross a s
  | none, some _ => clearCross b s
  | _, _ => s

/-- The barrier passes for both sessions (R78). -/
def passBarrier (x y : Session) (b : Barrier) (s : State) : State × List Nat :=
  match b with
  | .start => selectBoth x.id y.id (putSession (y.startGame 1) (putSession (x.startGame 1) s))
  | .frame f =>
    if f = 10 then selectBoth x.id y.id (bothGameEnds x.id y.id s)
    else selectBoth x.id y.id (putSession (y.enterFrame (f + 1)) (putSession (x.enterFrame (f + 1)) s))

/-- The barrier test of a cross session (R78). -/
def barrierTest (id : Nat) (s : State) : State × List Nat :=
  match s.session? id with
  | none => (s, [])
  | some x =>
    match x.state, s.partner? x with
    | .waitPartner b, some y =>
      if y.state = .waitPartner b ∧ (b = .start ∨ (x.allAbsent && y.allAbsent) = false) then
        if x.id < y.id then passBarrier x y b s else passBarrier y x b s
      else (s, [])
    | _, _ => (s, [])

/-- The turn selection (R76), and what follows when it finds no bowler (R77). -/
def selectTurn (id : Nat) (s : State) : State × List Nat :=
  match s.session? id with
  | none => (s, [])
  | some x =>
    match x.choose with
    | (y, .chosen) => (putSession y s, [id])
    | (y, .idle) => (putSession y s, [])
    | (y, .finished) =>
      let f := (y.pos.map (·.frame)).getD 1
      if y.cross then barrierTest id (putSession { y with state := .waitPartner (.frame f) } s)
      else nextFrame id f (putSession y s)

/-- A session is un-crossed (R79). -/
def uncross (id : Nat) (s : State) : State × List Nat :=
  match s.session? id with
  | none => (s, [])
  | some x =>
    let y := { x with cross := false }
    match x.state with
    | .waitPartner .start => selectFresh id (putSession (y.startGame 1) s)
    | .waitPartner (.frame f) => nextFrame id f (putSession y s)
    | _ => (putSession y s, [])

/-! ## Holds added (R13, R14) -/

/-- Add a reason to a lane's hold set; a reason that applies in ARMED takes an ARMED lane to HELD (R14). -/
def addReason (r : HoldReason) (l : LaneId) (s : State) : State :=
  let q := s.seq l
  let q := { q with holds := q.holds.put r true }
  if q.state = .armed ∧ r.appliesArmed then s.setSeq l { q with state := .held (.rack false) } else s.setSeq l q

/-! ## Display updates (R82) -/

/-- What a display update of a bowler carries (R82). -/
def displayHead (x : Session) (i : Nat) (b : Bowler) (g : Game) (p : GamePos) : DisplayHead :=
  { lane := p.lane, session := x.id, bowler := i, name := b.name, number := p.number, frame := p.frame
    scores := g.frames.map fun o => o.bind (·.score)
    known := g.known, total := g.total }

/-! ## Admission and the turn start (R81, R115, R116) -/

/-- The game charge is made (R115). -/
def makeCharge (l : LaneId) (x : Session) (i number band price amount : Nat) (s : State) : State :=
  let m := s.meter l
  let s := writeMeter l { m.charge band 0 amount with games := satAdd Config.gamesMax m.games 1 } s
  let s := appendEntry l
    (.game x.id i number band price (if x.discount = 0 then none else some x.discount) amount) s
  putSession (x.modifyGame i fun g => { g with charged := true }) s

/-- The hold reason that a wait places (R116). -/
def WaitReason.hold : WaitReason → HoldReason
  | .credit => .credit
  | .journal => .journal

/-- Hold a turn: the admission wait is written and the reason added (R116). -/
def holdTurn (l : LaneId) (w : AdmissionWait) (s : State) : State :=
  let s := s.setMeter l { s.meter l with wait := some w }
  addReason w.reason.hold l s

/-- The meter's answer to a turn start, with what it does (R116). -/
def admission (l : LaneId) (x : Session) (i : Nat) (g : Game) (p : GamePos) (s : State) : Admission × State :=
  let m := s.meter l
  let pass (s : State) : State := s.setMeter l { s.meter l with wait := none }
  let wait (r : WaitReason) (c : Option (Nat × Nat)) : AdmissionWait :=
    { reason := r, session := x.id, bowler := i, game := p.number, frame := p.frame, discount := x.discount
      charge := c }
  match m.mode with
  | .none => (.admitted, pass s)
  | .time =>
    if m.prepaid && m.balance ≤ 0 then (.holdCredit, holdTurn l (wait .credit none) s) else (.admitted, pass s)
  | .game =>
    if p.frame = 1 ∧ g.charged = false then
      let bp := s.gameBand
      let c := gameCharge bp.2 x.discount
      if s.journalRoom 1 = false then (.holdJournal, holdTurn l (wait .journal (some (c, bp.1))) s)
      else if m.prepaid && m.balance < c then (.holdCredit, holdTurn l (wait .credit (some (c, bp.1))) s)
      else (.admitted, pass (makeCharge l x i p.number bp.1 bp.2 c s))
    else (.admitted, pass s)

/-- The turn start of a session on a lane: made when the session is PLAYING with its turn OUTSTANDING there and the lane is
ARMED (R81). -/
def startTurn (l : LaneId) (id : Nat) (s : State) : State :=
  match s.session? id with
  | none => s
  | some x =>
    match x.pos, x.current.bind fun i => (x.bowler? i).map fun b => (i, b) with
    | some p, some (i, b) =>
      match b.game with
      | some g =>
        if x.state = .playing ∧ x.turn = .outstanding ∧ p.lane = l ∧ (s.seq l).state = .armed then
          let r := admission l x i g p s
          let d := Display.turn (displayHead x i b g p) r.1
          match r.1 with
          | .admitted =>
            let s := match r.2.session? id with
              | some y => putSession { y with turn := .active } r.2
              | none => r.2
            display d (s.setSeq l { s.seq l with foul := false })
          | _ => display d r.2
        else s
      | none => s
    | _, _ => s

/-- The turn starts of freshly selected sessions, lane A's first (R81). -/
def startTurns (r : State × List Nat) : State :=
  let s := r.2.foldl (fun s id => startTurn .A id s) r.1
  r.2.foldl (fun s id => startTurn .B id s) s

/-! ## Frame ends and truncation (R58, R75) -/

/-- The frame truncation rule on the bowler with an index; the report makes the turn ENDED (R58, R75). -/
def Session.truncate (x : Session) (i : Nat) : Session :=
  match (x.bowler? i).bind (·.game) with
  | none => x
  | some g =>
    match g.truncate with
    | (_, none) => x
    | (g', some _) => { x.modifyGame i (fun _ => g') with turn := .ended }

/-- The frame truncation rule on a session's bowler at its current index (R59). -/
def truncateCurrent (id : Nat) (s : State) : State :=
  match s.session? id with
  | none => s
  | some x =>
    match x.current with
    | none => s
    | some i => putSession (x.truncate i) s

/-- The current bowler of the session has a frame in play with a ball recorded (R23 step 3, R155). -/
def Session.midFrame (x : Session) : Bool :=
  match (x.current.bind x.bowler?).bind (·.game) with
  | some g => g.frameInPlay.isSome
  | none => false

/-- The score engine takes a read of a scored ball (R53): the ball result is made, the console is shown it, and a frame end
is reported. It answers the cycle kind and whether the frame has ended; `none` when no ball result is made because the
bowler's frame had ended already (log entry 16). -/
def scoreRead (l : LaneId) (id i : Nat) (map : SpotMap) (estimated foul : Bool) (s : State) :
    State × Option (CycleKind × Bool) :=
  match s.session? id with
  | none => (s, none)
  | some x =>
    match x.pos, (x.bowler? i).bind fun b => b.game.map fun g => (b, g) with
    | some p, some (b, g) =>
      let f := p.frame
      if (g.slot f).isSome && frameEnded f (g.ballsOf f) then (s, none)
      else
        let e := ballResult l f (g.ballsOf f) map estimated foul
        let bs := g.ballsOf f ++ [e]
        let g1 := g.append f e
        let ended := frameEnded f bs
        let d := Display.ball (displayHead x i b g1 p) e.ball e.pins e.foul e.split e.estimated (markOf f bs)
        let g2 := if ended && f == 10 then g1.finish else g1
        let x := x.modifyGame i fun _ => g2
        let x := if ended then { x with turn := .ended } else x
        (display d (putSession x s), some (cycleKind f bs, ended))
    | _, _ => (s, none)

/-! ## Handing a session to the transfer unit (R156) -/

/-- Steps 2 to 4 of R156: the session enters MOVING, a tag is taken and the OFFER is queued. -/
def startOffer (id : Nat) (s : State) : State :=
  match s.session? id, s.transfer.record with
  | some x, .source _ _ peer lane sid req _ =>
    let s := putSession { x with turn := .none, state := .moving .sending } s
    let tag := wrapNext 255 s.transfer.lastTag
    let s := s.setTransfer
      { record := .source .offered (some tag) peer lane sid req (some Config.stepLimit), lastTag := tag }
    sendTransfer peer tag
      (.offer { size := x.size, number := (x.pos.map (·.number)).getD 1, frame := (x.pos.map (·.frame)).getD 1
                current := x.current.getD 0, limit := x.limit, discount := x.discount, lane := lane }) s
  | _, _ => s

/-! ## The entry into ARMED (R1, R76, R81, R87) -/

/-- The session table has made a bowler current on the session's frame lane: the lane's foul-pending flag goes (R9). -/
def freshBowler (x : Session) (s : State) : State :=
  match x.frameLane with
  | some l => s.setSeq l { s.seq l with foul := false }
  | none => s

/-- A SUSPENDED session whose home lane enters ARMED is resumed (R87 steps 1 and 2, and the barrier cases of step 3). A turn
that the truncation makes ENDED makes its bowler current (R74, R75). It answers the sessions selected for, and the id of a
PLAYING session resumed with turn NONE. -/
def resumeOn (l : LaneId) (s : State) : (State × List Nat) × Option Nat :=
  match s.sessions.find? fun x => x.home == l && (match x.state with | .suspended _ => true | _ => false) with
  | none => ((s, []), none)
  | some x =>
    match x.state with
    | .suspended .forming => ((putSession { x with state := .forming } s, []), none)
    | .suspended .playing =>
      let y := { x with state := .playing }
      let y := match y.current with
        | some i => y.truncate i
        | none => y
      let s := putSession y s
      let s := if y.turn.holds && !x.turn.holds then freshBowler y s else s
      ((s, []), if y.turn = .none then some y.id else none)
    | .suspended (.waitPartner b) =>
      let s := putSession { x with state := .waitPartner b } s
      (if x.cross then barrierTest x.id s else uncross x.id s, none)
    | _ => ((s, []), none)

/-- What an entry into ARMED does to one session's turn on that lane (R76, R81, R83). -/
def armedTurn (l : LaneId) (s : State) (id : Nat) : State :=
  match s.session? id with
  | none => s
  | some x =>
    if x.frameLane = some l then
      match x.turn, x.state with
      | .ended, .playing => startTurns (selectTurn id (putSession { x with turn := .none } s))
      | .ended, .waitMove => startOffer id s
      | .outstanding, .playing => startTurn l id s
      | _, _ => s
    else s

/-- A lane's entry into ARMED is reported to the session table (R1). DESIGN CHOICE (log entry 55): of two sessions with turns
on the lane, the turn of the lower id is taken first. -/
def armedReport (l : LaneId) (s : State) : State :=
  let r := resumeOn l s
  let s := startTurns r.1
  let s := (s.sessions.map (·.id)).foldl (armedTurn l) s
  match r.2 with
  | some id => startTurns (selectTurn id s)
  | none => s

end Sys2Proof.Machine
end

