-- ==== Sys2Proof/Machine/SpacingUnit.lean ====
section
/-! DEFINITION. The spacing unit: the waiting list, the arbiter slot, the check, grants, withdrawals, local mode
(R140 to R149), and the entries into SPACING and the phases it grants (R4). -/

namespace Sys2Proof.Machine

/-- The limit of a phase (section 1.1). -/
def NextPhase.limit : NextPhase → Nat
  | .reading => Config.readLimit
  | .clearing => Config.clearLimit
  | .calibrating => Config.calLimit

/-- The state a grant leads to (R4). -/
def NextPhase.phase : NextPhase → SeqState
  | .reading => .reading
  | .clearing => .clearing
  | .calibrating => .calibrating

/-- A grant taken in SPACING: the lane enters its next phase and the phase's limit starts (R4). In CALIBRATING the first sense
pass is asked for from here on (`sensePass`, R32). -/
def grant (l : LaneId) (s : State) : State :=
  match (s.seq l).state with
  | .spacing n => s.setSeq l { s.seq l with state := n.phase, timer := some n.limit }
  | _ => s

/-- The head request's notice takes an empty slot (R141). -/
def Spacing.fillSlot (u : Spacing) : Spacing :=
  match u.slot, u.waiting with
  | none, r :: _ =>
    { u with slot := some { lane := r.lane, next := r.next, urgent := r.urgent, onLine := false, withdrawn := false } }
  | _, _ => u

/-- Append an entry to the window list; the oldest goes first when it holds 16 (R143, R144). -/
def Spacing.addEntry (u : Spacing) (e : StartEntry) : Spacing :=
  { u with window := (if Config.windowCap ≤ u.window.length then u.window.drop 1 else u.window) ++ [e] }

/-- The window has room, the supply is not low and the quiet period is not running: what the check and a local grant share
(R142, R148). -/
def State.startRoom (s : State) : Bool :=
  s.spacing.window.length < s.ctl.setup.spacing && !s.ctl.supplyLow && s.spacing.quiet.isNone

/-- The station's own entry for a start of the lane (R143). -/
def State.ownEntry (s : State) (l : LaneId) : StartEntry :=
  { station := s.ctl.pair.getD 0, lane := laneCode l, age := 0, life := s.windowMs }

/-- The start in the slot is made: the own entry is appended, the head request leaves, the slot is emptied and refilled,
and the lane is granted (R143). -/
def madeStart (n : Notice) (s : State) : State :=
  let u := s.spacing.addEntry (s.ownEntry n.lane)
  let u : Spacing := { u with waiting := u.waiting.drop 1, slot := none }
  grant n.lane (s.setSpacing u.fillSlot)

/-- The head request is granted without the link (R148): the own entry is appended, the request leaves, and the next
request's notice takes the slot. DESIGN CHOICE (log entry 29): a notice that is on the line then runs to its end as a
withdrawn one. -/
def localStart (r : StartRequest) (s : State) : State :=
  let u := s.spacing.addEntry (s.ownEntry r.lane)
  let running := (u.slot.filter (·.onLine)).map fun n => { n with withdrawn := true }
  grant r.lane (s.setSpacing ({ u with waiting := u.waiting.drop 1, slot := running } : Spacing).fillSlot)

/-- Grants in local mode, at most `k` (R148): the head's, while the window has room. -/
def localGrants : Nat → State → State
  | 0, s => s
  | k + 1, s =>
    match s.spacing.waiting with
    | r :: _ => if s.startRoom then localGrants k (localStart r s) else s
    | [] => s

/-- The check (R142), and in local mode the test made in its place (R148). A lane waits at most once, so two grants at
most. -/
def recheck (s : State) : State :=
  if s.spacing.isLocal then
    let s := localGrants 2 s
    s.setSpacing { s.spacing with passed := false }
  else s.setSpacing { s.spacing with passed := s.spacing.slot.isSome && s.startRoom }

/-- Place a start request: the check is made when its notice takes the slot (R141), and in local mode the test of R148
whatever the slot holds. -/
def requestStart (l : LaneId) (n : NextPhase) (s : State) : State :=
  let r : StartRequest := { lane := l, next := n, urgent := false, waited := 0 }
  let u : Spacing := { s.spacing with waiting := s.spacing.waiting ++ [r] }
  if u.slot.isNone || u.isLocal then recheck (s.setSpacing u.fillSlot) else s.setSpacing u

/-- Enter SPACING with a next phase (R4). -/
def enterSpacing (l : LaneId) (n : NextPhase) (s : State) : State :=
  requestStart l n (s.setSeq l { s.seq l with state := .spacing n, timer := none })

/-- Withdraw a lane's start request (R146). -/
def withdrawStart (l : LaneId) (s : State) : State :=
  let rest := s.spacing.waiting.filter (·.lane != l)
  match s.spacing.slot with
  | some n =>
    if n.lane = l ∧ n.withdrawn = false then
      if n.onLine then s.setSpacing { s.spacing with waiting := rest, slot := some { n with withdrawn := true } }
      else recheck (s.setSpacing ({ s.spacing with waiting := rest, slot := none } : Spacing).fillSlot)
    else s.setSpacing { s.spacing with waiting := rest }
  | none => s.setSpacing { s.spacing with waiting := rest }

/-- Withdraw the request of a lane that leaves SPACING by another cause than its grant (R4). -/
def leaveSpacing (l : LaneId) (s : State) : State :=
  match (s.seq l).state with
  | .spacing _ => withdrawStart l s
  | _ => s

/-- The slot is emptied, the next request's notice takes it, and the check is made (R143, R146). -/
def nextNotice (s : State) : State :=
  recheck (s.setSpacing ({ s.spacing with slot := none } : Spacing).fillSlot)

/-- The offered notice was sent (R143); a withdrawn one is counted, and no grant follows (R146). -/
def noticeSent (s : State) : State :=
  match s.spacing.slot with
  | some n =>
    if n.onLine then
      if n.withdrawn then nextNotice (s.setSpacing (s.spacing.addEntry (s.ownEntry n.lane)))
      else recheck (madeStart n s)
    else s
  | none => s

/-- The request of the lane carries the urgent mark (R145). -/
def Spacing.markedUrgent (u : Spacing) (l : LaneId) : Bool := u.waiting.any fun r => r.lane == l && r.urgent

/-- The offered notice lost arbitration: it stays in the slot, and is of class URGENT_START from now on when its request was
marked while it was on the line (R140, R143, R145), and in local mode the test of R148 is made; a withdrawn one is removed
from the slot (R146). -/
def noticeLost (s : State) : State :=
  match s.spacing.slot with
  | some n =>
    if n.onLine then
      if n.withdrawn then nextNotice s
      else
        let again := { n with onLine := false, urgent := n.urgent || s.spacing.markedUrgent n.lane }
        let s := s.setSpacing { s.spacing with slot := some again }
        if s.spacing.isLocal then recheck s else s
    else s
  | none => s

/-- The wait of a lane in SPACING reaches 2W: its request is marked urgent, and its notice becomes URGENT_START unless it is
on the line (R145). -/
def markUrgent (l : LaneId) (s : State) : State :=
  match (s.seq l).state with
  | .spacing _ =>
    let waiting := s.spacing.waiting.map fun r => if r.lane = l then { r with urgent := true } else r
    let slot := s.spacing.slot.map fun n =>
      if n.lane = l ∧ n.onLine = false ∧ n.withdrawn = false then { n with urgent := true } else n
    s.setSpacing { s.spacing with waiting := waiting, slot := slot }
  | _ => s

end Sys2Proof.Machine
end

