-- ==== Sys2Proof/Machine/Sequencing.lean ====
section
/-! DEFINITION. The lane sequencer's shared operations: leaving HELD, the rack-position test, STANDBY, faults, deferred
replies (R1 to R27), and the removals that let a lane go on (R73, R116, R118). -/

namespace Sys2Proof.Machine

/-! ## Leaving HELD (R15) and the rack position (R7) -/

/-- Write a lane's hold set. -/
def setHolds (l : LaneId) (h : HoldSet) (s : State) : State := s.setSeq l { s.seq l with holds := h }

/-- The lane enters ARMED, and the entry is reported to the session table (R1). -/
def enterArmed (l : LaneId) (s : State) : State :=
  armedReport l (s.setSeq l { s.seq l with state := .armed, timer := none })

/-- The test made when a reason is removed from the set of a lane in HELD (R15). -/
def testHeld (l : LaneId) (s : State) : State :=
  match (s.seq l).state with
  | .held p =>
    if (s.seq l).holds.appliesAt p then s
    else match p with
      | .read => enterSpacing l .clearing s
      | .rack _ => enterArmed l s
  | _ => s

/-- Change the hold set and test whether the lane leaves HELD (R15). -/
def dropReasons (l : LaneId) (f : HoldSet → HoldSet) (s : State) : State := testHeld l (setHolds l (f (s.seq l).holds) s)

/-- The rack-position test (R7 step 5, R22). -/
def rackTest (l : LaneId) (frameEnding : Bool) (s : State) : State :=
  if (s.seq l).holds.appliesAt (.rack frameEnding) then
    s.setSeq l { s.seq l with state := .held (.rack frameEnding), timer := none }
  else enterArmed l s

/-! ## Deferred requests (R24) -/

/-- The request a pending record names (R24). -/
def DeferredReq.name : DeferredReq → ReqName
  | .openLane _ => .openLane
  | .closeLane => .closeLane
  | .laneReset => .laneReset
  | .clearFault => .clearFault
  | .calibrate => .calibrate

/-- Answer the pending request and empty the record (R24). -/
def answerPending (l : LaneId) (r : Result) (d : ReplyData) (s : State) : State :=
  match (s.seq l).pend with
  | some p => deferredReply p.addr p.tag p.req.name r d (s.setSeq l { s.seq l with pend := none })
  | none => s

/-- The request enters the lane's pending-request record (R24). -/
def setPendingReq (l : LaneId) (m : Msg) (q : DeferredReq) (s : State) : State :=
  s.setSeq l { s.seq l with pend := some { addr := m.sender.toNat, tag := m.tag.toNat, req := q } }

/-- The result data of a deferred DONE: OPEN_LANE's carries the balance as set (R106). -/
def DeferredReq.doneData : DeferredReq → ReplyData
  | .openLane b => .balance b
  | _ => .none

/-- The request completes with the cycle: OPEN_LANE, LANE_RESET, CLEAR_FAULT (R7 step 1). -/
def DeferredReq.endsWithCycle : DeferredReq → Bool
  | .openLane _ | .laneReset | .clearFault => true
  | .closeLane | .calibrate => false

/-! ## STANDBY (R21) -/

/-- The lane enters STANDBY: flags and DESK are cleared, the rack is EMPTY, and a pending CLOSE_LANE is answered DONE
(R21, R30). -/
def enterStandby (l : LaneId) (s : State) : State :=
  let q := s.seq l
  let s := s.setSeq l
    { q with state := .standby, cycle := none, foul := false, stray := false, timer := none
             holds := { q.holds with desk := false } }
  let s := s.setDeck l { s.deck l with rack := .empty }
  match (s.seq l).pend with
  | some p => if p.req = .closeLane then answerPending l .done .none s else s
  | none => s

/-! ## Calibrations aborted (R38) -/

/-- A calibration in flight ends without completing: the result is written, the reads of a step not yet settled are lost, and
the CALIBRATE is answered FAILED with the result (R38). -/
def abortCalibration (l : LaneId) (r : CalResult) (s : State) : State :=
  let d := s.deck l
  if d.cal.result = .running then
    let s := s.setDeck l { d with cal := { d.cal with result := r, reads := 0, misses := List.replicate 10 0 } }
    match (s.seq l).pend with
    | some p => if p.req = .calibrate then answerPending l .failed (.calResult r) s else s
    | none => s
  else s

/-! ## Cycles (R2, R12, R20, R23, R27) -/

/-- An opening or a recovery cycle: kind FULL, no read (R2). -/
def freshCycle (o : Origin) (restart : Nat) : Cycle :=
  { kind := .full, read := false, origin := o, restart := restart, frameEnd := false, ball := none }

/-- Begin an opening or a recovery cycle: SPACING with next phase CLEARING (R20, R23, R27). -/
def beginCycle (l : LaneId) (c : Cycle) (s : State) : State :=
  enterSpacing l .clearing (s.setSeq l { s.seq l with cycle := some c })

/-- The phase in which a state's limit runs (R10). -/
def SeqState.phase? : SeqState → Option Phase
  | .reading => some .reading
  | .clearing => some .clearing
  | .setting => some .setting
  | .calibrating => some .calibrating
  | _ => none

/-- The phase overruns: FAULT, its notice, the answer to a request that waited on it; a closed lane goes on to STANDBY (R10). -/
def overrun (l : LaneId) (ph : Phase) (s : State) : State :=
  let q := s.seq l
  let f : FaultRec :=
    if ph = .calibrating then { phase := ph, repeated := false, retained := none }
    else { phase := ph, repeated := (q.cycle.map fun c => decide (0 < c.restart)).getD false, retained := q.cycle }
  let s := notice (.fault l ph) s
  let s := s.setSeq l { q with state := .fault f, cycle := none, timer := none }
  let s := if ph = .calibrating then abortCalibration l .timedOut s else s
  let s := match (s.seq l).pend with
    | some p => if p.req.endsWithCycle then answerPending l .failed .none s else s
    | none => s
  if (s.meter l).isOpen then s else enterStandby l s

/-! ## Turns withdrawn, sessions removed (R73, R116) -/

/-- The meter is told that no turn is outstanding on the lane: the wait and its reason go (R73, R116). -/
def meterTold (l : LaneId) (s : State) : State :=
  let s := s.setMeter l { s.meter l with wait := none }
  dropReasons l (fun h => { h with credit := false, journal := false }) s

/-- A session's outstanding turn is withdrawn on its frame lane (R73). -/
def withdrawTurn (x : Session) (s : State) : State :=
  match x.turn, x.frameLane with
  | .outstanding, some l => meterTold l s
  | _, _ => s

/-- The games are handed over and the record is removed (R73). -/
def takeOut (x : Session) (s : State) : State := dropSession x.id (handOverAll x.id x.bowlers s)

/-- A session is removed: games archived, turn ended or withdrawn, a cross partner left in the table un-crossed (R73). -/
def removeSession (id : Nat) (s : State) : State :=
  match s.session? id with
  | none => s
  | some x =>
    let partner := (s.partner? x).filter (·.cross)
    let s := withdrawTurn x (takeOut x s)
    match partner with
    | some y => startTurns (uncross y.id s)
    | none => s

/-- The sessions that use a lane: those that occupy it, and the partners of the cross sessions among them (R119). -/
def State.users (s : State) (l : LaneId) : List Session :=
  let on := s.sessions.filter (·.occupies l)
  s.sessions.filter fun y =>
    y.occupies l || on.any fun x => x.cross && (s.partner? x).any fun z => z.id == y.id

/-- Remove every session that uses the lane, without un-crossing (R79, R121 step 1); of two runs of archived games either
comes first (R135). -/
def removeUsers (l : LaneId) (s : State) : State :=
  match s.users l with
  | [] => s
  | [x] => withdrawTurn x (takeOut x s)
  | x :: y :: _ =>
    let first := Config.freeRunFirst s.free
    let s := s.setFree (s.free + 1)
    let s := if first then takeOut y (takeOut x s) else takeOut x (takeOut y s)
    withdrawTurn y (withdrawTurn x s)

/-! ## Retries (R118) -/

/-- The retry on the wait of a lane passes (R118). -/
def State.retryPasses (s : State) (l : LaneId) : Bool :=
  let m := s.meter l
  match m.wait with
  | none => false
  | some w =>
    match w.reason with
    | .journal => s.journalRoom 1
    | .credit =>
      match m.mode with
      | .time => 0 < m.balance
      | .game => ((w.charge.map (·.1)).getD 0 : Int) ≤ m.balance
      | .none => true

/-- A retry that passes: the wait and its reason are removed, and the lane is tested for leaving HELD (R118). -/
def passRetry (l : LaneId) (r : WaitReason) (s : State) : State :=
  dropReasons l (·.put r.hold false) (s.setMeter l { s.meter l with wait := none })

/-- The meter's wait gives the reason. -/
def State.waitsFor (s : State) (l : LaneId) (r : WaitReason) : Bool := (s.meter l).wait.any (·.reason == r)

end Sys2Proof.Machine
end

