-- ==== Sys2Proof/Machine/BallReturn.lean ====
section
/-! DEFINITION. The return controller's shared operations: the transit list, RUNNING and its run-on, jams and failed purges
(R88 to R102). -/

namespace Sys2Proof.Machine

/-- The return comes to RUNNING, or to RACK_FULL when the rack-full level is asserted; with an empty list the run-on begins
(R88, R91). -/
def Return.toRunning (r : Return) : Return :=
  if r.rackFull then { r with state := .rackFull, runOn := none }
  else { r with state := .running, runOn := if r.transit.isEmpty then some Config.runOn else none }

/-- Entering JAMMED (R96). -/
def enterJammed (j : JamReason) (s : State) : State :=
  let s := s.setRet { s.ret with state := .jammed j, runOn := none, purge := none }
  let s := addReason .ret .B (addReason .ret .A s)
  notice (.jam j) s

/-- A purge fails (R99). -/
def purgeFails (j : JamReason) (s : State) : State :=
  let pend := s.ret.pend
  let s := enterJammed j (s.setRet { s.ret with pend := none, purgeCount := none })
  match pend with
  | some (addr, tag) => deferredReply addr tag .clearJam .failed .none s
  | none => s

/-- The return takes a ball of a lane (R89). -/
def ballIntoReturn (l : LaneId) (s : State) : State :=
  let r := s.ret
  if r.transit.length < Config.transitCap then
    let rec_ : BallRecord := { origin := l, arrival := s.ctl.clock.map (·.second), age := 0 }
    let r := { r with transit := r.transit ++ [rec_] }
    match r.state with
    | .idle => s.setRet r.toRunning
    | .running => s.setRet { r with runOn := none }
    | _ => s.setRet r
  else
    match r.state with
    | .running | .rackFull => enterJammed .overfill s
    | .purging => purgeFails .overfill s
    | .idle | .jammed _ => s

/-- A ball passes the top of the lift: the head record is removed (R90); in RUNNING an emptied list begins the run-on (R91). -/
def Return.liftTop (r : Return) : Return :=
  match r.transit with
  | [] => r
  | _ :: rest =>
    let r := { r with transit := rest }
    if r.state = .running ∧ rest = [] then { r with runOn := some Config.runOn } else r

/-- The rack-full level changes (R92). -/
def Return.rackChange (r : Return) (asserted : Bool) : Return :=
  let r := { r with rackFull := asserted }
  match r.state, asserted with
  | .running, true => { r with state := .rackFull, runOn := none }
  | .rackFull, false => r.toRunning
  | _, _ => r

/-- The age at which the head record jams the return: the first in tenths above ten times the limit (R93), within the
record's range of 0..300 (R88, log entry 7). -/
def overdueAge (limit age : Nat) : Nat := min Config.ageCap (max (age + 1) (10 * limit + 1))

/-- The strain flag after a sample (R94). -/
def strainAfter (level sample : Nat) (flag : Bool) : Bool :=
  if level ≤ sample then true else if sample + 8 < level then false else flag

/-- A lift current sample (R94, R95): first the strain level, then the stall level. -/
def liftSample (v : Nat) (s : State) : State :=
  if s.ret.state.liftRuns then
    let level := s.ctl.setup.strain
    let was := s.ret.strain
    let s := s.setRet { s.ret with strain := strainAfter level v was }
    let s := if level ≤ v && !was then notice (.strain v) s else s
    if s.ctl.setup.stall ≤ v then
      match s.ret.state with
      | .purging => purgeFails .stall s
      | _ => enterJammed .stall s
    else s
  else s

/-- The purge ends (R98). -/
def purgeEnds (s : State) : State :=
  let r := s.ret
  let n := r.transit.length
  let s := s.setRet { r with state := .idle, transit := [], purgeCount := some n, purge := none, pend := none }
  match r.pend with
  | some (addr, tag) => deferredReply addr tag .clearJam .done (.purged n) s
  | none => s

/-- Begin a purge (R97, R102). -/
def Return.beginPurge (r : Return) : Return :=
  { r with state := .purging, purgeCount := none, runOn := none, purge := some Config.purge }

/-- The return after a warm reset, with a lane open or not (R102). -/
def Return.warm (r : Return) (anyOpen : Bool) : Return :=
  let r := { r with transit := [], strain := false, purgeCount := none, pend := none, runOn := none, purge := none }
  if anyOpen then r.beginPurge else { r with state := .idle }

end Sys2Proof.Machine
end

