-- ==== Sys2Proof/Machine/DeckSensor.lean ====
section
/-! DEFINITION. The deck sensor: standing maps (R29) and calibration reads (R33 to R36). -/

namespace Sys2Proof.Machine

/-- The level of the spot with index i. -/
def levelAt (levels : List Nat) (i : Nat) : Nat := levels.getD i 0

/-- The standing map of a read: an unreadable spot reads down, any other stands at or above its threshold (R29). -/
def Deck.standing (d : Deck) (levels : List Nat) : SpotMap :=
  spotsWhere fun i => !onSpot d.unreadable i && d.thresholds.getD i 0 ≤ levelAt levels i

/-- The last read is written (R29). -/
def Deck.takeRead (d : Deck) (levels : List Nat) : Deck :=
  { d with last := some { levels := levels, map := d.standing levels, estimated := d.unreadable != noSpots } }

/-- The step a calibration read belongs to (R33). -/
def CalRecord.step (c : CalRecord) : Nat :=
  match c.mode with
  | some (.single k) => k
  | _ => c.steps + 1

/-- The read counted against the trial threshold 4k of its step (R33). -/
def CalRecord.count (c : CalRecord) (levels : List Nat) : CalRecord :=
  { c with
    reads := c.reads + 1
    misses := (List.range 10).map fun i => c.misses.getD i 0 + (decide (levelAt levels i < 4 * c.step)).toNat }

/-- A step at which a spot's misses meet a test becomes its step unless it has one (R34). -/
def noteStep (k : Nat) (test : Nat → Bool) (now : Option Nat) (misses : Nat) : Option Nat :=
  match now with
  | some j => some j
  | none => if test misses then some k else none

/-- The fourth read of a sweep's step settles it (R34). -/
def CalRecord.settle (c : CalRecord) : CalRecord :=
  let k := c.step
  { c with
    steps := k
    firstMiss := List.zipWith (noteStep k (1 ≤ ·)) c.firstMiss c.misses
    allMiss := List.zipWith (noteStep k (· == 4)) c.allMiss c.misses
    reads := 0, misses := List.replicate 10 0 }

/-- The sweep ends after this settled step (R34). -/
def CalRecord.sweepOver (c : CalRecord) : Bool := 15 ≤ c.steps || c.allMiss.all Option.isSome

/-- A spot's threshold after a sweep, from its first-miss step and its threshold before (R35). -/
def newThreshold (f old : Nat) : Nat := if f ≤ 1 then old else max 4 (4 * f / 2)

/-- The sweep completes: 16 where no step was noted, outcomes, thresholds and marks (R34, R35). -/
def Deck.completeSweep (d : Deck) : Deck :=
  let c := d.cal
  let first := c.firstMiss.map (·.getD 16)
  let thresholds := List.zipWith newThreshold first d.thresholds
  let bad := spotsWhere fun i => first.getD i 16 == 1
  { d with
    thresholds := thresholds, unreadable := bad
    cal := { c with
      result := .complete, firstMiss := first.map some, allMiss := c.allMiss.map fun o => some (o.getD 16)
      outcome := some (thresholds, bad) } }

/-- The single step completes: the miss counts are recorded and nothing else changes (R36). -/
def Deck.completeSingle (d : Deck) : Deck :=
  { d with cal := { d.cal with
      result := .complete, steps := 1, missCount := some d.cal.misses, reads := 0, misses := List.replicate 10 0 } }

/-- One calibration read (R33): the deck sensor after it, and the good and unreadable counts when it was the last
(R35, R36). -/
def Deck.calRead (d : Deck) (levels : List Nat) : Deck × Option (Nat × Nat) :=
  let c := d.cal.count levels
  let d := { d with cal := c }
  if c.reads < 4 then (d, none)
  else
    match c.mode with
    | some (.single _) => (d.completeSingle, some ((c.misses.filter (· == 0)).length, (c.misses.filter (· == 4)).length))
    | _ =>
      let d := { d with cal := c.settle }
      if d.cal.sweepOver then
        let e := d.completeSweep
        (e, some (10 - spotCount e.unreadable, spotCount e.unreadable))
      else (d, none)

/-- The record of a calibration taken: RUNNING, no steps, thresholds before written (R32). -/
def Deck.startCal (d : Deck) (m : CalMode) : Deck :=
  { d with cal := { CalRecord.empty with mode := some m, result := .running, before := some (d.thresholds, d.unreadable) } }

/-- A calibration read in CALIBRATING; the last one completes the calibration (R33, R35, R36, R22). After any other read the
next sense pass is asked for (`sensePass`, R33). -/
def calibrationRead (l : LaneId) (levels : List Nat) (s : State) : State :=
  let r := (s.deck l).calRead levels
  let s := s.setDeck l r.1
  match r.2 with
  | none => s
  | some (good, bad) =>
    let s := answerPending l .done (.counts good bad) s
    rackTest l false (s.setSeq l { s.seq l with timer := none })

/-- A read in READING (R5, R29): the map, the ball result of a ball still to be scored, then the read position. -/
def deckRead (l : LaneId) (levels : List Nat) (s : State) : State :=
  let s := s.setDeck l ((s.deck l).takeRead levels)
  let map := (s.deck l).standing levels
  let estimated := (s.deck l).unreadable != noSpots
  let c := (s.seq l).cycle.getD (freshCycle .ball 0)
  let r : State × Option (CycleKind × Bool) :=
    match c.ball with
    | some { bowler := some (id, i), foul := foul } =>
      if s.currentBowler l = some (id, i) then scoreRead l id i map estimated foul s else (s, none)
    | _ => (s, none)
  let s := r.1
  let q := s.seq l
  let c := match r.2 with
    | some (k, ended) => { c with kind := k, frameEnd := ended, ball := none }
    | none => { c with ball := none }
  let holds := if q.mode = .eachBall then { q.holds with eachBall := true } else q.holds
  let q := { q with cycle := some c, holds := holds, stray := q.stray && r.2.isNone }
  if (s.meter l).isOpen && holds.eachBall then s.setSeq l { q with state := .held .read, timer := none }
  else s.setSeq l { q with state := .clearing, timer := some Config.clearLimit }

end Sys2Proof.Machine
end

