-- ==== Sys2Proof/Machine/MachineEvents.lean ====
section
/-! DEFINITION. The machine events of the lanes and the return: BALL to PURGE_END. -/

namespace Sys2Proof.Machine

/-! ## Balls and fouls (R3, R8, R9, R37) -/

/-- A BALL in ARMED begins a ball cycle (R3). -/
def beginBallCycle (l : LaneId) (s : State) : State :=
  let q := s.seq l
  let c : Cycle :=
    { kind := .full, read := true, origin := .ball, restart := 0, frameEnd := false
      ball := some { bowler := s.currentBowler l, foul := q.foul } }
  s.setSeq l { q with state := .settling, cycle := some c, foul := false, timer := some (s.ctl.setup.settle * 100) }

/-- A stray ball (R8); a calibration in flight notes it in its record too (R37). -/
def strayBall (l : LaneId) (s : State) : State :=
  let s := if (s.seq l).state.inCalibration then
      s.setDeck l { s.deck l with cal := { (s.deck l).cal with stray := true } }
    else s
  s.setSeq l { s.seq l with stray := true }

/-- BALL (R3, R8, R89). -/
def execBall (l : LaneId) (s : State) : Host.Outcome State Fault Refusal :=
  live s fun s => ballIntoReturn l (if (s.seq l).state = .armed then beginBallCycle l s else strayBall l s)

/-- FOUL (R9). -/
def execFoul (l : LaneId) (s : State) : Host.Outcome State Fault Refusal :=
  live s fun s =>
    if (s.seq l).state = .armed ∧ (s.currentBowler l).isSome then s.setSeq l { s.seq l with foul := true } else s

/-! ## The cycle (R3 to R7) -/

/-- SETTLE_EXPIRY (R3). -/
def execSettleExpiry (l : LaneId) (s : State) : Host.Outcome State Fault Refusal :=
  live s fun s => if (s.seq l).state = .settling then enterSpacing l .reading s else s

/-- SPACING_WAIT_2W (R145). -/
def execSpacingWait2W (l : LaneId) (s : State) : Host.Outcome State Fault Refusal := live s (markUrgent l)

/-- READ_DONE (R5, R29, R33). -/
def execReadDone (l : LaneId) (levels : List Nat) (s : State) : Host.Outcome State Fault Refusal :=
  live s fun s =>
    match (s.seq l).state with
    | .reading => deckRead l levels s
    | .calibrating => calibrationRead l levels s
    | _ => s

/-- CLEAR_DONE (R6). -/
def execClearDone (l : LaneId) (s : State) : Host.Outcome State Fault Refusal :=
  live s fun s =>
    if (s.seq l).state = .clearing then s.setSeq l { s.seq l with state := .setting, timer := some Config.setLimit } else s

/-- What the deck stands with after SETTING (R30). -/
def CycleKind.rack : CycleKind → RackState
  | .full => .full
  | .respot _ => .partialRack

/-- The end of a cycle, in the order of R7's steps. -/
def cycleEnds (l : LaneId) (s : State) : State :=
  let c := (s.seq l).cycle.getD (freshCycle .recovery 0)
  let s := s.setDeck l { s.deck l with rack := c.kind.rack }
  let s := match (s.seq l).pend with
    | some p => if p.req.endsWithCycle then answerPending l .done p.req.doneData s else s
    | none => s
  let s := s.setSeq l { s.seq l with cycle := none, timer := none }
  if (s.meter l).isOpen then
    let q := s.seq l
    let s := if q.mode = .frameEnd ∧ c.frameEnd then setHolds l { q.holds with frameEnd := true } s else s
    rackTest l c.frameEnd s
  else enterStandby l s

/-- SET_DONE (R7). -/
def execSetDone (l : LaneId) (s : State) : Host.Outcome State Fault Refusal :=
  live s fun s => if (s.seq l).state = .setting then cycleEnds l s else s

/-- PHASE_LIMIT_EXPIRY (R10). -/
def execPhaseLimitExpiry (l : LaneId) (s : State) : Host.Outcome State Fault Refusal :=
  live s fun s =>
    match (s.seq l).state.phase? with
    | some ph => overrun l ph s
    | none => s

/-! ## The return (R90 to R98) -/

/-- LIFT_TOP (R90). -/
def execLiftTop (s : State) : Host.Outcome State Fault Refusal := live s fun s => s.setRet s.ret.liftTop

/-- RACK_FULL_CHANGE (R92). -/
def execRackFullChange (asserted : Bool) (s : State) : Host.Outcome State Fault Refusal :=
  live s fun s => s.setRet (s.ret.rackChange asserted)

/-- LIFT_CURRENT_SAMPLE (R94, R95). -/
def execLiftCurrentSample (sample : Byte) (s : State) : Host.Outcome State Fault Refusal := live s (liftSample sample.toNat)

/-- RUN_ON_EXPIRY (R91). -/
def execRunOnExpiry (s : State) : Host.Outcome State Fault Refusal :=
  live s fun s =>
    if s.ret.state = .running ∧ s.ret.runOn.isSome then s.setRet { s.ret with state := .idle, runOn := none } else s

/-- TRANSIT_OVERDUE (R93). -/
def execTransitOverdue (s : State) : Host.Outcome State Fault Refusal :=
  live s fun s =>
    match s.ret.state, s.ret.transit with
    | .running, b :: rest =>
      enterJammed .overdue
        (s.setRet { s.ret with transit := { b with age := overdueAge s.ctl.setup.transit b.age } :: rest })
    | _, _ => s

/-- PURGE_END (R98). -/
def execPurgeEnd (s : State) : Host.Outcome State Fault Refusal :=
  live s fun s => if s.ret.state = .purging then purgeEnds s else s

end Sys2Proof.Machine
end

