-- ==== Sys2Proof/Machine/BillingRequests.lean ====
section
/-! DEFINITION. The requests of class BILLING_REQ: opening and closing a lane, credit, tariffs, the journal and the archive
(R20, R21, R105, R106, R109, R110, R117 to R121, R131, R137). -/

namespace Sys2Proof.Machine

/-! ## OPEN_LANE (R105, R106, R20) -/

/-- The mode charges, so that it needs bands and a clock (R105). -/
def BillMode.charges : BillMode → Bool
  | .game | .time => true
  | .none => false

/-- The balance as OPEN_LANE sets it (R106 step 2). -/
def OpenArgs.balance (a : OpenArgs) : Nat := if a.prepaid then min 2000000 a.credit else 0

/-- The meter record as OPEN_LANE leaves it (R106 steps 1 to 3). -/
def OpenArgs.meter (a : OpenArgs) (k : BillMode) : Meter :=
  { Meter.lost with isOpen := true, mode := k, prepaid := a.prepaid, balance := a.balance }

/-- An OPEN_LANE taken (R106). -/
def openLane (m : Msg) (l : LaneId) (k : BillMode) (a : OpenArgs) (s : State) : State :=
  let s := reply m .openLane .accepted .none s
  let s := s.setMeter l (a.meter k)
  let s := appendEntry l (.opening k a.prepaid (if a.prepaid then some (a.balance : Int) else none)) s
  beginCycle l (freshCycle .opening 0) (setPendingReq l m (.openLane a.balance) s)

/-- OPEN_LANE at its owner: its tests in order (R105). DESIGN CHOICE (log entry 57): a lane whose pending-request record is
occupied answers by these tests, STATE outside STANDBY, and not the BUSY of R24. -/
def ownOpenLane (m : Msg) (a : OpenArgs) (s : State) : State :=
  match laneOf a.lane, billModeOf a.mode with
  | some l, some k =>
    if (s.meter l).isOpen = true ∨ (s.seq l).state ≠ .standby ∨ (k.charges = true ∧ s.tariff.live.bands = []) then
      refuse m .openLane .state s
    else if k.charges && s.ctl.clock.isNone then refuse m .openLane .noClock s
    else if s.journalRoom 2 = false then refuse m .openLane .journalFull s
    else openLane m l k a s
  | _, _ => refuse m .openLane .range s

/-- OPEN_LANE (R105). -/
def takeOpenLane (m : Msg) (s : State) : State := request .openLane parseOpen (ownOpenLane m) m s

/-- OPEN_LANE (R105). -/
def execOpenLane (m : Msg) (s : State) : Host.Outcome State Fault Refusal := live s (takeOpenLane m)

/-! ## CLOSE_LANE (R119, R121, R21) -/

/-- The pending-request record holds a request other than an OPEN_LANE or a CALIBRATE (R119 step 3). -/
def Sequencer.busyForClose (q : Sequencer) : Bool :=
  match q.pend with
  | some p =>
    match p.req with
    | .openLane _ | .calibrate => false
    | .closeLane | .laneReset | .clearFault => true
  | none => false

/-- A transfer has a hold on the lane (R119 step 4). -/
def State.transferHolds (s : State) (l : LaneId) : Bool :=
  s.reserved == some l || (s.users l).any fun x =>
    match x.state with
    | .waitMove | .moving _ => true
    | _ => false

/-- A pending OPEN_LANE is displaced: it is answered FAILED (R21, R24). -/
def failOpening (l : LaneId) (s : State) : State :=
  match (s.seq l).pend with
  | some p =>
    match p.req with
    | .openLane _ => answerPending l .failed .none s
    | _ => s
  | none => s

/-- The sequencer's part of a close, by state (R21). -/
def closeSequencer (l : LaneId) (s : State) : State :=
  match (s.seq l).state with
  | .armed | .held (.rack _) | .calibrating | .fault _ | .standby => enterStandby l s
  | .spacing .calibrating => enterStandby l (leaveSpacing l s)
  | .held .read => enterSpacing l .clearing s
  | .settling | .spacing .reading | .spacing .clearing | .reading | .clearing | .setting => s

/-- A CLOSE_LANE taken (R121, R21): a displaced request is answered before the CLOSE_LANE enters the record. -/
def closeLane (m : Msg) (l : LaneId) (s : State) : State :=
  let s := reply m .closeLane .accepted .none s
  let reason := if (s.users l).isEmpty then CloseReason.request else CloseReason.forced
  let s := closeMeter l reason (removeUsers l s)
  let s := setHolds l { (s.seq l).holds with credit := false, journal := false } s
  let s := abortCalibration l .aborted (failOpening l s)
  closeSequencer l (setPendingReq l m .closeLane s)

/-- CLOSE_LANE at its owner: its tests in order (R119). -/
def ownCloseLane (m : Msg) (a : Nat × Nat) (s : State) : State :=
  match laneOf a.1 with
  | none => refuse m .closeLane .range s
  | some l =>
    if (s.meter l).isOpen = false then refuse m .closeLane .state s
    else if (s.seq l).busyForClose || s.transferHolds l || (!(s.users l).isEmpty && !flagOf a.2) then
      refuse m .closeLane .busy s
    else closeLane m l s

/-- CLOSE_LANE (R119). -/
def takeCloseLane (m : Msg) (s : State) : State := request .closeLane parse2 (ownCloseLane m) m s

/-- CLOSE_LANE (R119). -/
def execCloseLane (m : Msg) (s : State) : Host.Outcome State Fault Refusal := live s (takeCloseLane m)

/-! ## ADD_CREDIT (R117, R118) -/

/-- The balance after a credit (R117). -/
def creditedBalance (old : Int) (amount : Nat) : Int := min Config.balanceMax (old + amount)

/-- The sum of a credit is cut (R117). -/
def creditCut (old : Int) (amount : Nat) : Bool := decide (Config.balanceMax < old + amount)

/-- The retry of an ADD_CREDIT (R118). -/
def creditRetry (l : LaneId) (s : State) : State :=
  if s.waitsFor l .credit && s.retryPasses l then passRetry l .credit s else s

/-- A credit taken (R117). -/
def addCredit (m : Msg) (l : LaneId) (amount : Nat) (s : State) : State :=
  let old := (s.meter l).balance
  let new := creditedBalance old amount
  let cut := creditCut old amount
  let s := s.setMeter l { s.meter l with balance := new }
  let s := appendEntry l (.credit (new - old).toNat cut new) s
  creditRetry l (reply m .addCredit (if cut then .clamped else .done) (.balance new) s)

/-- ADD_CREDIT at its owner: its tests in order (R117). -/
def ownAddCredit (m : Msg) (a : Nat × Nat) (s : State) : State :=
  match laneOf a.1 with
  | none => refuse m .addCredit .range s
  | some l =>
    if a.2 < 1 ∨ 200000 < a.2 then refuse m .addCredit .range s
    else if (s.meter l).isOpen = false ∨ (s.meter l).prepaid = false then refuse m .addCredit .state s
    else if s.journalRoom 1 = false then refuse m .addCredit .journalFull s
    else addCredit m l a.2 s

/-- ADD_CREDIT (R117). -/
def takeAddCredit (m : Msg) (s : State) : State := request .addCredit parseCredit (ownAddCredit m) m s

/-- ADD_CREDIT (R117). -/
def execAddCredit (m : Msg) (s : State) : Host.Outcome State Fault Refusal := live s (takeAddCredit m)

/-! ## Tariffs (R109, R110) -/

/-- TARIFF_BAND at its owner (R109). -/
def ownTariffBand (m : Msg) (a : BandArgs) (s : State) : State :=
  if 7 < a.slot then refuse m .tariffBand .range s
  else
    (reply m .tariffBand .done .none s).setTariff { s.tariff with staged := s.tariff.staged.set a.slot (some a.band) }

/-- TARIFF_BAND (R109). -/
def takeTariffBand (m : Msg) (s : State) : State := request .tariffBand parseBand (ownTariffBand m) m s

/-- TARIFF_BAND (R109). -/
def execTariffBand (m : Msg) (s : State) : Host.Outcome State Fault Refusal := live s (takeTariffBand m)

/-- TARIFF_COMMIT at its owner (R110). -/
def ownTariffCommit (m : Msg) (a : Nat × Nat) (s : State) : State :=
  if 8 < a.1 ∨ 1439 < a.2 then refuse m .tariffCommit .range s
  else
    match commitBands a.1 s.tariff.staged with
    | none => refuse m .tariffCommit .tariffOrder s
    | some bs =>
      (reply m .tariffCommit .done .none s).setTariff { s.tariff with live := { dayStart := some a.2, bands := bs } }

/-- TARIFF_COMMIT (R110). -/
def takeTariffCommit (m : Msg) (s : State) : State := request .tariffCommit parseCommit (ownTariffCommit m) m s

/-- TARIFF_COMMIT (R110). -/
def execTariffCommit (m : Msg) (s : State) : Host.Outcome State Fault Refusal := live s (takeTariffCommit m)

/-! ## RELEASE_JOURNAL, ARCHIVE_CLEAR (R131, R118, R137) -/

/-- The retries a release makes (R118): both lanes are tested against the journal as released, then lane A's turn start is
made first. -/
def journalRetries (s : State) : State :=
  let ra := s.waitsFor .A .journal && s.retryPasses .A
  let rb := s.waitsFor .B .journal && s.retryPasses .B
  let s := if ra then passRetry .A .journal s else s
  if rb then passRetry .B .journal s else s

/-- RELEASE_JOURNAL at its owner (R131). -/
def ownReleaseJournal (m : Msg) (q : Nat) (s : State) : State :=
  match s.store.release q with
  | (t, n, upTo, cut) =>
    let s := reply m .releaseJournal (if cut then .clamped else .done) (.freed n upTo) (s.setStore t)
    if n = 0 then s else journalRetries s

/-- RELEASE_JOURNAL (R131). -/
def takeReleaseJournal (m : Msg) (s : State) : State := request .releaseJournal parseSeq (ownReleaseJournal m) m s

/-- RELEASE_JOURNAL (R131). -/
def execReleaseJournal (m : Msg) (s : State) : Host.Outcome State Fault Refusal := live s (takeReleaseJournal m)

/-- ARCHIVE_CLEAR at its owner (R137). -/
def ownArchiveClear (m : Msg) (_ : Unit) (s : State) : State :=
  (reply m .archiveClear .done (.removed s.store.archive.length) s).setStore { s.store with archive := [] }

/-- ARCHIVE_CLEAR (R137). -/
def takeArchiveClear (m : Msg) (s : State) : State := request .archiveClear parseNone (ownArchiveClear m) m s

/-- ARCHIVE_CLEAR (R137). -/
def execArchiveClear (m : Msg) (s : State) : Host.Outcome State Fault Refusal := live s (takeArchiveClear m)

end Sys2Proof.Machine
end

