-- ==== Sys2Proof/Machine/TransferUnit.lean ====
section
/-! DEFINITION. The transfer unit: the source's parts, the target's check and the installation of a session (R154 to R167). -/

namespace Sys2Proof.Machine

/-! ## Source side -/

/-- A ball as BALLS sends it (R159). -/
def BallEntry.carried (b : BallEntry) : CarriedBall :=
  { pins := b.pins, foul := b.foul, estimated := b.estimated, corrected := b.corrected, split := b.split
    supplied := b.supplied }

/-- The IDENT fields of a bowler (R159). -/
def Bowler.identFields (b : Bowler) : IdentFields :=
  { name := b.name, handicap := b.handicap, absent := b.absent, charged := (b.game.map (·.charged)).getD false
    completed := b.completed }

/-- The frame shape and ball list of a game (R159): filled frames run from frame 1. -/
def Game.ballsFields (g : Game) : BallsFields :=
  { counts := (g.frames.filterMap id).map (·.balls.length), balls := g.balls.map BallEntry.carried }

/-- The message of a part (R158, R159). -/
def Session.partMsg (x : Session) : Part → Option TransferMsg
  | .ident i => (x.bowler? i).map fun b => .ident i b.identFields
  | .balls i => ((x.bowler? i).bind (·.game)).map fun g => .balls i g.ballsFields

/-- The part after a part, none after BALLS of bowler n (R158). -/
def Part.after (n : Nat) : Part → Option Part
  | .ident i => some (.balls i)
  | .balls i => if i < n then some (.ident (i + 1)) else none

/-- Queue a part and start the step timer again (R158). -/
def sendPart (tag peer : Nat) (lane : LaneId) (sid : Nat) (req : Nat × Nat) (p : Part) (s : State) : State :=
  let s := s.setTransfer
    { s.transfer with record := .source (.sending p) (some tag) peer lane sid req (some Config.stepLimit) }
  match (s.session? sid).bind (·.partMsg p) with
  | some m => sendTransfer peer tag m s
  | none => s

/-- Queue COMMIT: the record and the session's transfer phase become COMMITTED (R160). -/
def sendCommit (tag peer : Nat) (lane : LaneId) (sid : Nat) (req : Nat × Nat) (s : State) : State :=
  let s := s.setTransfer
    { s.transfer with record := .source .committed (some tag) peer lane sid req (some Config.stepLimit) }
  let s := match s.session? sid with
    | some x => putSession { x with state := .moving .committed } s
    | none => s
  sendTransfer peer tag .commit s

/-- The transfer message is the part in hand. -/
def Part.isMsg : Part → TransferMsg → Bool
  | .ident i, .ident j _ => i == j
  | .balls i, .balls j _ => i == j
  | _, _ => false

/-- A marked frame was acknowledged: when it is the part in hand, the next frame is queued (R158, R160, log entry 24). -/
def partAcked (tag : Nat) (m : TransferMsg) (s : State) : State :=
  match s.transfer.record with
  | .source (.sending p) (some t) peer lane sid req _ =>
    if t = tag ∧ p.isMsg m then
      match p.after (((s.session? sid).map (·.size)).getD 0) with
      | some q => sendPart t peer lane sid req q s
      | none => sendCommit t peer lane sid req s
    else s
  | _ => s

/-- The record's side becomes IDLE. -/
def transferIdle (s : State) : State := s.setTransfer { s.transfer with record := .idle }

/-- The session returns from MOVING to PLAYING and a turn selection is made (R83). -/
def backToPlaying (sid : Nat) (s : State) : State :=
  match s.session? sid with
  | some x => startTurns (selectTurn sid (putSession { x with state := .playing } s))
  | none => s

/-- The move fails before COMMIT was sent, or by a DECLINE after it: the session plays on, the requester is told, and the side
becomes IDLE, in the order R158 and R163 list them (log entry 12). -/
def moveFails (sid : Nat) (req : Nat × Nat) (step : MoveStep) (why : Option AnswerReason) (s : State) : State :=
  transferIdle (deferredReply req.1 req.2 .moveSession .failed (.moveFailed step why) (backToPlaying sid s))

/-- The step a failed move names from the source's state (R163). -/
def SourceState.step : SourceState → MoveStep
  | .waiting | .offered => .offer
  | .sending (.ident i) => .ident i
  | .sending (.balls i) => .balls i
  | .committed => .commit

/-- A session is parked (R83, R163). -/
def park (sid : Nat) (s : State) : State :=
  match s.session? sid with
  | some x => notice (.sessionParked sid) (putSession { x with state := .parked, turn := .none } s)
  | none => s

/-- The transfer ends with DONE at the source: the session is removed without archiving and the requester told (R163). The
new session id is a free value (log entry 13). -/
def moveDone (sid peer : Nat) (req : Nat × Nat) (s : State) : State :=
  let id := (Config.freeSessionId s.free).val + 1
  let s := dropSession sid (transferIdle (s.setFree (s.free + 1)))
  deferredReply req.1 req.2 .moveSession .done (.moved id peer) s

/-! ## Withdrawal at the start of a transfer (R156 step 1) -/

/-- The highest index whose slot for frame f is filled (R156). -/
def Session.filledUpTo (x : Session) (f : Nat) : Option Nat :=
  ((List.range x.bowlers.length).filterMap fun k =>
    match (x.bowlers[k]?).bind (·.game) with
    | some g => if (g.slot f).isSome then some (k + 1) else none
    | none => none).getLast?

/-- The session has a turn OUTSTANDING, or ACTIVE with no ball in the current frame (R156). -/
def Session.turnUnbegun (x : Session) : Bool :=
  match x.turn with
  | .outstanding => true
  | .active =>
    match x.pos, (x.current.bind x.bowler?).bind (·.game) with
    | some p, some g => (g.ballsOf p.frame).isEmpty
    | _, _ => true
  | _ => false

/-- The transfer starts (R156): an unbegun turn is withdrawn, the session enters MOVING and the OFFER is queued. The meter is
told once the session is MOVING, so that the lane it frees takes no turn of this session (log entry 27). -/
def startTransfer (id : Nat) (s : State) : State :=
  match s.session? id with
  | none => s
  | some x =>
    if x.turnUnbegun then
      let f := (x.pos.map (·.frame)).getD 1
      let s := startOffer id (putSession { x with turn := .none, current := x.filledUpTo f } s)
      match x.frameLane with
      | some l => meterTold l s
      | none => s
    else startOffer id s

/-! ## Target side -/

/-- The tests of an OFFER, in order (R157). -/
def offerTest (s : State) (sender : Nat) (o : OfferFields) : Option AnswerReason :=
  if isPair sender = false then some .notPermitted
  else if s.transfer.record ≠ .idle then some .busy
  else if (s.meter o.lane).isOpen = false then some .laneClosed
  else if s.occupied o.lane then some .laneTaken
  else if 2 ≤ s.sessions.length then some .tableFull
  else none

/-- An IDENT is written, or sets the structure fault (R159). -/
def addIdent (n i : Nat) (f : IdentFields) (parts : List BowlerParts) : List BowlerParts × Bool :=
  if 1 ≤ i ∧ i ≤ n then (parts.modify (i - 1) fun p => { p with ident := some f }, false) else (parts, true)

/-- The counts and pinfalls of a BALLS are in range and agree (R159). -/
def BallsFields.sound (f : BallsFields) (filled : Nat) : Bool :=
  filled ≤ 10 && f.balls.all (·.pins ≤ 10) && f.counts.all (· ≤ 3) && f.balls.length == f.counts.sum

/-- A BALLS is written, or sets the structure fault (R159). -/
def addBalls (n i filled : Nat) (f : BallsFields) (parts : List BowlerParts) : List BowlerParts × Bool :=
  if 1 ≤ i ∧ i ≤ n ∧ f.sound filled then (parts.modify (i - 1) fun p => { p with balls := some f }, false)
  else (parts, true)

/-- A carried entry (R41, R162). -/
def CarriedBall.entry (f j : Nat) (c : CarriedBall) : BallEntry :=
  { frame := f, ball := j, before := none, after := none, pins := c.pins, foul := c.foul, estimated := c.estimated
    split := c.split, corrected := c.corrected, supplied := c.supplied, lane := .remote }

/-- The carried entries of frame f, numbered from ball j. -/
def carriedEntries (f : Nat) : Nat → List CarriedBall → List BallEntry
  | _, [] => []
  | j, c :: rest => c.entry f j :: carriedEntries f (j + 1) rest

/-- The frames of a frame shape, from frame f on (R159, R162). -/
def shapeFrames : Nat → List Nat → List CarriedBall → List (List BallEntry)
  | _, [], _ => []
  | f, c :: counts, bs => carriedEntries f 1 (bs.take c) :: shapeFrames (f + 1) counts (bs.drop c)

/-- A filled frame with balls has an ended shape (R49, R50, R161). -/
def endedShape (f : Nat) : List BallEntry → Bool
  | [] => true
  | [b1] => f < 10 && b1.isStrike
  | [b1, b2] => !b1.isStrike && (f < 10 || b1.pins + b2.pins != 10)
  | [b1, b2, _] => f == 10 && (b1.isStrike || b1.pins + b2.pins == 10)
  | _ => false

/-- The pinfalls of the balls bowled at one rack sum to at most 10 (R50, R161). -/
def racksOk : List BallEntry → Bool
  | [] => true
  | [b1] => b1.pins ≤ 10
  | [b1, b2] => b1.pins + b2.pins ≤ 10
  | b1 :: b2 :: b3 :: _ =>
    if b1.isStrike then (if b2.isStrike then b3.pins ≤ 10 else b2.pins + b3.pins ≤ 10)
    else b1.pins + b2.pins ≤ 10 && b3.pins ≤ 10

/-- One frame passes the structure check (R161). -/
def frameSound (f : Nat) (bs : List BallEntry) : Bool :=
  endedShape f bs && racksOk bs && bs.all fun b => !b.foul || b.pins == 0

/-- Every frame from f on passes the structure check (R161). -/
def framesSound : Nat → List (List BallEntry) → Bool
  | _, [] => true
  | f, bs :: rest => frameSound f bs && framesSound (f + 1) rest

/-- One bowler's game passes the structure check (R161). -/
def bowlerSound (o : OfferFields) (i : Nat) (f : BallsFields) : Bool :=
  f.counts.length == (if i ≤ o.current then o.frame else o.frame - 1) && framesSound 1 (shapeFrames 1 f.counts f.balls)

/-- Every bowler's parts, when both have come for every bowler (R161). -/
def completeParts : List BowlerParts → Option (List (IdentFields × BallsFields))
  | [] => some []
  | p :: rest =>
    match p.ident, p.balls, completeParts rest with
    | some i, some b, some r => some ((i, b) :: r)
    | _, _, _ => none

/-- The structure check over the bowlers from index i on (R161). -/
def allSound (o : OfferFields) : Nat → List (IdentFields × BallsFields) → Bool
  | _, [] => true
  | i, p :: rest => bowlerSound o i p.2 && allSound o (i + 1) rest

/-- The completeness check (R161): the parts, or why not. -/
def commitCheck (o : OfferFields) (parts : List BowlerParts) (bad : Bool) :
    Except AnswerReason (List (IdentFields × BallsFields)) :=
  match completeParts parts with
  | none => .error .incomplete
  | some ps => if bad || !allSound o 1 ps then .error .badStructure else .ok ps

/-- A carried game's slots: the filled frames, then empty ones (R162). -/
def carriedFrames (f : BallsFields) : List (Option FrameRec) :=
  let filled := (shapeFrames 1 f.counts f.balls).map fun bs =>
    some { balls := bs, mark := .incomplete, score := none, cum := none }
  filled ++ List.replicate (10 - filled.length) none

/-- A bowler entry with its carried game (R162). -/
def installBowler (o : OfferFields) (p : IdentFields × BallsFields) : Bowler :=
  let name := enterName p.1.name
  let handicap := enterHandicap p.1.handicap
  let g : Game :=
    { Game.fresh name handicap o.number with
      charged := p.1.charged, frames := carriedFrames p.2
      status := if p.2.counts.length = 10 then .complete else .playing }
  { name := name, handicap := handicap, absent := p.1.absent, completed := min 99 p.1.completed
    game := some g.recompute, first := if p.2.counts.isEmpty then ballLane o.lane else .remote }

/-- The session is installed (R162). -/
def install (tag peer : Nat) (o : OfferFields) (ps : List (IdentFields × BallsFields)) (s : State) : State :=
  let id := s.newId
  let x : Session :=
    { id := id, home := o.lane, cross := false, state := .playing, size := o.size
      bowlers := ps.map (installBowler o)
      pos := some { number := o.number, frame := o.frame, lane := o.lane }
      turn := .none, current := if o.current = 0 then none else some o.current, limit := o.limit
      discount := o.discount }
  let s := transferIdle (sendTransfer peer tag .done (addSession x s))
  let crossed := s.sessions.find? fun y => y.id != id && y.cross && y.occupies (other o.lane)
  let r : State × List Nat := match crossed with
    | some y => uncross y.id s
    | none => (s, [])
  let q := selectTurn id r.1
  startTurns (q.1, r.2 ++ q.2)

end Sys2Proof.Machine
end

