-- ==== Sys2Proof/Machine/StationControl.lean ====
section
/-! DEFINITION. Station control: setup adoption, power-on and the warm reset of every block (R183 to R188, R26, R27, R40,
R85, R86, R102, R124, R139, R149, R166, R182). -/

namespace Sys2Proof.Machine

/-! ## Setup (R184, R185) -/

/-- Adopt a setup: CONFIGURED and locked, the timer stopped, the layout check made (R184, R126). -/
def adopt (u : Setup) (src : SetupSource) (s : State) : State :=
  let s := s.setCtl { s.ctl with setup := u, source := some src, setupWait := none }
  s.setStore (s.store.layoutCheck u.share)

/-- The stagger of an answer to requester r (R185). -/
def answerDelay (p r : Nat) : Nat := Config.staggerStep * ((p + 64 - r) % 64)

/-- Place a requester on the answer list; one already on it has its delay restarted (R185). -/
def placeAnswer (r delay : Nat) (list : List (Nat × Nat)) : List (Nat × Nat) :=
  if list.any (·.1 == r) then list.map fun e => if e.1 = r then (r, delay) else e else list ++ [(r, delay)]

/-- The requester leaves the answer list (R185). -/
def dropAnswer (r : Nat) (list : List (Nat × Nat)) : List (Nat × Nat) := list.filter (·.1 != r)

/-- Queue a setup request, addressed to broadcast (R184). -/
def sendSetupRequest (s : State) : State := send 255 .none .setupRequest s

/-! ## Warm reset -/

/-- A lane's sequencer before its recovery cycle or STANDBY (R27). -/
def Sequencer.warm (q : Sequencer) : Sequencer :=
  { Sequencer.powerOn with holds := q.holds.kept, mode := q.mode }

/-- A lane's deck sensor at a warm reset: RUNNING becomes ABORTED; EMPTY when the lane enters STANDBY (R40). -/
def Deck.warm (d : Deck) (isOpen : Bool) : Deck :=
  { d with
    rack := if isOpen then d.rack else .empty
    cal := if d.cal.result = .running then
        { d.cal with result := .aborted, reads := 0, misses := List.replicate 10 0 }
      else d.cal }

/-- The truncation of a warm reset: on a lane whose lost cycle record held a respot, applied to its current bowler
(R27, R85). -/
def truncateLost (l : LaneId) (s : State) : State :=
  if ((s.seq l).lostCycle.map fun c => c.kind.isRespot).getD false then
    match s.currentBowler l with
    | some (id, i) =>
      match s.session? id with
      | some x => putSession (x.truncate i) s
      | none => s
    | none => s
  else s

/-- What a warm reset does to a session in transfer (R85, R166). -/
def Session.warm (x : Session) : Session :=
  match x.state with
  | .moving .sending => { x with state := .playing }
  | .moving .committed => { x with state := .parked, turn := .none }
  | .waitMove => { x with state := .playing }
  | _ => x

/-- The session's transfer is lost at the reset before COMMIT, so that it selects again (R85). -/
def Session.returns (x : Session) : Bool :=
  (match x.state with
   | .moving .sending | .waitMove => true
   | _ => false) && x.turn == .none

/-- The session had committed, so that it is parked by the reset (R85, R86). -/
def Session.commits (x : Session) : Bool :=
  match x.state with
  | .moving .committed => true
  | _ => false

/-- An open lane begins its recovery cycle (R27). -/
def recover (l : LaneId) (s : State) : State :=
  if (s.meter l).isOpen then beginCycle l (freshCycle .recovery 0) s else s

/-- The warm reset (R188): each block takes its warm-reset values. DESIGN CHOICE (log entry 58): a STATION_RESET still to be
made is dropped, whatever the cause of the reset. -/
def warmReset (c : WarmCause) (supplyLow : Bool) (s : State) : State :=
  let s := truncateLost .B (truncateLost .A s)
  let parked := (s.sessions.filter Session.commits).map (·.id)
  let returned := (s.sessions.filter Session.returns).map (·.id)
  let s := { s with
    seqs := ⟨s.seqs.a.warm, s.seqs.b.warm⟩
    decks := ⟨s.decks.a.warm s.meters.a.isOpen, s.decks.b.warm s.meters.b.isOpen⟩
    sessions := s.sessions.map Session.warm
    ret := s.ret.warm (s.meters.a.isOpen || s.meters.b.isOpen)
    spacing := .reset s.ctl.setup.window
    transfer := { s.transfer with record := .idle }
    link := { s.link with queue := [], lineIdle := false, ack := false, response := none }
    ctl := { s.ctl with
      setupWait := if s.ctl.source.isNone then some Config.setupWait else none
      answers := [], supplyLow := supplyLow, cause := .warm c, warmCount := satAdd 255 s.ctl.warmCount 1
      resetDue := none } }
  let s := parked.foldl (fun s id => notice (.sessionParked id) s) s
  let s := if supplyLow then notice .supplyLow s else s
  let s := if s.ctl.source.isNone then sendSetupRequest s else s
  let s := recover .B (recover .A s)
  returned.foldl (fun s id => startTurns (selectTurn id s)) s

/-! ## Power-on -/

/-- A deck sensor at power-on with retention kept (R40). -/
def Deck.kept (d : Deck) : Deck := { d with rack := .empty, last := none, cal := .empty }

/-- A session record at power-on with retention kept (R86). -/
def Session.kept (x : Session) : Session :=
  let turn := if x.turn = .active then .outstanding else x.turn
  match x.state with
  | .forming => { x with state := .suspended .forming, turn := turn }
  | .playing | .waitMove => { x with state := .suspended .playing, turn := turn }
  | .waitPartner b => { x with state := .suspended (.waitPartner b), turn := turn }
  | .moving .sending => { x with state := .suspended .playing, turn := .none }
  | .moving .committed => { x with state := .parked, turn := .none }
  | .suspended _ | .parked => { x with turn := turn }

/-- A lane found open at power-on is closed by its meter (R124). -/
def closeFoundOpen (l : LaneId) (s : State) : State := if (s.meter l).isOpen then closeMeter l .power s else s

/-- The strap value as a pair address; 0 or above 60 is mute (R183). -/
def strapPair (strap : Nat) : Option Nat := if 1 ≤ strap ∧ strap ≤ 60 then some strap else none

/-- Power-on (R183): the retained domain is kept or lost, the straps are read, every other part takes its power-on value,
lanes found open are closed, lane A first (R133), and notices and the setup request are queued. DEDUCED (log entry 12): the
CREDIT_LOW of a close's rounding (R114, R120) is queued before SESSION_PARKED, and that before SUPPLY_LOW. -/
def powerUp (retained : Bool) (strap : Nat) (rackFull supplyLow : Bool) (s : State) : State :=
  let parked := if retained then (s.sessions.filter Session.commits).map (·.id) else []
  let s : State :=
    { pending := s.pending
      seqs := ⟨.powerOn, .powerOn⟩
      decks := if retained then ⟨s.decks.a.kept, s.decks.b.kept⟩ else ⟨.lost, .lost⟩
      meters := if retained then s.meters else ⟨.lost, .lost⟩
      sessions := if retained then s.sessions.map Session.kept else []
      nextId := if retained then s.nextId else 1
      ret := .powerOn rackFull
      tariff := if retained then s.tariff else .lost
      store := if retained then { s.store with layoutHeld := false } else .lost
      spacing := .reset Setup.builtIn.window
      silent := false
      transfer := { record := .idle, lastTag := 0 }
      link := { queue := [], group := 0, groupOn := false, lineIdle := false, ack := false, response := none }
      ctl :=
        { pair := strapPair strap, setup := .builtIn, source := none, setupWait := some Config.setupWait, answers := []
          clock := none, supplyLow := supplyLow, cause := if retained then .powerOn else .retentionLost, warmCount := 0
          resetDue := none, lineHeld := false, brownHeld := false }
      free := s.free }
  let s := closeFoundOpen .B (closeFoundOpen .A s)
  let s := parked.foldl (fun s id => notice (.sessionParked id) s) s
  let s := if supplyLow then notice .supplyLow s else s
  sendSetupRequest s

/-! ## The clock (R186) -/

/-- The second after a station time (R186). -/
def StationTime.next (t : StationTime) : StationTime :=
  if t.second = 86399 then { day := if t.day = 6 then 0 else t.day + 1, second := 0 }
  else { t with second := t.second + 1 }

end Sys2Proof.Machine
end

