-- ==== Sys2Proof/Machine/Reports.lean ====
section
/-! DEFINITION. The views the reports carry, taken from the state as it stands (R25, R39, R63, R84, R101, R122, R132, R136,
R138, R149, R167, R181, R188), and the census answers (R151). -/

namespace Sys2Proof.Machine

/-! ## LANE_STATUS and STATION_STATUS (R181) -/

/-- The cycle record as the report shows it (R25). -/
def Cycle.view (c : Cycle) : CycleView :=
  { kind := c.kind, read := c.read, origin := c.origin, restart := c.restart, frameEnd := c.frameEnd
    ball := c.ball.map fun b => (b.bowler.isSome, b.foul) }

/-- The fault record as the report shows it (R25). -/
def FaultRec.view (f : FaultRec) : FaultView :=
  { phase := f.phase, repeated := f.repeated, retained := f.retained.map fun c => (c.origin, c.restart) }

/-- LANE_STATUS (R25, R101, R122, R181). -/
def laneView (s : State) (l : LaneId) : LaneStatusView :=
  let q := s.seq l
  let m := s.meter l
  { state := q.state.name
    point := match q.state with | .held p => some p | _ => none
    next := match q.state with | .spacing n => some n | _ => none
    holds := q.holds, mode := q.mode, cycle := q.cycle.map Cycle.view
    fault := match q.state with | .fault f => some f.view | _ => none
    foul := q.foul, stray := q.stray, pend := q.pend.map (·.req.name)
    ret := s.ret.state, meter := m
    runs := if m.mode = .time ∧ m.isOpen then some (s.meterRuns l) else none
    sessions := (s.sessions.filter (·.occupies l)).map fun x => (x.id, x.state)
    current := s.currentBowler l
    outstanding := (s.sessions.filter fun x => x.turn == .outstanding && x.frameLane == some l).map (·.id) }

/-- The record store's part (R138). -/
def storeView (t : Store) : StationPart :=
  .store t.share t.layoutHeld t.journalCap t.journal.length t.freeCount t.oldest t.newest t.lastSeq t.archiveCap
    t.archive.length (t.archive.getLast?.map (·.serial))

/-- The spacing unit's part (R149). -/
def spacingView (u : Spacing) : StationPart :=
  .spacing (u.window.map fun e => (e.station, e.lane, e.life - e.age)) (u.waiting.map fun r => (r.lane, r.next, r.urgent))
    (u.passed && u.slot.isSome) u.quiet u.isLocal

/-- The transfer unit's part (R167): of the parts, only whether they have come. -/
def transferView (t : Transfer) : TransferView :=
  match t.record with
  | .target rcv tag peer o parts bad timer =>
    { record := .target rcv tag peer o [] bad timer
      received := parts.map fun p => (p.ident.isSome, p.balls.isSome), lastTag := t.lastTag }
  | r => { record := r, received := [], lastTag := t.lastTag }

/-- STATION_STATUS by part; a part above 6 does not exist (R181). -/
def stationView (s : State) : Nat → Option StationPart
  | 0 => some (.control s.ctl.pair s.ctl.source s.ctl.source.isSome s.ctl.clock s.ctl.supplyLow s.link.group s.link.groupOn
      s.silent s.link.queue.length)
  | 1 => some (.ret s.ret.state s.ret.rackFull s.ret.strain (powerDemand s.meters s.ret) s.ret.purgeCount s.ret.pend.isSome
      s.ret.transit)
  | 2 => some (.live s.tariff.live)
  | 3 => some (.staged s.tariff.staged)
  | 4 => some (storeView s.store)
  | 5 => some (spacingView s.spacing)
  | 6 => some (.transfer (transferView s.transfer))
  | _ => none

/-! ## SESSION and GAME (R84, R63) -/

/-- SESSION by part (R84). -/
def sessionView (s : State) (x : Session) : Nat → Option SessionPart
  | 0 => some (.head x.id x.home x.cross (if x.cross then (s.partner? x).map (·.id) else none) x.state x.size
      x.bowlers.length x.pos x.turn x.current x.limit x.discount)
  | i => (x.bowler? i).map fun b => .bowler b.name b.handicap b.absent b.completed b.first
      (b.game.map fun g => (g.number, g.status, g.charged, g.known, g.total))

/-- The session a SESSION request names: an id, or id 0 and a lane (R84). -/
def State.namedSession (s : State) (id lane : Nat) : Option Session :=
  if id = 0 then
    match laneOf lane with
    | some l => s.sessions.find? fun x => x.home == l && x.state != .parked
    | none => none
  else s.session? id

/-- The k-th run of n things of a list, absent when it would be empty. -/
def chunk {α : Type} (n k : Nat) (xs : List α) : Option (List α) :=
  if n * k < xs.length then some ((xs.drop (n * k)).take n) else none

/-- GAME by part: five ball entries to a part (R63, R193). -/
def gameView (sid i : Nat) (g : Game) : Nat → Option GameBody
  | 0 => some (.head sid i g.name g.handicap g.number g.status g.charged g.scratch g.total)
  | 1 => some (.frames (g.frames.map fun o => o.map fun r => (r.mark, r.score, r.cum)))
  | k + 2 => (chunk 5 k g.balls).map .balls

/-! ## CALIBRATION, JOURNAL, ARCHIVE (R39, R132, R136) -/

/-- CALIBRATION by part (R39, R193). -/
def calibrationView (d : Deck) : Nat → Option CalPart
  | 0 => some (.head d.thresholds d.unreadable d.rack d.cal.mode d.cal.result d.cal.steps d.cal.stray)
  | 1 => some (.last d.last)
  | 2 => some (.first d.cal.before d.cal.firstMiss)
  | 3 => some (.all d.cal.allMiss d.cal.missCount)
  | 4 => some (.outcome d.cal.outcome)
  | _ => none

/-- The journal entry with a sequence (R132). -/
def Store.entry? (t : Store) (q : Nat) : Option JournalEntry := t.journal.find? (·.seq == q)

/-- The subtotal list of an entry, present for a CLOSE of a TIME lane (R128). -/
def JournalEntry.list? (e : JournalEntry) : Option (List Subtotal) :=
  match e.body with
  | .closing _ _ _ _ list => list
  | _ => none

/-- JOURNAL by part (R132): part 1 returns up to three items from the first-item index. -/
def journalView (t : Store) (e : JournalEntry) (part first : Nat) : Option JournalPart :=
  match part with
  | 0 => some (.entry e (t.oldest.getD 0) (t.newest.getD 0))
  | 1 =>
    match e.list? with
    | some list => if 0 < first ∧ list.length ≤ first then none else some (.items e.seq list.length ((list.drop first).take 3))
    | none => none
  | _ => none

/-- The archived game at an index from the newest (R136). -/
def Store.fromNewest (t : Store) (index : Nat) : Option ArchivedGame := t.archive.reverse[index]?

/-- ARCHIVE by part: twelve balls to a part (R136, R193). -/
def archiveView (t : Store) (g : ArchivedGame) : Nat → Option ArchivePart
  | 0 => some (.head g t.archive.length)
  | k + 1 => (chunk 12 k g.balls).map (.balls g.serial)

/-! ## Census (R151) -/

/-- A lane that question 0 counts: closed and not in FAULT. -/
def State.laneFree (s : State) (l : LaneId) : Bool := !(s.meter l).isOpen && !(s.seq l).state.isFault

/-- A lane that question 2 counts: open and prepaid, with its balance below the low-credit level. -/
def State.laneLow (s : State) (l : LaneId) : Bool :=
  (s.meter l).isOpen && (s.meter l).prepaid && decide ((s.meter l).balance < (s.ctl.setup.low : Int))

/-- A session that question 5 counts. -/
def SessionState.counted : SessionState → Bool
  | .playing | .waitPartner _ | .waitMove => true
  | _ => false

/-- The answer to a census question (R151); `group` is the frame's group number. -/
def censusAnswer (s : State) (group : Nat) : Nat → Bool
  | 0 => s.laneFree .A || s.laneFree .B
  | 1 => (s.seq .A).state.isFault || (s.seq .B).state.isFault || s.ret.state.isJammed
  | 2 => s.laneLow .A || s.laneLow .B
  | 3 => (s.seq .A).state.isHeld || (s.seq .B).state.isHeld
  | 4 => s.link.groupOn && s.link.group == group
  | 5 => s.sessions.any (·.state.counted)
  | 6 => s.store.freeCount < 2 * s.store.share
  | 7 => s.ctl.source == some .builtIn
  | _ => false

/-- The position the responder drives, when it drives one (R150, R194). -/
def censusResponse (f : Bare) (s : State) : Option Nat :=
  match byteAt f.payload 0, byteAt f.payload 1, byteAt f.payload 2, s.ctl.pair with
  | some q, some sense, some group, some p =>
    if s.acceptsDest f.dest && (isDesk f.sender.toNat || isConsole f.sender.toNat) && !s.silent && q ≤ 7 && sense ≤ 1 &&
        censusAnswer s group q == (sense == 1) then some p
    else none
  | _, _, _, _ => none

end Sys2Proof.Machine
end

