-- ==== Sys2Proof/Machine/StationEvents.lean ====
section
/-! DEFINITION. The events of the clock, the spacing unit, the line and the supply: CLOCK_TICK to CENSUS, TIME to
STATION_RESET_TIMEOUT, BROWNOUT and RESET_LINE_ASSERTED. The parts a received frame shares with RECEIVE_FRAME are named
`take…`. -/

namespace Sys2Proof.Machine

/-! ## The clock (R111, R186, R123) -/

/-- The tick meters the second it leaves on both lanes (R111). DESIGN CHOICE (log entry 47): lane A before lane B, which the
order of two CREDIT_LOW notices shows. -/
def meterTick (second : Nat) (s : State) : State := meterSecond second .B (meterSecond second .A s)

/-- CLOCK_TICK (R111, R186). While the clock is invalid there is no tick; a tick taken while the station is held in reset
advances the clock and reaches no meter (R123). -/
def execClockTick (s : State) : Host.Outcome State Fault Refusal :=
  match s.ctl.clock with
  | none => .next s
  | some t =>
    let s' := s.setCtl { s.ctl with clock := some t.next }
    if s.running then .next (beginTx (meterTick t.second s')) else .next s'

/-! ## The spacing unit (R140 to R148) -/

/-- WINDOW_ENTRY_EXPIRY (R140, R142): the entry at a position of the window list, oldest first (log entry 28). -/
def execWindowEntryExpiry (index : Nat) (s : State) : Host.Outcome State Fault Refusal :=
  live s fun s =>
    if index < s.spacing.window.length then
      recheck (s.setSpacing { s.spacing with window := s.spacing.window.eraseIdx index })
    else s

/-- QUIET_PERIOD_END (R147). -/
def execQuietPeriodEnd (s : State) : Host.Outcome State Fault Refusal :=
  live s fun s => if s.spacing.quiet.isSome then recheck (s.setSpacing { s.spacing with quiet := none }) else s

/-- IDLE_WATCH_EXPIRY (R148): local mode, the entries of other stations removed, any offer withdrawn, and the local test. -/
def execIdleWatchExpiry (s : State) : Host.Outcome State Fault Refusal :=
  live s fun s =>
    recheck (s.setSpacing
      { s.spacing with
        isLocal := true, idle := 0, window := s.spacing.window.filter fun e => s.ctl.pair == some e.station })

/-- LINE_IDLE (R169, R142, R148): the idle is reported, local mode cleared, the check made; then the lowest-valued frame held
begins (`beginTx`). -/
def execLineIdle (s : State) : Host.Outcome State Fault Refusal :=
  live s fun s =>
    let s := recheck (s.setSpacing { s.spacing with isLocal := false, idle := Config.idleWatch })
    s.setLink { s.link with lineIdle := !s.transmitting }

/-- START_NOTICE_OUTCOME (R143, R146). -/
def execStartNoticeOutcome (sent : Bool) (s : State) : Host.Outcome State Fault Refusal :=
  live s fun s => if sent then noticeSent s else noticeLost s

/-! ## The outbound queue (R174, R188) -/

/-- What the end of a queued frame's transmission is to its owner: the transfer unit is told of an acknowledged frame of its
own (R158); the reply to STATION_RESET lets the reset be made (R188). -/
def frameGone (f : QueuedFrame) (acked : Bool) (s : State) : State :=
  match f.mark, f.payload with
  | .transfer, .transfer tag m => if acked then partAcked tag m s else s
  | .stationReset, _ => warmReset .stationReset s.ctl.supplyLow s
  | _, _ => s

/-- QUEUED_FRAME_OUTCOME (R174): the queued frame on the line. -/
def execQueuedFrameOutcome (o : TxOutcome) (s : State) : Host.Outcome State Fault Refusal :=
  live s fun s =>
    match s.link.queue.find? (·.onLine) with
    | none => s
    | some f =>
      match o with
      | .lost => s.setLink { s.link with queue := s.link.queue.map fun g => { g with onLine := false } }
      | .acked => frameGone f true (s.setLink { s.link with queue := s.link.queue.filter fun g => !g.onLine })
      | .unacked => frameGone f false (s.setLink { s.link with queue := s.link.queue.filter fun g => !g.onLine })

/-! ## Frames that are not requests (R144, R150, R184 to R186) -/

/-- A start notice of another station ends on the line (R144, R148, R194). -/
def takeStartNotice (f : Bare) (s : State) : State :=
  let s := takeFrame f.dest s
  if s.spacing.isLocal then s
  else
    recheck (s.setSpacing (s.spacing.addEntry
      { station := f.sender.toNat, lane := (byteAt f.payload 0).getD 0, age := 0, life := s.windowMs }))

/-- START_NOTICE_RECEIVED (R144). Its class, START or URGENT_START, makes no difference to the entry. -/
def execStartNoticeReceived (_urgent : Bool) (f : Bare) (s : State) : Host.Outcome State Fault Refusal :=
  live s (takeStartNotice f)

/-- A census frame: the response position is driven or not; no acknowledgement, no reply (R150, R170). -/
def takeCensus (f : Bare) (s : State) : State :=
  s.setLink { s.link with lineIdle := false, ack := false, response := censusResponse f s }

/-- CENSUS (R150). -/
def execCensus (f : Bare) (s : State) : Host.Outcome State Fault Refusal := live s (takeCensus f)

/-- A TIME frame (R186). -/
def takeTime (f : Bare) (s : State) : State :=
  let s := takeFrame f.dest s
  match parseTime f.payload with
  | some t => if s.acceptsDest f.dest ∧ isDesk f.sender.toNat then s.setCtl { s.ctl with clock := some t } else s
  | none => s

/-- TIME (R186). -/
def execTime (f : Bare) (s : State) : Host.Outcome State Fault Refusal := live s (takeTime f)

/-- A setup request of another pair controller (R185). -/
def takeSetupRequest (f : Bare) (s : State) : State :=
  let s := takeFrame f.dest s
  let r := f.sender.toNat
  match s.ctl.pair with
  | some p =>
    if s.acceptsDest f.dest ∧ isPair r ∧ r ≠ p ∧ (s.ctl.source = some .desk ∨ s.ctl.source = some .peer) then
      s.setCtl { s.ctl with answers := placeAnswer r (answerDelay p r) s.ctl.answers }
    else s
  | none => s

/-- SETUP_REQUEST (R185). -/
def execSetupRequest (f : Bare) (s : State) : Host.Outcome State Fault Refusal := live s (takeSetupRequest f)

/-- A setup answer (R184, R185): it cancels the answer owed to its requester whatever its destination; accepted at the pair
address or at broadcast from a desk or a pair controller it is adopted, or refused LOCKED when the setup is locked and it
came to the pair address. DESIGN CHOICE (log entry 54): it cancels that answer whoever sent it. -/
def takeSetupAnswer (f : Bare) (s : State) : State :=
  let s := takeFrame f.dest s
  match parseSetup f.payload with
  | none => s
  | some u =>
    let s := s.setCtl { s.ctl with answers := dropAnswer f.dest.toNat s.ctl.answers }
    let own := s.ctl.pair == some f.dest.toNat
    let sender := f.sender.toNat
    if (own || f.dest.toNat == 255) && (isDesk sender || isPair sender) then
      match s.ctl.source with
      | none => adopt u (if isDesk sender then .desk else .peer) s
      | some _ =>
        if own then
          send sender .none
            (.reply { req := .setup, tag := 0, deferred := false, result := .refused .locked, data := .none }) s
        else s
    else s

/-- SETUP_ANSWER (R184, R185). -/
def execSetupAnswer (f : Bare) (s : State) : Host.Outcome State Fault Refusal := live s (takeSetupAnswer f)

/-- SETUP_WAIT_EXPIRY (R184). -/
def execSetupWaitExpiry (s : State) : Host.Outcome State Fault Refusal :=
  live s fun s => if s.ctl.source.isNone then adopt .builtIn .builtIn s else s

/-- SETUP_ANSWER_DELAY_EXPIRY (R185). -/
def execSetupAnswerDelayExpiry (requester : Byte) (s : State) : Host.Outcome State Fault Refusal :=
  live s fun s =>
    let r := requester.toNat
    if s.ctl.answers.any (·.1 == r) then
      send r .none (.setupAnswer s.ctl.setup) (s.setCtl { s.ctl with answers := dropAnswer r s.ctl.answers })
    else s

/-! ## The supply and the resets (R187, R188) -/

/-- SUPPLY_WARNING_FALL (R187). -/
def execSupplyWarningFall (s : State) : Host.Outcome State Fault Refusal :=
  live s fun s =>
    if s.ctl.supplyLow then s else recheck (notice .supplyLow (s.setCtl { s.ctl with supplyLow := true }))

/-- SUPPLY_WARNING_RELEASE (R187). -/
def execSupplyWarningRelease (s : State) : Host.Outcome State Fault Refusal :=
  live s fun s => if s.ctl.supplyLow then recheck (s.setCtl { s.ctl with supplyLow := false }) else s

/-- POWER_ON (R183). -/
def execPowerOn (retained : Bool) (strap : BitVec 6) (rackFull supplyLow : Bool) (s : State) :
    Host.Outcome State Fault Refusal :=
  .next (powerUp retained strap.toNat rackFull supplyLow s)

/-- The hold of a cause ends (R187, R188). -/
def Control.letGo (c : Control) : WarmCause → Control
  | .resetLine => { c with lineHeld := false }
  | .brownout => { c with brownHeld := false }
  | .stationReset => c

/-- WARM_RESET (R188): the cause's hold ends, and the reset is made unless the station is still held by the other (log
entry 10). -/
def execWarmReset (cause : WarmCause) (supplyLow : Bool) (s : State) : Host.Outcome State Fault Refusal :=
  let s := s.setCtl (s.ctl.letGo cause)
  if s.running then .next (warmReset cause supplyLow s) else .next s

/-- STATION_RESET_TIMEOUT (R188). -/
def execStationResetTimeout (s : State) : Host.Outcome State Fault Refusal :=
  live s fun s => if s.ctl.resetDue.isSome then warmReset .stationReset s.ctl.supplyLow s else s

/-- BROWNOUT (R187): the station is held in reset. DESIGN CHOICE (log entry 59): during the hold the demands on the machinery
and the frame on the line stay as they were; the reset that ends it changes them. -/
def execBrownout (s : State) : Host.Outcome State Fault Refusal := .next (s.setCtl { s.ctl with brownHeld := true })

/-- RESET_LINE_ASSERTED (R188): the station is held in reset. DESIGN CHOICE (log entry 59): during the hold the motor and lift
demands and the frame on the line stay as they were; R188 does not say what they are before the reset is made. -/
def execResetLineAsserted (s : State) : Host.Outcome State Fault Refusal :=
  .next (s.setCtl { s.ctl with lineHeld := true })

end Sys2Proof.Machine
end

