-- ==== Sys2Proof/Machine/LaneRequests.lean ====
section
/-! DEFINITION. The requests of class LANE_REQ: holds, lane reset, faults, calibration, the jam, the group, the census-silent
flag, STATION_RESET (R12, R16 to R19, R22, R23, R31, R32, R97, R152, R180, R188), and UNKNOWN (R176). A request's owner is
named `own…`, what the station does with its frame `take…`. -/

namespace Sys2Proof.Machine

/-! ## HOLD, RELEASE, SET_HOLD_MODE (R16 to R19, R179) -/

/-- A request that is acted on for both lanes when it comes to the group address or to broadcast (R19, R179): `both` is its
effect there, made without a reply; at the pair address it is an ordinary request. -/
def requestOrAll {α : Type} (name : ReqName) (parse : List Byte → Option α) (owner both : α → State → State) (m : Msg)
    (s : State) : State :=
  if s.ctl.pair = some m.dest.toNat then request name parse owner m s
  else
    let s := takeFrame m.dest s
    match s.ctl.pair, parse m.args with
    | some p, some a => if s.acceptsDest m.dest ∧ name.access.permits (senderKind p m.sender.toNat) then both a s else s
    | _, _ => s

/-- HOLD at its owner (R17). -/
def ownHold (m : Msg) (a : HoldArgs) (s : State) : State :=
  match laneOf a.lane, holdReasonOf a.reason with
  | some l, some r => addReason r l (reply m .hold .done .none s)
  | _, _ => refuse m .hold .range s

/-- A group or broadcast HOLD (R19): its lane field is not read. -/
def holdBoth (a : HoldArgs) (s : State) : State :=
  match holdReasonOf a.reason with
  | some r => addReason r .B (addReason r .A s)
  | none => s

/-- HOLD (R17, R19). -/
def takeHold (m : Msg) (s : State) : State := requestOrAll .hold parseHold (ownHold m) holdBoth m s

/-- HOLD (R17). -/
def execHold (m : Msg) (s : State) : Host.Outcome State Fault Refusal := live s (takeHold m)

/-- RELEASE on one lane (R18). -/
def releaseLane (l : LaneId) (s : State) : State := dropReasons l HoldSet.released s

/-- RELEASE at its owner (R18). -/
def ownRelease (m : Msg) (lane : Nat) (s : State) : State :=
  match laneOf lane with
  | some l => releaseLane l (reply m .release .done .none s)
  | none => refuse m .release .range s

/-- A group or broadcast RELEASE (R19): its lane field is not read. -/
def releaseBoth (_ : Nat) (s : State) : State := releaseLane .B (releaseLane .A s)

/-- RELEASE (R18, R19). -/
def takeRelease (m : Msg) (s : State) : State := requestOrAll .release parse1 (ownRelease m) releaseBoth m s

/-- RELEASE (R18). -/
def execRelease (m : Msg) (s : State) : Host.Outcome State Fault Refusal := live s (takeRelease m)

/-- SET_HOLD_MODE at its owner (R16). -/
def ownSetHoldMode (m : Msg) (a : Nat × Nat) (s : State) : State :=
  match laneOf a.1, holdModeOf a.2 with
  | some l, some h => (reply m .setHoldMode .done .none s).setSeq l { s.seq l with mode := h }
  | _, _ => refuse m .setHoldMode .range s

/-- SET_HOLD_MODE (R16). -/
def takeSetHoldMode (m : Msg) (s : State) : State := request .setHoldMode parse2 (ownSetHoldMode m) m s

/-- SET_HOLD_MODE (R16). -/
def execSetHoldMode (m : Msg) (s : State) : Host.Outcome State Fault Refusal := live s (takeSetHoldMode m)

/-! ## LANE_RESET (R23) -/

/-- The current bowler of the lane is in the middle of a frame (R23 step 3): the session concerned. -/
def State.inFrame (s : State) (l : LaneId) : Option Nat :=
  match s.currentBowler l with
  | some (id, _) => if (s.session? id).any Session.midFrame then some id else none
  | none => none

/-- A LANE_RESET taken (R23): everything in flight is aborted, the flags and holds go, the frame is truncated when forced, and
the recovery cycle begins. The stray-ball flag, the hold mode and the transit list are kept. -/
def resetLane (m : Msg) (l : LaneId) (s : State) : State :=
  let s := reply m .laneReset .accepted .none s
  let cut := s.inFrame l
  let s := abortCalibration l .aborted (leaveSpacing l s)
  let s := s.setSeq l { s.seq l with cycle := none, foul := false, holds := (s.seq l).holds.kept }
  let s := match cut with
    | some id => truncateCurrent id s
    | none => s
  beginCycle l (freshCycle .recovery 0) (setPendingReq l m .laneReset s)

/-- The pending-request record holds a request other than a CALIBRATE (R23 step 2). -/
def Sequencer.busyButCalibrate (q : Sequencer) : Bool :=
  match q.pend with
  | some p => p.req != .calibrate
  | none => false

/-- LANE_RESET at its owner: its tests in order (R23). -/
def ownLaneReset (m : Msg) (a : Nat × Nat) (s : State) : State :=
  match laneOf a.1 with
  | none => refuse m .laneReset .range s
  | some l =>
    if (s.meter l).isOpen = false then refuse m .laneReset .state s
    else if (s.seq l).busyButCalibrate then refuse m .laneReset .busy s
    else if (s.inFrame l).isSome && !flagOf a.2 then refuse m .laneReset .inFrame s
    else resetLane m l s

/-- LANE_RESET (R23). -/
def takeLaneReset (m : Msg) (s : State) : State := request .laneReset parse2 (ownLaneReset m) m s

/-- LANE_RESET (R23). -/
def execLaneReset (m : Msg) (s : State) : Host.Outcome State Fault Refusal := live s (takeLaneReset m)

/-! ## CLEAR_FAULT (R12) -/

/-- The cycle a fault resumes, and the phase it waits for (R12). -/
def FaultRec.resume (f : FaultRec) : Cycle × NextPhase :=
  match f.retained with
  | some c =>
    let c := { c with restart := satAdd 255 c.restart 1 }
    match f.phase with
    | .reading => (c, .reading)
    | .clearing | .setting => (c, .clearing)
    | .calibrating => (freshCycle .recovery 1, .clearing)
  | none => (freshCycle .recovery 1, .clearing)

/-- CLEAR_FAULT at its owner (R12, R24). DESIGN CHOICE (log entry 44): of the two tests the state's comes first, so that a
lane that is not in FAULT answers STATE, its pending-request record occupied or not. -/
def ownClearFault (m : Msg) (lane : Nat) (s : State) : State :=
  match laneOf lane with
  | none => refuse m .clearFault .range s
  | some l =>
    match (s.seq l).state with
    | .fault f =>
      if (s.seq l).pend.isSome then refuse m .clearFault .busy s
      else
        let s := setPendingReq l m .clearFault (reply m .clearFault .accepted .none s)
        enterSpacing l f.resume.2 (s.setSeq l { s.seq l with cycle := some f.resume.1 })
    | _ => refuse m .clearFault .state s

/-- CLEAR_FAULT (R12). -/
def takeClearFault (m : Msg) (s : State) : State := request .clearFault parse1 (ownClearFault m) m s

/-- CLEAR_FAULT (R12). -/
def execClearFault (m : Msg) (s : State) : Host.Outcome State Fault Refusal := live s (takeClearFault m)

/-! ## CALIBRATE (R31, R32) -/

/-- The mode a CALIBRATE names, absent when out of range (R31). -/
def CalArgs.calMode (a : CalArgs) : Option CalMode :=
  match a.mode with
  | 0 => some .sweep
  | 1 => if 1 ≤ a.step ∧ a.step ≤ 15 then some (.single a.step) else none
  | _ => none

/-- The four conditions under which a CALIBRATE is taken (R31). -/
def State.canCalibrate (s : State) (l : LaneId) : Bool :=
  (s.seq l).state == .armed && (s.currentBowler l).isNone && (s.seq l).holds.isEmpty && (s.deck l).rack == .full

/-- CALIBRATE at its owner (R31, R32, R22). -/
def ownCalibrate (m : Msg) (a : CalArgs) (s : State) : State :=
  match laneOf a.lane, a.calMode with
  | some l, some c =>
    if s.canCalibrate l then
      let s := setPendingReq l m .calibrate (reply m .calibrate .accepted .none s)
      enterSpacing l .calibrating (s.setDeck l ((s.deck l).startCal c))
    else refuse m .calibrate .state s
  | _, _ => refuse m .calibrate .range s

/-- CALIBRATE (R31). -/
def takeCalibrate (m : Msg) (s : State) : State := request .calibrate parseCalibrate (ownCalibrate m) m s

/-- CALIBRATE (R31). -/
def execCalibrate (m : Msg) (s : State) : Host.Outcome State Fault Refusal := live s (takeCalibrate m)

/-! ## CLEAR_JAM (R97) -/

/-- RETURN is removed from both hold sets, then each lane is tested, lane A first (R97, R81). -/
def dropReturn (s : State) : State :=
  let s := setHolds .A { (s.seq .A).holds with ret := false } s
  let s := setHolds .B { (s.seq .B).holds with ret := false } s
  testHeld .B (testHeld .A s)

/-- CLEAR_JAM at its owner (R97). -/
def ownClearJam (m : Msg) (_ : Unit) (s : State) : State :=
  if s.ret.state.isJammed then
    let s := reply m .clearJam .accepted .none s
    let s := s.setRet { s.ret.beginPurge with pend := some (m.sender.toNat, m.tag.toNat) }
    dropReturn s
  else refuse m .clearJam .state s

/-- CLEAR_JAM (R97). -/
def takeClearJam (m : Msg) (s : State) : State := request .clearJam parseNone (ownClearJam m) m s

/-- CLEAR_JAM (R97). -/
def execClearJam (m : Msg) (s : State) : Host.Outcome State Fault Refusal := live s (takeClearJam m)

/-! ## SET_GROUP, SET_CENSUS_SILENT (R180, R152) -/

/-- SET_GROUP at its owner (R180). -/
def ownSetGroup (m : Msg) (g : Nat) (s : State) : State :=
  if 32 < g then refuse m .setGroup .range s
  else
    let s := reply m .setGroup .done .none s
    if g = 0 then s.setLink { s.link with groupOn := false }
    else s.setLink { s.link with group := g, groupOn := true }

/-- SET_GROUP (R180). -/
def takeSetGroup (m : Msg) (s : State) : State := request .setGroup parse1 (ownSetGroup m) m s

/-- SET_GROUP (R180). -/
def execSetGroup (m : Msg) (s : State) : Host.Outcome State Fault Refusal := live s (takeSetGroup m)

/-- SET_CENSUS_SILENT at its owner: SILENT 0, ANSWER 1 (R152, R191). -/
def ownSetCensusSilent (m : Msg) (v : Nat) (s : State) : State :=
  match v with
  | 0 => (reply m .setCensusSilent .done .none s).setSilent true
  | 1 => (reply m .setCensusSilent .done .none s).setSilent false
  | _ => refuse m .setCensusSilent .range s

/-- SET_CENSUS_SILENT (R152). -/
def takeSetCensusSilent (m : Msg) (s : State) : State := request .setCensusSilent parse1 (ownSetCensusSilent m) m s

/-- SET_CENSUS_SILENT (R152). -/
def execSetCensusSilent (m : Msg) (s : State) : Host.Outcome State Fault Refusal := live s (takeSetCensusSilent m)

/-! ## STATION_RESET (R188) -/

/-- The frame of the reply to a STATION_RESET. -/
def resetReplyFrame (m : Msg) : QueuedFrame :=
  { dest := m.sender.toNat
    payload := .reply { req := .stationReset, tag := m.tag.toNat, deferred := false, result := .done, data := .none }
    mark := .stationReset, onLine := false }

/-- STATION_RESET at its owner (R188): the reset is due when the reply's transmission ends, at once when the queue discards
the reply, and at the latest 1.0 s from now; a second request in that time changes nothing further. -/
def ownStationReset (m : Msg) (_ : Unit) (s : State) : State :=
  if s.ctl.resetDue.isSome then reply m .stationReset .done .none s
  else
    match joinQueue s.link.queue (resetReplyFrame m) with
    | none => warmReset .stationReset s.ctl.supplyLow s
    | some q =>
      (s.setLink { s.link with queue := q }).setCtl { s.ctl with resetDue := some Config.stationResetLimit }

/-- STATION_RESET (R188). -/
def takeStationReset (m : Msg) (s : State) : State := request .stationReset parseNone (ownStationReset m) m s

/-- STATION_RESET (R188). -/
def execStationReset (m : Msg) (s : State) : Host.Outcome State Fault Refusal := live s (takeStationReset m)

/-! ## UNKNOWN (R176) -/

/-- A request code that is none of its class's codes: refused before the access test (R176 step 1). -/
def takeUnknown (c : ReqClass) (code : Byte) (m : Msg) (s : State) : State :=
  let s := takeFrame m.dest s
  if s.ctl.pair = some m.dest.toNat ∧ reqOf c code.toNat = none then refuse m (.unknown code.toNat) .unknown s else s

/-- UNKNOWN_REQUEST (R176). -/
def execUnknownRequest (c : ReqClass) (code : Byte) (m : Msg) (s : State) : Host.Outcome State Fault Refusal :=
  live s (takeUnknown c code m)

end Sys2Proof.Machine
end

