-- ==== Sys2Proof/Machine/Layout.lean ====
section
/-! DEFINITION. Frame and record layouts: the check field (R190), how values are written (R191), the payload bytes of every
frame the station sends (R192, R193), and the bits of the frame on the line (section 12.1). -/

namespace Sys2Proof.Machine

/-! ## Values as bytes and bits (R191) -/

/-- A number in one byte. -/
def byteOf (n : Nat) : Byte := BitVec.ofNat 8 n

/-- A number in k bytes, most significant byte first (R191). -/
def bytesOf : Nat → Nat → List Byte
  | 0, _ => []
  | k + 1, n => byteOf (n / 256 ^ k) :: bytesOf k n

/-- A number as a 32-bit two's-complement number (R191). -/
def balanceBytes (b : Int) : List Byte := bytesOf 4 (BitVec.ofInt 32 b).toNat

/-- An absent field of k bytes: every bit set (R191). -/
def absentBytes (k : Nat) : List Byte := List.replicate k 255#8

/-- A field of k bytes that may be absent. -/
def optBytes (k : Nat) : Option Nat → List Byte
  | some n => bytesOf k n
  | none => absentBytes k

/-- A balance that may be absent. -/
def optBalance : Option Int → List Byte
  | some b => balanceBytes b
  | none => absentBytes 4

/-- A flag in one byte. -/
def flagByte (b : Bool) : Byte := byteOf b.toNat

/-- A standing map in two bytes, spot 1 in the least significant bit (R191). -/
def mapBytes (m : SpotMap) : List Byte := bytesOf 2 m.toNat

/-- A name in twelve bytes, unused bytes 0 (R191). -/
def nameBytes (n : List Byte) : List Byte := (n ++ List.replicate 12 0#8).take 12

/-- A number in k bits, most significant bit first. -/
def bitsOf : Nat → Nat → List Bool
  | 0, _ => []
  | k + 1, n => (n / 2 ^ k % 2 == 1) :: bitsOf k n

/-- A field of k bits that may be absent (R191). -/
def optBits (k : Nat) : Option Nat → List Bool
  | some n => bitsOf k n
  | none => List.replicate k true

/-- The number a bit list spells. -/
def bitsNat (bs : List Bool) : Nat := bs.foldl (fun n b => n * 2 + b.toNat) 0

/-- Bits packed into bytes, padded with zero bits to a whole byte (R192). -/
def packBits (bs : List Bool) : List Byte :=
  (List.range ((bs.length + 7) / 8)).map fun i =>
    byteOf (bitsNat ((bs.drop (8 * i)).take 8 ++ List.replicate (8 - ((bs.drop (8 * i)).take 8).length) false))

/-- The bits of a byte list in the order they are sent. -/
def sentBits (bs : List Byte) : List Bool := bs.flatMap fun b => bitsOf 8 b.toNat

/-! ## The check field and the frame on the line (R190, section 12.1) -/

/-- One bit through the check register (R190). -/
def checkStep (r : BitVec 16) (b : Bool) : BitVec 16 := if b != r.msb then (r <<< 1) ^^^ 0x1021#16 else r <<< 1

/-- The bits the check covers: class, sender, destination, length, payload (R190). -/
def coveredBits (cls : BitVec 4) (sender dest length : Byte) (payload : List Byte) : List Bool :=
  bitsOf 4 cls.toNat ++ sentBits (sender :: dest :: length :: payload)

/-- The check field over a list of bits: the register set to all ones first, with no final inversion (R190). -/
def checkOf (bits : List Bool) : BitVec 16 := bits.foldl checkStep 0xFFFF#16

/-- The bits of a frame from class to check, in the order they are sent (section 12.1). -/
def frameBits (cls : BitVec 4) (sender dest : Byte) (payload : List Byte) : List Bool :=
  let covered := coveredBits cls sender dest (byteOf payload.length) payload
  covered ++ bitsOf 16 (checkOf covered).toNat

/-! ## Named values by position (R191) -/

/-- Lanes A 0, B 1, REMOTE 2 (R191). -/
def BallLane.code : BallLane → Nat
  | .A => 0
  | .B => 1
  | .remote => 2

/-- Refusal reasons count from 1 in R178's order (R191). -/
def RefuseReason.code : RefuseReason → Nat
  | .notPermitted => 1 | .busy => 2 | .state => 3 | .range => 4 | .noClock => 5 | .journalFull => 6 | .noSession => 7
  | .badStructure => 8 | .inFrame => 9 | .tariffOrder => 10 | .cross => 11 | .laneTaken => 12 | .notFound => 13
  | .locked => 14 | .unknown => 15

/-- The result and reason nibbles of a status byte (R192). -/
def Result.codes : Result → Nat × Nat
  | .done => (0, 0)
  | .accepted => (1, 0)
  | .clamped => (2, 0)
  | .failed => (3, 0)
  | .refused r => (4, r.code)

/-- Fault codes by position in R10. -/
def Phase.number : Phase → Nat
  | .reading => 0 | .clearing => 1 | .setting => 2 | .calibrating => 3

/-- Jam reasons by position in R88. -/
def JamReason.code : JamReason → Nat
  | .overfill => 0 | .overdue => 1 | .stall => 2

/-- Next phases (R192). -/
def NextPhase.code : NextPhase → Nat
  | .reading => 0 | .clearing => 1 | .calibrating => 2

/-- Marks (R192). -/
def Mark.code : Mark → Nat
  | .strike => 0 | .spare => 1 | .opened => 2 | .incomplete => 3

/-- Game status by position in R43. -/
def GameStatus.code : GameStatus → Nat
  | .playing => 0 | .complete => 1 | .abandoned => 2

/-- Admission answers (R192). -/
def Admission.code : Admission → Nat
  | .admitted => 0 | .holdCredit => 1 | .holdJournal => 2

/-- ANSWER reasons (R192). -/
def AnswerReason.code : AnswerReason → Nat
  | .laneClosed => 1 | .laneTaken => 2 | .tableFull => 3 | .busy => 4 | .notPermitted => 5 | .incomplete => 6
  | .badStructure => 7

/-- The step of a failed move and the bowler of the part in hand (R192). -/
def MoveStep.codes : MoveStep → Nat × Nat
  | .offer => (0, 0)
  | .ident i => (1, i)
  | .balls i => (2, i)
  | .commit => (3, 0)

/-- Calibration results by position in R39. -/
def CalResult.code : CalResult → Nat
  | .none => 0 | .running => 1 | .complete => 2 | .aborted => 3 | .timedOut => 4

/-- Rack states by position in R28. -/
def RackState.code : RackState → Nat
  | .empty => 0 | .full => 1 | .partialRack => 2

/-- Billing modes by position in R103. -/
def BillMode.code : BillMode → Nat
  | .game => 0 | .time => 1 | .none => 2

/-- Close reasons by position in R128. -/
def CloseReason.code : CloseReason → Nat
  | .request => 0 | .forced => 1 | .power => 2

/-- Session states by position in R65. -/
def SessionState.code : SessionState → Nat
  | .forming => 0 | .playing => 1 | .waitPartner _ => 2 | .waitMove => 3 | .moving _ => 4 | .suspended _ => 5
  | .parked => 6

/-- The resume state or transfer phase, by position in R65. -/
def SessionState.detail : SessionState → Option Nat
  | .suspended .forming => some 0
  | .suspended .playing => some 1
  | .suspended (.waitPartner _) => some 2
  | .moving .sending => some 0
  | .moving .committed => some 1
  | _ => none

/-- The barrier: BEGIN 0, then the frame (R65). -/
def Barrier.code : Barrier → Nat
  | .start => 0
  | .frame f => f

/-- The barrier of a state that has one (R65). -/
def SessionState.barrier : SessionState → Option Nat
  | .waitPartner b => some b.code
  | .suspended (.waitPartner b) => some b.code
  | _ => none

/-- Turns by position in R74. -/
def Turn.code : Turn → Nat
  | .none => 0 | .outstanding => 1 | .active => 2 | .ended => 3

/-- Setup sources by position in R183. -/
def SetupSource.code : SetupSource → Nat
  | .desk => 0 | .peer => 1 | .builtIn => 2

/-- Causes in the order R188 names them. -/
def Cause.code : Cause → Nat
  | .powerOn => 0
  | .retentionLost => 1
  | .warm .resetLine => 2
  | .warm .brownout => 3
  | .warm .stationReset => 4

/-- Return states in the order of section 5.1. -/
def ReturnState.code : ReturnState → Nat
  | .idle => 0 | .running => 1 | .rackFull => 2 | .jammed _ => 3 | .purging => 4

/-- The jam reason, present in JAMMED (R88). -/
def ReturnState.reason : ReturnState → Option Nat
  | .jammed r => some r.code
  | _ => none

/-- Sequencer states in the order of section 1.1. -/
def SeqName.code : SeqName → Nat
  | .standby => 0 | .armed => 1 | .settling => 2 | .spacing => 3 | .reading => 4 | .clearing => 5 | .setting => 6
  | .held => 7 | .calibrating => 8 | .fault => 9

/-- Origins by position in R2. -/
def Origin.code : Origin → Nat
  | .ball => 0 | .opening => 1 | .recovery => 2

/-- Hold modes by position in R16. -/
def HoldMode.code : HoldMode → Nat
  | .none => 0 | .eachBall => 1 | .frameEnd => 2

/-! ## Frames other than replies (R192) -/

/-- A fault notice (R192). -/
def FaultNotice.bytes : FaultNotice → List Byte
  | .fault l p => [0, byteOf (laneCode l), byteOf p.number]
  | .jam r => [1, byteOf r.code]
  | .strain v => [2, byteOf v]
  | .creditLow l b => [3, byteOf (laneCode l)] ++ balanceBytes b
  | .supplyLow => [4]
  | .sessionParked id => [5, byteOf id]

/-- A setup answer (R192). -/
def Setup.bytes (u : Setup) : List Byte :=
  [byteOf u.spacing, byteOf u.window, byteOf u.settle, byteOf u.transit, byteOf u.share] ++ bytesOf 2 u.low ++
    [byteOf u.strain, byteOf u.stall]

/-- A start notice (R192). -/
def Notice.bytes (n : Notice) : List Byte := [byteOf (laneCode n.lane), byteOf n.next.code]

/-- What both display updates carry before and after their own fields (R192). -/
def displayBytes (first : Nat) (h : DisplayHead) (own : List Byte) : List Byte :=
  [byteOf first, byteOf h.session, byteOf h.bowler] ++ nameBytes h.name ++ [byteOf h.number] ++ own ++
    h.scores.flatMap (optBytes 1) ++ bytesOf 2 h.known ++ bytesOf 2 h.total

/-- A display update, 32 bytes (R192). -/
def Display.bytes : Display → List Byte
  | .ball h n pins foul split estimated mark =>
    displayBytes
      (2 * laneCode h.lane + 4 * foul.toNat + 8 * split.toNat + 16 * estimated.toNat + 32 * mark.code) h
      [byteOf (16 * h.frame + n), byteOf pins]
  | .turn h answer => displayBytes (1 + 2 * laneCode h.lane) h [byteOf h.frame, byteOf answer.code]

/-- A ball of a BALLS frame in nine bits (R192). -/
def CarriedBall.bits (b : CarriedBall) : List Bool :=
  bitsOf 4 b.pins ++ [b.foul, b.estimated, b.corrected, b.split, b.supplied]

/-- Ten 2-bit ball counts in the high 20 bits of three bytes (R192). -/
def countBytes (counts : List Nat) : List Byte :=
  packBits (((counts ++ List.replicate 10 0).take 10).flatMap (bitsOf 2))

/-- A transfer frame after its kind and tag, with its kind (R192). -/
def TransferMsg.fields : TransferMsg → Nat × List Byte
  | .offer f =>
    (0, [byteOf f.size, byteOf f.number, byteOf f.frame, byteOf f.current, byteOf f.limit, byteOf f.discount,
         byteOf (laneCode f.lane)])
  | .answer none => (1, [0, 0])
  | .answer (some r) => (1, [1, byteOf r.code])
  | .ident i f =>
    (2, [byteOf i] ++ nameBytes f.name ++
      [byteOf f.handicap, byteOf (f.absent.toNat + 2 * f.charged.toNat), byteOf f.completed])
  | .balls i f =>
    (3, [byteOf i, byteOf f.counts.length] ++ countBytes f.counts ++ [byteOf f.balls.length] ++
      packBits (f.balls.flatMap CarriedBall.bits))
  | .commit => (4, [])
  | .done => (5, [])

/-! ## Report parts laid out in R193 -/

/-- Day and second of day, packed as 3 bits and 17 bits from the top of three bytes (R193, log entry 33). -/
def timeBytes (t : Option StationTime) : List Byte :=
  packBits (optBits 3 (t.map (·.day)) ++ optBits 17 (t.map (·.second)))

/-- A subtotal item of JOURNAL part 1 (R193). -/
def Subtotal.bytes (e : Subtotal) : List Byte := bytesOf 4 (e.band * 2 ^ 29 + e.seconds) ++ bytesOf 4 e.amount

/-- The journal's kind code, optional field, list flag, bits 7 to 6, and the kind's fields (R193). -/
def JournalBody.fields : JournalBody → Nat × Bool × Bool × Nat × List Byte
  | .opening k prepaid b => (0, b.isSome, false, prepaid.toNat, [byteOf k.code] ++ optBalance b)
  | .game sid i n band price d amount =>
    (1, d.isSome, false, 0,
      [byteOf sid, byteOf i, byteOf n, byteOf band] ++ bytesOf 2 price ++ optBytes 1 d ++ bytesOf 2 amount)
  | .credit added cut b => (2, false, false, cut.toNat, bytesOf 4 added ++ balanceBytes b)
  | .closing r total b paused list =>
    (3, b.isSome, list.isSome, r.code, bytesOf 4 total ++ optBalance b ++ bytesOf 4 paused)

/-- A journal entry as part 0 carries it, 28 bytes; a kind's fields are followed by zero bytes (R193, log entry 33). -/
def JournalEntry.bytes (e : JournalEntry) (oldest newest : Nat) : List Byte :=
  match e.body.fields with
  | (kind, opt, list, top, own) =>
    bytesOf 4 e.seq ++
      [byteOf (kind + 4 * laneCode e.lane + 8 * e.time.isSome.toNat + 16 * opt.toNat + 32 * list.toNat + 64 * top)] ++
      timeBytes e.time ++ bytesOf 4 oldest ++ bytesOf 4 newest ++ (own ++ List.replicate 12 0#8).take 12

/-- The parts of JOURNAL (R193). -/
def JournalPart.bytes : JournalPart → List Byte
  | .entry e oldest newest => e.bytes oldest newest
  | .items q n list => bytesOf 4 q ++ [byteOf n] ++ list.flatMap Subtotal.bytes

/-- The fields of a GAME ball entry before its maps, 17 bits (R193). -/
def ballBits (frame ball pins : Nat) (foul estimated split corrected supplied : Bool) (lane : BallLane) : List Bool :=
  bitsOf 4 frame ++ bitsOf 2 ball ++ bitsOf 4 pins ++ [foul, estimated, split, corrected, supplied] ++ bitsOf 2 lane.code

/-- A ball entry of GAME, five bytes with three spare bits (R193). -/
def BallEntry.bytes (b : BallEntry) : List Byte :=
  packBits (ballBits b.frame b.ball b.pins b.foul b.estimated b.split b.corrected b.supplied b.lane ++
    optBits 10 (b.before.map BitVec.toNat) ++ optBits 10 (b.after.map BitVec.toNat))

/-- A frame of GAME part 1 in 17 bits (R193). A filled frame's state is one above its mark's value. -/
def frameViewBits : Option (Mark × Option Nat × Option Nat) → List Bool
  | none => bitsOf 3 0 ++ optBits 5 none ++ optBits 9 none
  | some (mark, score, cum) => bitsOf 3 (mark.code + 1) ++ optBits 5 score ++ optBits 9 cum

/-- The parts of GAME after their opening two bytes (R193). -/
def GameBody.bytes : GameBody → List Byte
  | .head sid i name handicap number status charged scratch total =>
    [byteOf sid, byteOf i] ++ nameBytes name ++
      [byteOf handicap, byteOf number, byteOf (status.code + 4 * charged.toNat)] ++ optBytes 2 scratch ++ bytesOf 2 total
  | .frames fs => packBits (fs.flatMap frameViewBits)
  | .balls bs => bs.flatMap BallEntry.bytes

/-- The parts of ARCHIVE (R193). -/
def ArchivePart.bytes : ArchivePart → List Byte
  | .head g n =>
    bytesOf 2 g.serial ++ bytesOf 2 n ++ [byteOf g.session] ++ nameBytes g.name ++
      [byteOf g.handicap, byteOf g.number,
       byteOf ((!g.complete).toNat + 2 * g.charged.toNat + 4 * g.first.code + 16 * g.time.isSome.toNat)] ++
      optBytes 2 g.scratch ++ optBytes 2 g.total ++ timeBytes g.time ++ [byteOf g.balls.length]
  | .balls serial bs =>
    bytesOf 2 serial ++ packBits (bs.flatMap fun b =>
      ballBits b.frame b.ball b.pins b.foul b.estimated b.split b.corrected b.supplied b.lane)

/-- The mode, by position in R31, and the step of SINGLE_STEP. -/
def CalMode.codes : CalMode → Nat × Option Nat
  | .sweep => (0, none)
  | .single k => (1, some k)

/-- Ten values of one byte each, or ten absent ones. -/
def tenBytes (xs : Option (List Nat)) : List Byte :=
  match xs with
  | some l => l.map byteOf
  | none => absentBytes 10

/-- A map that may be absent. -/
def optMap : Option SpotMap → List Byte
  | some m => mapBytes m
  | none => absentBytes 2

/-- The parts of CALIBRATION (R193). -/
def CalPart.bytes : CalPart → List Byte
  | .head thresholds unreadable rack mode result steps stray =>
    thresholds.map byteOf ++ mapBytes unreadable ++ [byteOf rack.code] ++ optBytes 1 (mode.map fun c => c.codes.1) ++
      optBytes 1 (mode.bind fun c => c.codes.2) ++ [byteOf result.code, byteOf steps, flagByte stray]
  | .last r =>
    [flagByte r.isSome] ++ tenBytes (r.map (·.levels)) ++ optMap (r.map (·.map)) ++
      optBytes 1 (r.map fun x => x.estimated.toNat)
  | .first before firstMiss =>
    tenBytes (before.map (·.1)) ++ optMap (before.map (·.2)) ++ firstMiss.flatMap (optBytes 1)
  | .all allMiss missCount => allMiss.flatMap (optBytes 1) ++ tenBytes missCount
  | .outcome o => [flagByte o.isSome] ++ tenBytes (o.map (·.1)) ++ optMap (o.map (·.2))

/-! ## Reports carried in the order their rules list them (R191) -/

/-- A list whose length is not fixed: its number of items in one byte, then the items (log entry 20). -/
def listBytes {α : Type} (f : α → List Byte) (xs : List α) : List Byte := byteOf xs.length :: xs.flatMap f

/-- A session part: its fields in R84's order. -/
def SessionPart.bytes : SessionPart → List Byte
  | .head id home cross partner state size filled pos turn current limit discount =>
    [byteOf id, byteOf (laneCode home), flagByte cross] ++ optBytes 1 partner ++ [byteOf state.code] ++
      optBytes 1 state.detail ++ [byteOf size, byteOf filled] ++ optBytes 1 (pos.map (·.number)) ++
      optBytes 1 (pos.map (·.frame)) ++ optBytes 1 (pos.map fun p => laneCode p.lane) ++ [byteOf turn.code] ++
      optBytes 1 current ++ optBytes 1 state.barrier ++ [byteOf limit, byteOf discount]
  | .bowler name handicap absent completed first game =>
    nameBytes name ++ [byteOf handicap, flagByte absent, byteOf completed, byteOf first.code] ++
      optBytes 1 (game.map (·.1)) ++ optBytes 1 (game.map fun g => g.2.1.code) ++
      optBytes 1 (game.map fun g => g.2.2.1.toNat) ++ optBytes 2 (game.map fun g => g.2.2.2.1) ++
      optBytes 2 (game.map fun g => g.2.2.2.2)

/-- A meter record: its parts in R122's order. -/
def Meter.bytes (m : Meter) : List Byte :=
  [flagByte m.isOpen, byteOf m.mode.code, flagByte m.prepaid] ++ balanceBytes m.balance ++ bytesOf 4 m.total ++
    bytesOf 2 m.residue ++ optBytes 1 m.roundBand ++
    listBytes (fun e => [byteOf e.band] ++ bytesOf 4 e.seconds ++ bytesOf 4 e.amount) m.subtotals ++ bytesOf 4 m.paused ++
    bytesOf 2 m.games ++ optBytes 1 (m.wait.map fun w => match w.reason with | .credit => 0 | .journal => 1) ++
    optBytes 1 (m.wait.map (·.session)) ++ optBytes 1 (m.wait.map (·.bowler)) ++ optBytes 1 (m.wait.map (·.game)) ++
    optBytes 1 (m.wait.map (·.frame)) ++ optBytes 1 (m.wait.map (·.discount)) ++
    optBytes 2 (m.wait.bind fun w => w.charge.map (·.1)) ++ optBytes 1 (m.wait.bind fun w => w.charge.map (·.2))

/-- A hold point: READ 0, RACK 1, then the frame-ending value (R1). -/
def HoldPoint.codes : HoldPoint → Nat × Option Nat
  | .read => (0, none)
  | .rack e => (1, some e.toNat)

/-- A respot map, absent for FULL (R2). -/
def CycleKind.spots : CycleKind → Option SpotMap
  | .full => none
  | .respot m => some m

/-- The cycle record in R25's order; every field absent where there is no record. -/
def cycleBytes (c : Option CycleView) : List Byte :=
  optBytes 1 (c.map fun x => x.kind.isRespot.toNat) ++ optBytes 1 (c.map fun x => x.read.toNat) ++
    optMap (c.bind fun x => x.kind.spots) ++ optBytes 1 (c.map fun x => x.origin.code) ++
    optBytes 1 (c.map (·.restart)) ++ optBytes 1 (c.map fun x => x.frameEnd.toNat) ++
    optBytes 1 (c.map fun x => x.ball.isSome.toNat) ++ optBytes 1 (c.bind fun x => x.ball.map fun b => b.1.toNat) ++
    optBytes 1 (c.bind fun x => x.ball.map fun b => b.2.toNat)

/-- The fault record in R25's order. -/
def faultBytes (f : Option FaultView) : List Byte :=
  optBytes 1 (f.map fun x => x.phase.number) ++ optBytes 1 (f.map fun x => x.phase.number) ++
    optBytes 1 (f.map fun x => x.repeated.toNat) ++ optBytes 1 (f.bind fun x => x.retained.map fun c => c.1.code) ++
    optBytes 1 (f.bind fun x => x.retained.map fun c => c.2)

/-- LANE_STATUS in the order of R25, R101, R122 and R181 (log entry 20). DESIGN CHOICE (log entry 45): the name of the pending
request (R25, R191) is written as the request's code within its class, not as its position in R24's list. -/
def LaneStatusView.bytes (v : LaneStatusView) : List Byte :=
  [byteOf v.state.code] ++ optBytes 1 (v.point.map fun p => p.codes.1) ++ optBytes 1 (v.point.bind fun p => p.codes.2) ++
    optBytes 1 (v.next.map NextPhase.code) ++
    [flagByte v.holds.eachBall, flagByte v.holds.frameEnd, flagByte v.holds.desk, flagByte v.holds.credit,
     flagByte v.holds.journal, flagByte v.holds.ret, byteOf v.mode.code] ++
    cycleBytes v.cycle ++ faultBytes v.fault ++ [flagByte v.foul, flagByte v.stray] ++
    optBytes 1 (v.pend.map ReqName.code) ++ [byteOf v.ret.code] ++ optBytes 1 v.ret.reason ++ v.meter.bytes ++
    optBytes 1 (v.runs.map Bool.toNat) ++ listBytes (fun x => [byteOf x.1, byteOf x.2.code]) v.sessions ++
    optBytes 1 (v.current.map (·.1)) ++ optBytes 1 (v.current.map (·.2)) ++ listBytes (fun i => [byteOf i]) v.outstanding

/-- A tariff band. -/
def Band.bytes (b : Band) : List Byte := bytesOf 2 b.limit ++ bytesOf 2 b.price ++ bytesOf 2 b.rate

/-- A staged slot: unwritten is absent. -/
def slotBytes (o : Option Band) : List Byte :=
  match o with
  | some b => b.bytes
  | none => absentBytes 6

/-- A ball record of the transit list (R101). -/
def BallRecord.bytes (b : BallRecord) : List Byte :=
  [byteOf (laneCode b.origin)] ++ optBytes 3 b.arrival ++ bytesOf 2 b.age

/-- A duration in tenths of a second, rounded up, in one byte (log entry 20). -/
def tenthsByte (ms : Nat) : Byte := byteOf ((ms + 99) / 100)

/-- The source's states by position in R154. -/
def SourceState.code : SourceState → Nat
  | .waiting => 0 | .offered => 1 | .sending _ => 2 | .committed => 3

/-- The next frame of a source in SENDING: IDENT 0 or BALLS 1, and the bowler (R154); absent in its other states. -/
def SourceState.nextFrame : SourceState → List Byte
  | .sending (.ident i) => [byteOf 0, byteOf i]
  | .sending (.balls i) => [byteOf 1, byteOf i]
  | .waiting | .offered | .committed => absentBytes 2

/-- The transfer unit's part in R167's order: side (IDLE 0, SOURCE 1, TARGET 2), state, tag, peer, lane, session id, next
frame, step timer, the parts received of each bowler, structure fault, last tag. A field that the side has not is absent
(R191), a list by its number of items (log entry 20). DEDUCED (log entry 35): the target's states are counted from 0, ACCEPTED 0
and RECEIVING 1. -/
def TransferView.bytes (v : TransferView) : List Byte :=
  (match v.record with
   | .idle => [byteOf 0] ++ absentBytes 10
   | .source st tag peer lane sid _ timer =>
     [byteOf 1, byteOf st.code] ++ optBytes 1 tag ++ [byteOf peer, byteOf (laneCode lane), byteOf sid] ++ st.nextFrame ++
       optBytes 1 (timer.map fun x => (x + 99) / 100) ++ absentBytes 2
   | .target rcv tag peer o _ bad timer =>
     [byteOf 2, flagByte rcv, byteOf tag, byteOf peer, byteOf (laneCode o.lane)] ++ absentBytes 3 ++ [tenthsByte timer] ++
       listBytes (fun p => [flagByte p.1, flagByte p.2]) v.received ++ [flagByte bad]) ++
    [byteOf v.lastTag]

/-- The parts of STATION_STATUS in R181's order (log entry 20). -/
def StationPart.bytes : StationPart → List Byte
  | .control pair source locked clock supplyLow group groupOn silent queued =>
    optBytes 1 pair ++ optBytes 1 (source.map SetupSource.code) ++ [flagByte locked, flagByte clock.isSome] ++
      optBytes 1 (clock.map (·.day)) ++ optBytes 3 (clock.map (·.second)) ++
      [flagByte supplyLow, byteOf group, flagByte groupOn, flagByte silent, byteOf queued]
  | .ret state rackFull strain power purgeCount pending transit =>
    [byteOf state.code] ++ optBytes 1 state.reason ++ [flagByte rackFull, flagByte strain, flagByte power] ++
      optBytes 1 purgeCount ++ [flagByte pending] ++ listBytes BallRecord.bytes transit
  | .live t => [byteOf t.bands.length] ++ optBytes 2 t.dayStart ++ t.bands.flatMap Band.bytes
  | .staged t => t.flatMap slotBytes
  | .store share held cap n free oldest newest last archiveCap games serial =>
    [byteOf share, flagByte held] ++ bytesOf 2 cap ++ bytesOf 2 n ++ bytesOf 2 free ++ optBytes 4 oldest ++
      optBytes 4 newest ++ bytesOf 4 last ++ [byteOf archiveCap, byteOf games] ++ optBytes 2 serial
  | .spacing window waiting offered quiet isLocal =>
    listBytes (fun e => [byteOf e.1, byteOf e.2.1, tenthsByte e.2.2]) window ++
      listBytes (fun r => [byteOf (laneCode r.1), byteOf r.2.1.code, flagByte r.2.2]) waiting ++ [flagByte offered] ++
      optBytes 1 (quiet.map fun x => (x + 99) / 100) ++ [flagByte isLocal]
  | .transfer v => v.bytes

/-- The contents of a report. -/
def Report.bytes : Report → List Byte
  | .lane v => v.bytes
  | .station p => p.bytes
  | .session p => p.bytes
  | .game revision entries b => [byteOf revision, byteOf entries] ++ b.bytes
  | .calibration p => p.bytes
  | .journal p => p.bytes
  | .archive p => p.bytes
  | .resetCause cause count source clockValid =>
    [byteOf cause.code, byteOf count, flagByte source.isSome] ++ optBytes 1 (source.map SetupSource.code) ++
      [flagByte clockValid]

/-! ## Replies and payloads (R192) -/

/-- The result data of a reply (R191, R192). -/
def ReplyData.bytes : ReplyData → List Byte
  | .none => []
  | .sessionId id => [byteOf id]
  | .bowlerIndex i => [byteOf i]
  | .balance b => balanceBytes b
  | .counts good bad => [byteOf good, byteOf bad]
  | .calResult r => [byteOf r.code]
  | .purged n => [byteOf n]
  | .freed n upTo => bytesOf 2 n ++ optBytes 4 upTo
  | .removed n => [byteOf n]
  | .held oldest newest => optBytes 4 oldest ++ optBytes 4 newest
  | .moved sid station => [byteOf sid, byteOf station]
  | .moveFailed step why => [byteOf step.codes.1, byteOf step.codes.2, byteOf ((why.map AnswerReason.code).getD 8)]
  | .report r => r.bytes

/-- The status byte of a reply (R192). -/
def Reply.status (r : Reply) : Nat := 128 * r.deferred.toNat + 16 * r.result.codes.1 + r.result.codes.2

/-- A reply: its head and at most 29 bytes of result data (R192, R194). DESIGN CHOICE (log entry 20): of a report whose fields
take more, the first 29 bytes in the order of R191 are carried. -/
def Reply.bytes (r : Reply) : List Byte := [byteOf r.req.code, byteOf r.tag, byteOf r.status] ++ r.data.bytes.take 29

/-- The payload bytes of a frame of the outbound queue (R192). -/
def Payload.bytes : Payload → List Byte
  | .reply r => r.bytes
  | .display d => d.bytes
  | .notice n => n.bytes
  | .transfer tag t => [byteOf t.fields.1, byteOf tag] ++ t.fields.2
  | .setupRequest => []
  | .setupAnswer u => u.bytes

/-- The bits, class to check, of the frame the station is transmitting, when there is one (R168, R190). DESIGN CHOICE (log
entry 59): a frame on the line at the start of a hold in reset is cut off by the reset itself (R182). -/
def State.onLine (s : State) : Option (List Bool) :=
  let me := byteOf (s.ctl.pair.getD 0)
  match s.spacing.slot.filter (·.onLine) with
  | some n => some (frameBits (if n.urgent then 0#4 else 2#4) me 255#8 n.bytes)
  | none =>
    (s.link.queue.find? (·.onLine)).map fun f =>
      frameBits (BitVec.ofNat 4 f.payload.cls) me (byteOf f.dest) f.payload.bytes

end Sys2Proof.Machine
end

