-- ==== Sys2Proof/Machine/ReportRequests.lean ====
section
/-! DEFINITION. The requests of class REPORT_REQ: each is answered at once with a view, and changes nothing but the outbound
queue (R25, R39, R63, R84, R132, R136, R181, R188). -/

namespace Sys2Proof.Machine

/-- Answer a report with DONE and its contents (R178). -/
def answerReport (m : Msg) (name : ReqName) (r : Report) (s : State) : State := reply m name .done (.report r) s

/-! ## LANE_STATUS, STATION_STATUS (R181) -/

/-- LANE_STATUS at the link controller (R181). -/
def ownLaneStatus (m : Msg) (lane : Nat) (s : State) : State :=
  match laneOf lane with
  | some l => answerReport m .laneStatus (.lane (laneView s l)) s
  | none => refuse m .laneStatus .range s

/-- LANE_STATUS (R25, R181). -/
def takeLaneStatus (m : Msg) (s : State) : State := request .laneStatus parse1 (ownLaneStatus m) m s

/-- LANE_STATUS (R25). -/
def execLaneStatus (m : Msg) (s : State) : Host.Outcome State Fault Refusal := live s (takeLaneStatus m)

/-- STATION_STATUS at the link controller (R181). -/
def ownStationStatus (m : Msg) (part : Nat) (s : State) : State :=
  match stationView s part with
  | some p => answerReport m .stationStatus (.station p) s
  | none => refuse m .stationStatus .range s

/-- STATION_STATUS (R181). -/
def takeStationStatus (m : Msg) (s : State) : State := request .stationStatus parse1 (ownStationStatus m) m s

/-- STATION_STATUS (R181). -/
def execStationStatus (m : Msg) (s : State) : Host.Outcome State Fault Refusal := live s (takeStationStatus m)

/-! ## SESSION, GAME (R84, R63) -/

/-- SESSION at the session table (R84): session id, lane, part. -/
def ownSession (m : Msg) (a : Nat × Nat × Nat) (s : State) : State :=
  match s.namedSession a.1 a.2.1 with
  | none => refuse m .session .noSession s
  | some x =>
    match sessionView s x a.2.2 with
    | some p => answerReport m .session (.session p) s
    | none => refuse m .session .range s

/-- SESSION (R84). -/
def takeSession (m : Msg) (s : State) : State := request .session parse3 (ownSession m) m s

/-- SESSION (R84). -/
def execSession (m : Msg) (s : State) : Host.Outcome State Fault Refusal := live s (takeSession m)

/-- GAME at the score engine (R63): session id, bowler index, part. -/
def ownGame (m : Msg) (a : Nat × Nat × Nat) (s : State) : State :=
  match s.session? a.1 with
  | none => refuse m .game .noSession s
  | some x =>
    match x.bowler? a.2.1 with
    | none => refuse m .game .range s
    | some b =>
      match b.game with
      | none => refuse m .game .notFound s
      | some g =>
        match gameView x.id a.2.1 g a.2.2 with
        | some v => answerReport m .game (.game g.revision g.balls.length v) s
        | none => refuse m .game .range s

/-- GAME (R63). -/
def takeGame (m : Msg) (s : State) : State := request .game parse3 (ownGame m) m s

/-- GAME (R63). -/
def execGame (m : Msg) (s : State) : Host.Outcome State Fault Refusal := live s (takeGame m)

/-! ## CALIBRATION (R39) -/

/-- CALIBRATION at the deck sensor: lane, part (R39, R193, log entry 19). -/
def ownCalibration (m : Msg) (a : Nat × Nat) (s : State) : State :=
  match laneOf a.1 with
  | none => refuse m .calibration .range s
  | some l =>
    match calibrationView (s.deck l) a.2 with
    | some p => answerReport m .calibration (.calibration p) s
    | none => refuse m .calibration .range s

/-- CALIBRATION (R39). -/
def takeCalibration (m : Msg) (s : State) : State := request .calibration parse2 (ownCalibration m) m s

/-- CALIBRATION (R39). -/
def execCalibration (m : Msg) (s : State) : Host.Outcome State Fault Refusal := live s (takeCalibration m)

/-! ## JOURNAL, ARCHIVE (R132, R136) -/

/-- JOURNAL at the record store: sequence, part, first item (R132). A refusal with NOT_FOUND carries the sequences held. DESIGN
CHOICE (log entry 53): the sequence is tested before the part. -/
def ownJournal (m : Msg) (a : Nat × Nat × Nat) (s : State) : State :=
  match s.store.entry? a.1 with
  | none => reply m .journal (.refused .notFound) (.held s.store.oldest s.store.newest) s
  | some e =>
    match journalView s.store e a.2.1 a.2.2 with
    | some p => answerReport m .journal (.journal p) s
    | none => refuse m .journal .range s

/-- JOURNAL (R132). -/
def takeJournal (m : Msg) (s : State) : State := request .journal parseJournal (ownJournal m) m s

/-- JOURNAL (R132). -/
def execJournal (m : Msg) (s : State) : Host.Outcome State Fault Refusal := live s (takeJournal m)

/-- ARCHIVE at the record store: index from the newest, part (R136). -/
def ownArchive (m : Msg) (a : Nat × Nat) (s : State) : State :=
  match s.store.fromNewest a.1 with
  | none => refuse m .archive .notFound s
  | some g =>
    match archiveView s.store g a.2 with
    | some p => answerReport m .archive (.archive p) s
    | none => refuse m .archive .range s

/-- ARCHIVE (R136). -/
def takeArchive (m : Msg) (s : State) : State := request .archive parse2 (ownArchive m) m s

/-- ARCHIVE (R136). -/
def execArchive (m : Msg) (s : State) : Host.Outcome State Fault Refusal := live s (takeArchive m)

/-! ## RESET_CAUSE (R188) -/

/-- RESET_CAUSE at station control (R188): the setup state is CONFIGURED exactly when a source is present. -/
def ownResetCause (m : Msg) (_ : Unit) (s : State) : State :=
  answerReport m .resetCause (.resetCause s.ctl.cause s.ctl.warmCount s.ctl.source s.ctl.clock.isSome) s

/-- RESET_CAUSE (R188). -/
def takeResetCause (m : Msg) (s : State) : State := request .resetCause parseNone (ownResetCause m) m s

/-- RESET_CAUSE (R188). -/
def execResetCause (m : Msg) (s : State) : Host.Outcome State Fault Refusal := live s (takeResetCause m)

end Sys2Proof.Machine
end

