-- ==== Sys2Proof/Machine/TransferFrames.lean ====
section
/-! DEFINITION. The transfer frames as both sides take them, and the step timers (R157 to R164). -/

namespace Sys2Proof.Machine

/-- A transfer frame is taken by the transfer unit when it is addressed to the pair address (R157, R172); a mute station has
none. -/
def forTransfer (m : Msg) (unit : State → State) (s : State) : State :=
  let s := takeFrame m.dest s
  if s.ctl.pair = some m.dest.toNat then unit s else s

/-- An OFFER at the target (R157). DESIGN CHOICE (log entry 49): its tag is not tested, so that one with tag 0, outside R154's
range, is taken under that tag. -/
def takeOffer (m : Msg) (s : State) : State :=
  forTransfer m (fun s =>
    match parseOffer m.args with
    | none => s
    | some o =>
      match offerTest s m.sender.toNat o with
      | some r => sendTransfer m.sender.toNat m.tag.toNat (.answer (some r)) s
      | none =>
        let parts := List.replicate o.size { ident := none, balls := none }
        let s := s.setTransfer
          { s.transfer with record := .target false m.tag.toNat m.sender.toNat o parts false Config.stepLimit }
        sendTransfer m.sender.toNat m.tag.toNat (.answer none) s) s

/-- OFFER (R157). -/
def execOffer (m : Msg) (s : State) : Host.Outcome State Fault Refusal := live s (takeOffer m)

/-- The end of a transfer in COMMITTED: DONE (`none`) or a DECLINE (R163). -/
def endCommitted (declined : Option AnswerReason) (m : Msg) (s : State) : State :=
  match s.transfer.record with
  | .source .committed (some tag) peer _ sid req _ =>
    if m.sender.toNat = peer ∧ m.tag.toNat = tag then
      match declined with
      | none => moveDone sid peer req s
      | some r => moveFails sid req .commit (some r) s
    else s
  | _ => s

/-- An ANSWER at the source (R158); a DECLINE in COMMITTED is the end of the transfer (R163, R192). -/
def takeAnswer (m : Msg) (s : State) : State :=
  forTransfer m (fun s =>
    match parseAnswer m.args, s.transfer.record with
    | some none, .source .offered (some tag) peer lane sid req _ =>
      if m.sender.toNat = peer ∧ m.tag.toNat = tag then sendPart tag peer lane sid req (.ident 1) s else s
    | some (some r), .source .offered (some tag) peer _ sid req _ =>
      if m.sender.toNat = peer ∧ m.tag.toNat = tag then moveFails sid req .offer (some r) s else s
    | some (some r), _ => endCommitted (some r) m s
    | _, _ => s) s

/-- ANSWER (R158). -/
def execAnswer (m : Msg) (s : State) : Host.Outcome State Fault Refusal := live s (takeAnswer m)

/-- A part at the target: it moves the record to RECEIVING, starts the step timer again, and is written or sets the structure
fault (R159). -/
def takePart (m : Msg) (write : Nat → List BowlerParts → List BowlerParts × Bool) (s : State) : State :=
  match s.transfer.record with
  | .target _ tag peer o parts bad _ =>
    if m.sender.toNat = peer ∧ m.tag.toNat = tag then
      let r := write o.size parts
      s.setTransfer { s.transfer with record := .target true tag peer o r.1 (bad || r.2) Config.stepLimit }
    else s
  | _ => s

/-- An IDENT at the target (R159). -/
def takeIdent (m : Msg) (s : State) : State :=
  forTransfer m (fun s =>
    match parseIdent m.args with
    | some (i, f) => takePart m (fun n parts => addIdent n i f parts) s
    | none => s) s

/-- IDENT (R159). -/
def execIdent (m : Msg) (s : State) : Host.Outcome State Fault Refusal := live s (takeIdent m)

/-- A BALLS at the target (R159). -/
def takeBalls (m : Msg) (s : State) : State :=
  forTransfer m (fun s =>
    match parseBalls m.args with
    | some (i, filled, f) => takePart m (fun n parts => addBalls n i filled f parts) s
    | none => s) s

/-- BALLS (R159). -/
def execBalls (m : Msg) (s : State) : Host.Outcome State Fault Refusal := live s (takeBalls m)

/-- A COMMIT at the target (R161, R162). -/
def takeCommit (m : Msg) (s : State) : State :=
  forTransfer m (fun s =>
    match s.transfer.record with
    | .target _ tag peer o parts bad _ =>
      if m.sender.toNat = peer ∧ m.tag.toNat = tag then
        match commitCheck o parts bad with
        | .ok ps => install tag peer o ps s
        | .error r => sendTransfer peer tag (.answer (some r)) (transferIdle s)
      else s
    | _ => s) s

/-- COMMIT (R161). -/
def execCommit (m : Msg) (s : State) : Host.Outcome State Fault Refusal := live s (takeCommit m)

/-- A DONE at the source (R163). -/
def takeDone (m : Msg) (s : State) : State := forTransfer m (endCommitted none m) s

/-- A DECLINE at the source (R163): an ANSWER's result and reason (R192). -/
def takeDecline (m : Msg) (s : State) : State :=
  forTransfer m (fun s =>
    match parseAnswer m.args with
    | some (some r) => endCommitted (some r) m s
    | _ => s) s

/-- TRANSFER_DONE (R163): DONE, or a DECLINE in COMMITTED (log entry 32). -/
def execTransferDone (m : Msg) (declined : Bool) (s : State) : Host.Outcome State Fault Refusal :=
  live s fun s => if declined then takeDecline m s else takeDone m s

/-- SOURCE_STEP_TIMEOUT (R163). -/
def execSourceStepTimeout (s : State) : Host.Outcome State Fault Refusal :=
  live s fun s =>
    match s.transfer.record with
    | .source .committed _ _ _ sid req _ =>
      deferredReply req.1 req.2 .moveSession .failed (.moveFailed .commit none) (park sid (transferIdle s))
    | .source .offered _ _ _ sid req _ => moveFails sid req .offer none s
    | .source (.sending p) _ _ _ sid req _ => moveFails sid req (SourceState.sending p).step none s
    | _ => s

/-- TARGET_STEP_TIMEOUT (R164). -/
def execTargetStepTimeout (s : State) : Host.Outcome State Fault Refusal :=
  live s fun s =>
    match s.transfer.record with
    | .target _ _ _ _ _ _ _ => transferIdle s
    | _ => s

end Sys2Proof.Machine
end

