-- ==== Sys2Proof/Machine/SessionRequests.lean ====
section
/-! DEFINITION. The requests of class SESSION_REQ: forming, changing, ending and moving sessions, corrections, and parked
sessions (R60 to R62, R68 to R73, R155, R165). -/

namespace Sys2Proof.Machine

/-! ## START_SESSION (R68) -/

/-- The other lane's session is of the other kind, crossed or not (R68 step 4). -/
def State.crossClash (s : State) (l : LaneId) (cross : Bool) : Bool :=
  s.sessions.any fun y => y.occupies (other l) && y.cross != cross

/-- The records the table counts for START_SESSION: a reserved lane counts as one (R68 step 5). -/
def State.tableCount (s : State) : Nat := s.sessions.length + s.reserved.isSome.toNat

/-- The record of a new session (R68). -/
def newSession (id : Nat) (l : LaneId) (a : StartArgs) : Session :=
  { id := id, home := l, cross := a.cross, state := .forming, size := a.size, bowlers := [], pos := none, turn := .none
    current := none, limit := min 99 a.limit, discount := min 100 a.discount }

/-- START_SESSION at its owner (R68). -/
def ownStartSession (m : Msg) (a : StartArgs) (s : State) : State :=
  match laneOf a.lane with
  | none => refuse m .startSession .range s
  | some l =>
    if a.size < 1 ∨ 6 < a.size then refuse m .startSession .range s
    else if (s.meter l).isOpen = false ∨ s.occupied l = true then refuse m .startSession .state s
    else if s.reserved = some l then refuse m .startSession .laneTaken s
    else if s.crossClash l a.cross then refuse m .startSession .cross s
    else if 2 ≤ s.tableCount then refuse m .startSession .busy s
    else
      let id := s.newId
      let r := if 99 < a.limit ∨ 100 < a.discount then Result.clamped else Result.done
      addSession (newSession id l a) (reply m .startSession r (.sessionId id) s)

/-- START_SESSION (R68). -/
def takeStartSession (m : Msg) (s : State) : State := request .startSession parseStart (ownStartSession m) m s

/-- START_SESSION (R68). -/
def execStartSession (m : Msg) (s : State) : Host.Outcome State Fault Refusal := live s (takeStartSession m)

/-! ## ADD_BOWLER, BEGIN (R69, R70) -/

/-- ADD_BOWLER at its owner (R69). -/
def ownAddBowler (m : Msg) (a : BowlerArgs) (s : State) : State :=
  match s.session? a.session with
  | none => refuse m .addBowler .noSession s
  | some x =>
    if x.state ≠ .forming ∨ x.size ≤ x.bowlers.length then refuse m .addBowler .state s
    else
      let b : Bowler :=
        { name := enterName a.name, handicap := enterHandicap a.handicap, absent := a.absent, completed := 0
          game := none, first := ballLane x.home }
      let r := if b.name ≠ a.name ∨ b.handicap ≠ a.handicap then Result.clamped else Result.done
      putSession { x with bowlers := x.bowlers ++ [b] }
        (reply m .addBowler r (.bowlerIndex (x.bowlers.length + 1)) s)

/-- ADD_BOWLER (R69). -/
def takeAddBowler (m : Msg) (s : State) : State := request .addBowler parseBowler (ownAddBowler m) m s

/-- ADD_BOWLER (R69). -/
def execAddBowler (m : Msg) (s : State) : Host.Outcome State Fault Refusal := live s (takeAddBowler m)

/-- A session begins (R70). -/
def beginSession (x : Session) (s : State) : State :=
  if x.cross then startTurns (barrierTest x.id (putSession { x with state := .waitPartner .start, turn := .none } s))
  else startTurns (selectFresh x.id (putSession (x.startGame 1) s))

/-- BEGIN at its owner (R70). -/
def ownBeginSession (m : Msg) (id : Nat) (s : State) : State :=
  match s.session? id with
  | none => refuse m .beginSession .noSession s
  | some x =>
    if x.state ≠ .forming ∨ x.bowlers.length < x.size then refuse m .beginSession .state s
    else beginSession x (reply m .beginSession .done .none s)

/-- BEGIN (R70). -/
def takeBeginSession (m : Msg) (s : State) : State := request .beginSession parse1 (ownBeginSession m) m s

/-- BEGIN (R70). -/
def execBeginSession (m : Msg) (s : State) : Host.Outcome State Fault Refusal := live s (takeBeginSession m)

/-! ## SET_HANDICAP, SET_ABSENT (R71, R72) -/

/-- The session is in MOVING or PARKED. -/
def SessionState.sealed : SessionState → Bool
  | .moving _ | .parked => true
  | _ => false

/-- The tests SET_HANDICAP and SET_ABSENT share: the session, or why not (R71). -/
def bowlerTest (s : State) (id i : Nat) : Except RefuseReason Session :=
  match s.session? id with
  | none => .error .noSession
  | some x =>
    if (x.bowler? i).isNone then .error .range else if x.state.sealed then .error .state else .ok x

/-- SET_HANDICAP at its owner (R71). -/
def ownSetHandicap (m : Msg) (a : Nat × Nat × Nat) (s : State) : State :=
  match bowlerTest s a.1 a.2.1 with
  | .error r => refuse m .setHandicap r s
  | .ok x =>
    let h := enterHandicap a.2.2
    let r := if h ≠ a.2.2 then Result.clamped else Result.done
    putSession (x.modifyBowler a.2.1 fun b => { b with handicap := h, game := b.game.map (·.setHandicap h) })
      (reply m .setHandicap r .none s)

/-- SET_HANDICAP (R71). -/
def takeSetHandicap (m : Msg) (s : State) : State := request .setHandicap parseHandicap (ownSetHandicap m) m s

/-- SET_HANDICAP (R71). -/
def execSetHandicap (m : Msg) (s : State) : Host.Outcome State Fault Refusal := live s (takeSetHandicap m)

/-- What a clear of an absence does to a session with no bowler to play (R72). -/
def presentAgain (x : Session) (s : State) : State :=
  match x.state with
  | .playing => if x.turn = .none then startTurns (selectTurn x.id s) else s
  | .waitPartner _ => startTurns (barrierTest x.id s)
  | _ => s

/-- SET_ABSENT at its owner (R72). -/
def ownSetAbsent (m : Msg) (a : Nat × Nat × Nat) (s : State) : State :=
  match bowlerTest s a.1 a.2.1 with
  | .error r => refuse m .setAbsent r s
  | .ok x =>
    let v := flagOf a.2.2
    let s := putSession (x.modifyBowler a.2.1 fun b => { b with absent := v }) (reply m .setAbsent .done .none s)
    if v then s else presentAgain x s

/-- SET_ABSENT (R72). -/
def takeSetAbsent (m : Msg) (s : State) : State := request .setAbsent parse3 (ownSetAbsent m) m s

/-- SET_ABSENT (R72). -/
def execSetAbsent (m : Msg) (s : State) : Host.Outcome State Fault Refusal := live s (takeSetAbsent m)

/-! ## END_SESSION (R73) -/

/-- The session is ended through the transfer requests only: WAIT_MOVE, MOVING, PARKED (R73). -/
def SessionState.transferHeld : SessionState → Bool
  | .waitMove | .moving _ | .parked => true
  | _ => false

/-- END_SESSION at its owner (R73). -/
def ownEndSession (m : Msg) (id : Nat) (s : State) : State :=
  match s.session? id with
  | none => refuse m .endSession .noSession s
  | some x =>
    if x.state.transferHeld then refuse m .endSession .state s
    else removeSession id (reply m .endSession .done .none s)

/-- END_SESSION (R73). -/
def takeEndSession (m : Msg) (s : State) : State := request .endSession parse1 (ownEndSession m) m s

/-- END_SESSION (R73). -/
def execEndSession (m : Msg) (s : State) : Host.Outcome State Fault Refusal := live s (takeEndSession m)

/-! ## CORRECT_FRAME (R60 to R62) -/

/-- The session takes no correction in this state (R60 step 3). -/
def SessionState.noCorrection : SessionState → Bool
  | .forming | .moving _ | .parked => true
  | _ => false

/-- The frame is the session's current frame and the bowler is current on a lane (R60 step 3). -/
def Session.playsFrame (x : Session) (i f : Nat) : Bool :=
  x.turn.holds && x.current == some i && (x.pos.map (·.frame)) == some f

/-- The tests of a correction in order: the game to correct, or why not (R60). -/
def correctTest (s : State) (a : CorrectArgs) : Except RefuseReason (Session × Game) :=
  match s.session? a.session with
  | none => .error .noSession
  | some x =>
    match x.bowler? a.bowler with
    | none => .error .range
    | some b =>
      if a.frame < 1 ∨ 10 < a.frame ∨ a.pins = [] ∨ 3 < a.pins.length ∨ a.pins.any (10 < ·) then .error .range
      else
        match b.game with
        | none => .error .state
        | some g =>
          if x.state.noCorrection ∨ (g.slot a.frame).all (·.mark == .incomplete) ∨ x.playsFrame a.bowler a.frame then
            .error .state
          else if structureOk a.frame (g.ballsOf a.frame).length a.pins then .ok (x, g)
          else .error .badStructure

/-- CORRECT_FRAME at its owner (R60, R62). -/
def ownCorrectFrame (m : Msg) (a : CorrectArgs) (s : State) : State :=
  match correctTest s a with
  | .error r => refuse m .correctFrame r s
  | .ok (x, _) =>
    putSession (x.modifyGame a.bowler fun g => g.correct a.frame a.pins) (reply m .correctFrame .done .none s)

/-- CORRECT_FRAME (R60). -/
def takeCorrectFrame (m : Msg) (s : State) : State := request .correctFrame parseCorrect (ownCorrectFrame m) m s

/-- CORRECT_FRAME (R60). -/
def execCorrectFrame (m : Msg) (s : State) : Host.Outcome State Fault Refusal := live s (takeCorrectFrame m)

/-! ## MOVE_SESSION (R155) -/

/-- The tests of a MOVE_SESSION in order: the session and the target lane, or why not (R155). -/
def moveTest (s : State) (a : MoveArgs) : Except RefuseReason (Session × LaneId) :=
  match s.session? a.session with
  | none => .error .noSession
  | some x =>
    match laneOf a.lane with
    | none => .error .range
    | some l =>
      if isPair a.station = false ∨ s.ctl.pair = some a.station then .error .range
      else if x.cross then .error .cross
      else if x.state ≠ .playing then .error .state
      else if s.transfer.record ≠ .idle then .error .busy
      else .ok (x, l)

/-- MOVE_SESSION at its owner (R155). -/
def ownMoveSession (m : Msg) (a : MoveArgs) (s : State) : State :=
  match moveTest s a with
  | .error r => refuse m .moveSession r s
  | .ok (x, l) =>
    let s := reply m .moveSession .accepted .none s
    let s := s.setTransfer
      { s.transfer with record := .source .waiting none a.station l x.id (m.sender.toNat, m.tag.toNat) none }
    if a.force then startTransfer x.id (truncateCurrent x.id s)
    else if x.turn.holds then putSession { x with state := .waitMove } s
    else startTransfer x.id s

/-- MOVE_SESSION (R155). -/
def takeMoveSession (m : Msg) (s : State) : State := request .moveSession parseMove (ownMoveSession m) m s

/-- MOVE_SESSION (R155). -/
def execMoveSession (m : Msg) (s : State) : Host.Outcome State Fault Refusal := live s (takeMoveSession m)

/-! ## RESUME_PARKED, DISCARD_PARKED (R165) -/

/-- A parked session plays on at its home lane, and a cross session on the other lane is un-crossed (R165, R79). -/
def resumeParked (x : Session) (s : State) : State :=
  let y := { x with state := .playing, pos := x.pos.map fun p => { p with lane := x.home } }
  let r := selectTurn x.id (putSession y s)
  match r.1.sessions.find? fun z => z.id != x.id && z.cross && z.occupies (other x.home) with
  | some z =>
    let q := uncross z.id r.1
    startTurns (q.1, r.2 ++ q.2)
  | none => startTurns r

/-- RESUME_PARKED at its owner (R165). -/
def ownResumeParked (m : Msg) (id : Nat) (s : State) : State :=
  match s.session? id with
  | none => refuse m .resumeParked .noSession s
  | some x =>
    if x.state ≠ .parked ∨ (s.meter x.home).isOpen = false then refuse m .resumeParked .state s
    else if s.occupied x.home = true ∨ s.reserved = some x.home then refuse m .resumeParked .laneTaken s
    else resumeParked x (reply m .resumeParked .done .none s)

/-- RESUME_PARKED (R165). -/
def takeResumeParked (m : Msg) (s : State) : State := request .resumeParked parse1 (ownResumeParked m) m s

/-- RESUME_PARKED (R165). -/
def execResumeParked (m : Msg) (s : State) : Host.Outcome State Fault Refusal := live s (takeResumeParked m)

/-- DISCARD_PARKED at its owner (R165). -/
def ownDiscardParked (m : Msg) (id : Nat) (s : State) : State :=
  match s.session? id with
  | none => refuse m .discardParked .noSession s
  | some x =>
    if x.state ≠ .parked then refuse m .discardParked .state s
    else dropSession id (reply m .discardParked .done .none s)

/-- DISCARD_PARKED (R165). -/
def takeDiscardParked (m : Msg) (s : State) : State := request .discardParked parse1 (ownDiscardParked m) m s

/-- DISCARD_PARKED (R165). -/
def execDiscardParked (m : Msg) (s : State) : Host.Outcome State Fault Refusal := live s (takeDiscardParked m)

end Sys2Proof.Machine
end

