-- ==== Sys2Proof/Machine/Receive.lean ====
section
/-! DEFINITION. RECEIVE_FRAME: a frame as it ends on the line, read bit for bit, discarded or taken by its class (R170, R172,
R176, R190, R192, R194). -/

namespace Sys2Proof.Machine

/-- The receiver reads the frame: its length is at most 32, its check field matches and its class is 0..12 (R170). -/
def RawFrame.wellFormed (f : RawFrame) : Bool :=
  decide (f.length.toNat ≤ 32) && f.payload.length == f.length.toNat &&
    f.check == checkOf (coveredBits f.cls f.sender f.dest f.length f.payload) && decide (f.cls.toNat ≤ 12)

/-- A frame that is neither acknowledged nor acted on has still held the line (R170). -/
def ignoreFrame (s : State) : State := s.setLink { s.link with lineIdle := false, ack := false, response := none }

/-- A request by its name, at the owner the class and code give (R172, R176). -/
def takeNamed (name : ReqName) (m : Msg) (s : State) : State :=
  match name with
  | .hold => takeHold m s
  | .release => takeRelease m s
  | .setHoldMode => takeSetHoldMode m s
  | .laneReset => takeLaneReset m s
  | .clearFault => takeClearFault m s
  | .calibrate => takeCalibrate m s
  | .clearJam => takeClearJam m s
  | .setGroup => takeSetGroup m s
  | .setCensusSilent => takeSetCensusSilent m s
  | .stationReset => takeStationReset m s
  | .startSession => takeStartSession m s
  | .addBowler => takeAddBowler m s
  | .beginSession => takeBeginSession m s
  | .setHandicap => takeSetHandicap m s
  | .setAbsent => takeSetAbsent m s
  | .endSession => takeEndSession m s
  | .correctFrame => takeCorrectFrame m s
  | .moveSession => takeMoveSession m s
  | .resumeParked => takeResumeParked m s
  | .discardParked => takeDiscardParked m s
  | .openLane => takeOpenLane m s
  | .closeLane => takeCloseLane m s
  | .addCredit => takeAddCredit m s
  | .tariffBand => takeTariffBand m s
  | .tariffCommit => takeTariffCommit m s
  | .releaseJournal => takeReleaseJournal m s
  | .archiveClear => takeArchiveClear m s
  | .laneStatus => takeLaneStatus m s
  | .stationStatus => takeStationStatus m s
  | .session => takeSession m s
  | .game => takeGame m s
  | .calibration => takeCalibration m s
  | .journal => takeJournal m s
  | .resetCause => takeResetCause m s
  | .archive => takeArchive m s
  | .setup | .unknown _ => takeFrame m.dest s

/-- A request frame (R176); one shorter than two bytes has no code and tag (R194). -/
def takeRequest (c : ReqClass) (f : RawFrame) (s : State) : State :=
  match f.payload with
  | code :: tag :: args =>
    let m : Msg := { sender := f.sender, dest := f.dest, tag := tag, args := args }
    match reqOf c code.toNat with
    | some name => takeNamed name m s
    | none => takeUnknown c code m s
  | _ => takeFrame f.dest s

/-- A transfer frame by its kind (R192); an unknown kind is ignored (R194). -/
def takeTransfer (f : RawFrame) (s : State) : State :=
  match f.payload with
  | kind :: tag :: args =>
    let m : Msg := { sender := f.sender, dest := f.dest, tag := tag, args := args }
    match kind.toNat with
    | 0 => takeOffer m s
    | 1 => takeAnswer m s
    | 2 => takeIdent m s
    | 3 => takeBalls m s
    | 4 => takeCommit m s
    | 5 => takeDone m s
    | _ => takeFrame f.dest s
  | _ => takeFrame f.dest s

/-- A well-formed frame by its class (R168, R172). -/
def takeClass (f : RawFrame) (s : State) : State :=
  let b : Bare := { sender := f.sender, dest := f.dest, payload := f.payload }
  match f.cls.toNat with
  | 0 | 2 => takeStartNotice b s
  | 1 => takeCensus b s
  | 4 => takeTransfer f s
  | 5 => takeTime b s
  | 6 => if f.payload.isEmpty then takeSetupRequest b s else takeSetupAnswer b s
  | 7 => takeRequest .lane f s
  | 8 => takeRequest .session f s
  | 9 => takeRequest .billing f s
  | 10 => takeRequest .report f s
  | _ => takeFrame f.dest s

/-- A frame as it ends on the line (R170). -/
def takeRaw (f : RawFrame) (s : State) : State := if RawFrame.wellFormed f then takeClass f s else ignoreFrame s

/-- RECEIVE_FRAME (R170, R172). -/
def execReceiveFrame (f : RawFrame) (s : State) : Host.Outcome State Fault Refusal := live s (takeRaw f)

end Sys2Proof.Machine
end

