-- ==== Sys2Proof/Machine/Dispatch.lean ====
section
/-! DEFINITION. Which meaning each command has: one arm per constructor of `Instr`. -/

namespace Sys2Proof.Machine

/-- The effect of a command on everything but the queue of waiting commands. -/
def exec (i : Instr) (s : State) : Host.Outcome State Fault Refusal :=
  match i with
  | .ball l => Sys2Proof.Machine.execBall l s
  | .foul l => Sys2Proof.Machine.execFoul l s
  | .settleExpiry l => Sys2Proof.Machine.execSettleExpiry l s
  | .spacingWait2W l => Sys2Proof.Machine.execSpacingWait2W l s
  | .readDone l levels => Sys2Proof.Machine.execReadDone l levels s
  | .clearDone l => Sys2Proof.Machine.execClearDone l s
  | .setDone l => Sys2Proof.Machine.execSetDone l s
  | .phaseLimitExpiry l => Sys2Proof.Machine.execPhaseLimitExpiry l s
  | .liftTop => Sys2Proof.Machine.execLiftTop s
  | .rackFullChange asserted => Sys2Proof.Machine.execRackFullChange asserted s
  | .liftCurrentSample sample => Sys2Proof.Machine.execLiftCurrentSample sample s
  | .runOnExpiry => Sys2Proof.Machine.execRunOnExpiry s
  | .transitOverdue => Sys2Proof.Machine.execTransitOverdue s
  | .purgeEnd => Sys2Proof.Machine.execPurgeEnd s
  | .clockTick => Sys2Proof.Machine.execClockTick s
  | .windowEntryExpiry index => Sys2Proof.Machine.execWindowEntryExpiry index s
  | .quietPeriodEnd => Sys2Proof.Machine.execQuietPeriodEnd s
  | .idleWatchExpiry => Sys2Proof.Machine.execIdleWatchExpiry s
  | .lineIdle => Sys2Proof.Machine.execLineIdle s
  | .startNoticeOutcome sent => Sys2Proof.Machine.execStartNoticeOutcome sent s
  | .queuedFrameOutcome o => Sys2Proof.Machine.execQueuedFrameOutcome o s
  | .startNoticeReceived urgent f => Sys2Proof.Machine.execStartNoticeReceived urgent f s
  | .census f => Sys2Proof.Machine.execCensus f s
  | .receiveFrame f => Sys2Proof.Machine.execReceiveFrame f s
  | .offer m => Sys2Proof.Machine.execOffer m s
  | .answer m => Sys2Proof.Machine.execAnswer m s
  | .ident m => Sys2Proof.Machine.execIdent m s
  | .balls m => Sys2Proof.Machine.execBalls m s
  | .commit m => Sys2Proof.Machine.execCommit m s
  | .transferDone m declined => Sys2Proof.Machine.execTransferDone m declined s
  | .sourceStepTimeout => Sys2Proof.Machine.execSourceStepTimeout s
  | .targetStepTimeout => Sys2Proof.Machine.execTargetStepTimeout s
  | .time f => Sys2Proof.Machine.execTime f s
  | .setupRequest f => Sys2Proof.Machine.execSetupRequest f s
  | .setupAnswer f => Sys2Proof.Machine.execSetupAnswer f s
  | .setupWaitExpiry => Sys2Proof.Machine.execSetupWaitExpiry s
  | .setupAnswerDelayExpiry requester => Sys2Proof.Machine.execSetupAnswerDelayExpiry requester s
  | .supplyWarningFall => Sys2Proof.Machine.execSupplyWarningFall s
  | .supplyWarningRelease => Sys2Proof.Machine.execSupplyWarningRelease s
  | .powerOn retained strap rackFull supplyLow => Sys2Proof.Machine.execPowerOn retained strap rackFull supplyLow s
  | .warmReset cause supplyLow => Sys2Proof.Machine.execWarmReset cause supplyLow s
  | .stationResetTimeout => Sys2Proof.Machine.execStationResetTimeout s
  | .unknownRequest c code m => Sys2Proof.Machine.execUnknownRequest c code m s
  | .hold m => Sys2Proof.Machine.execHold m s
  | .release m => Sys2Proof.Machine.execRelease m s
  | .setHoldMode m => Sys2Proof.Machine.execSetHoldMode m s
  | .laneReset m => Sys2Proof.Machine.execLaneReset m s
  | .clearFault m => Sys2Proof.Machine.execClearFault m s
  | .calibrate m => Sys2Proof.Machine.execCalibrate m s
  | .clearJam m => Sys2Proof.Machine.execClearJam m s
  | .setGroup m => Sys2Proof.Machine.execSetGroup m s
  | .setCensusSilent m => Sys2Proof.Machine.execSetCensusSilent m s
  | .stationReset m => Sys2Proof.Machine.execStationReset m s
  | .startSession m => Sys2Proof.Machine.execStartSession m s
  | .addBowler m => Sys2Proof.Machine.execAddBowler m s
  | .beginSession m => Sys2Proof.Machine.execBeginSession m s
  | .setHandicap m => Sys2Proof.Machine.execSetHandicap m s
  | .setAbsent m => Sys2Proof.Machine.execSetAbsent m s
  | .endSession m => Sys2Proof.Machine.execEndSession m s
  | .correctFrame m => Sys2Proof.Machine.execCorrectFrame m s
  | .moveSession m => Sys2Proof.Machine.execMoveSession m s
  | .resumeParked m => Sys2Proof.Machine.execResumeParked m s
  | .discardParked m => Sys2Proof.Machine.execDiscardParked m s
  | .openLane m => Sys2Proof.Machine.execOpenLane m s
  | .closeLane m => Sys2Proof.Machine.execCloseLane m s
  | .addCredit m => Sys2Proof.Machine.execAddCredit m s
  | .tariffBand m => Sys2Proof.Machine.execTariffBand m s
  | .tariffCommit m => Sys2Proof.Machine.execTariffCommit m s
  | .releaseJournal m => Sys2Proof.Machine.execReleaseJournal m s
  | .archiveClear m => Sys2Proof.Machine.execArchiveClear m s
  | .laneStatus m => Sys2Proof.Machine.execLaneStatus m s
  | .stationStatus m => Sys2Proof.Machine.execStationStatus m s
  | .session m => Sys2Proof.Machine.execSession m s
  | .game m => Sys2Proof.Machine.execGame m s
  | .calibration m => Sys2Proof.Machine.execCalibration m s
  | .journal m => Sys2Proof.Machine.execJournal m s
  | .archive m => Sys2Proof.Machine.execArchive m s
  | .resetCause m => Sys2Proof.Machine.execResetCause m s
  | .brownout => Sys2Proof.Machine.execBrownout s
  | .resetLineAsserted => Sys2Proof.Machine.execResetLineAsserted s

end Sys2Proof.Machine
end

