-- ==== Sys2Proof/Machine/Timing.lean ====
section
/-! DEFINITION. A tenth of a second passing while no command waits (log entry 6): timers run down, entries of the window list,
waits in SPACING and the head record of the transit list grow older (R1, R88, R93, R140, R145, R147, R154, R183 to R188).
A timer stops at 0; its expiry is a command. -/

namespace Sys2Proof.Machine

/-- What is left of a running timer. -/
def runDown (t : Option Nat) : Option Nat := t.map (· - Config.tick)

/-- The head record ages in RUNNING, up to the transit limit; what is above it is the event TRANSIT_OVERDUE (R93). -/
def ageHead (limit : Nat) : List BallRecord → List BallRecord
  | [] => []
  | b :: rest => { b with age := if b.age < 10 * limit then b.age + 1 else b.age } :: rest

/-- The return's share of a tenth of a second (R88, R93). -/
def Return.tick (limit : Nat) (r : Return) : Return :=
  { r with
    transit := if r.state = .running then ageHead limit r.transit else r.transit
    runOn := runDown r.runOn, purge := runDown r.purge }

/-- The spacing unit's share (R140, R145, R147). -/
def Spacing.tick (u : Spacing) : Spacing :=
  { u with
    window := u.window.map fun e => { e with age := min e.life (e.age + Config.tick) }
    waiting := u.waiting.map fun r => { r with waited := r.waited + Config.tick }
    quiet := runDown u.quiet, idle := u.idle - Config.tick }

/-- The transfer unit's share (R154). -/
def Transfer.tick (t : Transfer) : Transfer :=
  match t.record with
  | .idle => t
  | .source st tag peer lane sid req timer => { t with record := .source st tag peer lane sid req (runDown timer) }
  | .target rcv tag peer o parts bad timer =>
    { t with record := .target rcv tag peer o parts bad (timer - Config.tick) }

/-- Station control's share (R184, R185, R188). -/
def Control.tick (c : Control) : Control :=
  { c with
    setupWait := runDown c.setupWait, answers := c.answers.map fun e => (e.1, e.2 - Config.tick)
    resetDue := runDown c.resetDue }

/-- A tenth of a second passes. Nothing runs while the station is held in reset. -/
def tick (s : State) : State :=
  if s.running then
    { s with
      seqs := ⟨{ s.seqs.a with timer := runDown s.seqs.a.timer }, { s.seqs.b with timer := runDown s.seqs.b.timer }⟩
      ret := s.ret.tick s.ctl.setup.transit
      spacing := s.spacing.tick
      transfer := s.transfer.tick
      ctl := s.ctl.tick }
  else s

end Sys2Proof.Machine
end

