-- ==== Sys2Proof/WellFormed.lean ====
section
/-! DEFINITION. Which commands the station's surroundings can send: the ranges the manual gives for what an event or a
frame carries. `exec` is total, so a statement uses these checks only where the range matters. -/

namespace Sys2Proof

/-- A payload has 0..32 bytes (R168); a request's or a transfer frame's first two are its code (or kind) and tag
(R175, R192). -/
def Msg.wf (m : Msg) : Bool := m.args.length ≤ 30

/-- A payload has 0..32 bytes (R168). -/
def Bare.wf (f : Bare) : Bool := f.payload.length ≤ 32

/-- The payload read from the line has as many bytes as the length field says; above 32 nothing is read (R168, R170). -/
def RawFrame.wf (f : RawFrame) : Bool :=
  if f.length.toNat ≤ 32 then f.payload.length == f.length.toNat else f.payload.isEmpty

/-- A read carries the ten spot levels, each 0..63 (R29). -/
def levelsWf (levels : List Nat) : Bool := levels.length == 10 && levels.all (· ≤ 63)

/-- The request codes of a class are 1 to this number, in the order of R175's table (R191). -/
def ReqClass.codes : ReqClass → Nat
  | .lane => 10
  | .session => 10
  | .billing => 7
  | .report => 8

/-- What the station's surroundings can send. -/
def Instr.wf : Instr → Bool
  | .ball _ | .foul _ | .settleExpiry _ | .spacingWait2W _ => true
  | .readDone _ levels => levelsWf levels
  | .clearDone _ | .setDone _ | .phaseLimitExpiry _ => true
  | .liftTop | .rackFullChange _ | .liftCurrentSample _ | .runOnExpiry | .transitOverdue | .purgeEnd => true
  | .clockTick => true
  | .windowEntryExpiry i => i < 16
  | .quietPeriodEnd | .idleWatchExpiry | .lineIdle | .startNoticeOutcome _ | .queuedFrameOutcome _ => true
  | .startNoticeReceived _ f => f.wf
  | .census f => f.wf
  | .receiveFrame f => f.wf
  | .offer m | .answer m | .ident m | .balls m | .commit m | .transferDone m _ => m.wf
  | .sourceStepTimeout | .targetStepTimeout => true
  | .time f => f.wf
  | .setupRequest f => f.payload.isEmpty
  | .setupAnswer f => f.wf && !f.payload.isEmpty
  | .setupWaitExpiry => true
  | .setupAnswerDelayExpiry r => 1 ≤ r.toNat && r.toNat ≤ 60
  | .supplyWarningFall | .supplyWarningRelease => true
  | .powerOn _ _ _ _ | .warmReset _ _ | .stationResetTimeout => true
  | .unknownRequest c code m => (code.toNat == 0 || c.codes < code.toNat) && m.wf
  | .hold m | .release m | .setHoldMode m | .laneReset m | .clearFault m | .calibrate m | .clearJam m => m.wf
  | .setGroup m | .setCensusSilent m | .stationReset m => m.wf
  | .startSession m | .addBowler m | .beginSession m | .setHandicap m | .setAbsent m | .endSession m => m.wf
  | .correctFrame m | .moveSession m | .resumeParked m | .discardParked m => m.wf
  | .openLane m | .closeLane m | .addCredit m | .tariffBand m | .tariffCommit m | .releaseJournal m => m.wf
  | .archiveClear m => m.wf
  | .laneStatus m | .stationStatus m | .session m | .game m | .calibration m | .journal m | .archive m => m.wf
  | .resetCause m => m.wf
  | .brownout | .resetLineAsserted => true

end Sys2Proof
end

