-- ==== Sys2Proof/Safety.lean ====
section
/-! DEFINITION. The terms in which statements speak: what a command left alone, what it queued, which requests reach their
owner, and the invariants of the station. -/

namespace Sys2Proof

/-- The commands taken while the station is held in reset: power-on, the beginning and the end of a hold, the clock's tick.
-/
def Instr.takenInReset : Instr → Bool
  | .powerOn _ _ _ _ | .warmReset _ _ | .brownout | .resetLineAsserted | .clockTick => true
  | _ => false

end Sys2Proof

namespace Sys2Proof.Machine

/-! ## What a command left alone -/

/-- A queued frame, whether or not its transmission has begun. -/
def QueuedFrame.still (f : QueuedFrame) : QueuedFrame := { f with onLine := false }

/-- A start notice, whether or not its transmission has begun. -/
def Notice.still (n : Notice) : Notice := { n with onLine := false }

/-- The outbound queue holds the same frames; the transmission of one may have begun. -/
def State.sameFrames (s t : State) : Prop := t.link.queue.map QueuedFrame.still = s.link.queue.map QueuedFrame.still

/-- The spacing unit is the same; the transmission of its notice may have begun. -/
def State.sameStarts (s t : State) : Prop :=
  t.spacing = { s.spacing with slot := t.spacing.slot } ∧
    t.spacing.slot.map Notice.still = s.spacing.slot.map Notice.still

/-- The station drove nothing on the line, and its group is the same. -/
def State.sameLine (s t : State) : Prop :=
  t.link.ack = s.link.ack ∧ t.link.response = s.link.response ∧ t.link.group = s.link.group ∧
    t.link.groupOn = s.link.groupOn

/-- The link controller and the spacing unit are the same, but for a transmission that may have begun. -/
def State.quiet (s t : State) : Prop := s.sameFrames t ∧ s.sameStarts t ∧ s.sameLine t

/-! ## What a command queued -/

/-- The outbound queue holds this payload for this destination. -/
def State.queued (t : State) (dest : Nat) (p : Payload) : Prop := ∃ f ∈ t.link.queue, f.dest = dest ∧ f.payload = p

/-- `q'` is `q` with the frame placed behind every frame of its class or a lower one (R173); transmissions apart. -/
def placed (f : QueuedFrame) (q q' : List QueuedFrame) : Prop :=
  ∃ front back, q.map QueuedFrame.still = front ++ back ∧ q'.map QueuedFrame.still = front ++ f :: back ∧
    (∀ g ∈ front, g.payload.cls ≤ f.payload.cls) ∧ ∀ g ∈ back.head?, f.payload.cls < g.payload.cls

/-- One frame was placed in the queue, and the station drove nothing on the line. -/
def State.queues (s t : State) (dest : Nat) (mark : FrameMark) (p : Payload) : Prop :=
  placed { dest := dest, payload := p, mark := mark, onLine := false } s.link.queue t.link.queue ∧ s.sameLine t

/-- The request that a waiting lane places (R141). -/
def freshRequest (l : LaneId) (n : NextPhase) : StartRequest := { lane := l, next := n, urgent := false, waited := 0 }

/-- The notice of a request, as it takes the slot (R141). -/
def StartRequest.notice (r : StartRequest) : Notice :=
  { lane := r.lane, next := r.next, urgent := r.urgent, onLine := false, withdrawn := false }

/-- Out of local mode, a start request of the lane was placed last on the waiting list; an empty slot took the notice of the
list's head, and the check was made (R141, R142). -/
def State.startPlaced (s t : State) (l : LaneId) (n : NextPhase) : Prop :=
  t.spacing = { s.spacing with waiting := t.spacing.waiting, slot := t.spacing.slot, passed := t.spacing.passed } ∧
    t.spacing.waiting = s.spacing.waiting ++ [freshRequest l n] ∧
    t.spacing.slot.map Notice.still =
      (match s.spacing.slot with
       | some x => some x.still
       | none => t.spacing.waiting.head?.map StartRequest.notice) ∧
    t.spacing.passed = if s.spacing.slot.isSome then s.spacing.passed else s.startRoom

/-- A lane that takes a grant: its next phase, with the phase's limit; in any other state nothing (R4). -/
def Sequencer.granted (q : Sequencer) : Sequencer :=
  match q.state with
  | .spacing n => { q with state := n.phase, timer := some n.limit }
  | _ => q

/-- The test of local mode at state u (R148): while the supply-low flag is clear and no quiet period runs, requests are
granted from the head up to the room of the window list. Each start takes its own entry into the list, the next request's
notice takes the slot, and no notice is offered. MODEL'S CHOICE (log entry 29): a notice on the line when its request is
granted stays in the slot as a withdrawn one. -/
def State.localTest (u t : State) : Prop :=
  let free := !u.ctl.supplyLow && u.spacing.quiet.isNone
  let k := if free then min u.spacing.waiting.length (u.ctl.setup.spacing - u.spacing.window.length) else 0
  let started := u.spacing.waiting.take k
  let rest := u.spacing.waiting.drop k
  t.spacing = { u.spacing with
    window := u.spacing.window ++ started.map fun r =>
      { station := u.ctl.pair.getD 0, lane := laneCode r.lane, age := 0, life := u.ctl.setup.window * 100 }
    waiting := rest, passed := false
    slot := if k = 0 then u.spacing.slot
      else match u.spacing.slot with
        | some n => if n.onLine then some { n with withdrawn := true } else rest.head?.map StartRequest.notice
        | none => rest.head?.map StartRequest.notice } ∧
    ∀ l, t.seq l = if ∃ r ∈ started, r.lane = l then (u.seq l).granted else u.seq l

/-- The spacing unit once the lane's start request is withdrawn, out of local mode (R146): a notice on the line runs on,
withdrawn; one that waits in the slot gives way to the next request's, and the check is made. -/
def State.withdrawn (s : State) (l : LaneId) : Spacing :=
  let rest := s.spacing.waiting.filter fun r => r.lane != l
  let left := { s.spacing with waiting := rest }
  match s.spacing.slot with
  | some n =>
    if n.lane ≠ l ∨ n.withdrawn = true then left
    else if n.onLine then { left with slot := some { n with withdrawn := true } }
    else { left with slot := rest.head?.map StartRequest.notice, passed := !rest.isEmpty && s.startRoom }
  | none => left

/-- The spacing unit as its rules keep it: each lane waits at most once, and the spacing limit lies in its range (R140,
R184). -/
def State.startsSound (s : State) : Prop := s.spacing.waiting.length ≤ 2 ∧ s.ctl.setup.spacing ≤ 8

/-- The first reply to a request (R178). -/
def firstReply (m : Msg) (n : ReqName) (r : Result) (d : ReplyData) : Payload :=
  .reply { req := n, tag := m.tag.toNat, deferred := false, result := r, data := d }

/-- A deferred reply (R178). -/
def laterReply (tag : Nat) (n : ReqName) (r : Result) (d : ReplyData) : Payload :=
  .reply { req := n, tag := tag, deferred := true, result := r, data := d }

/-- The queue takes n more frames without discarding one (R173). -/
abbrev State.room (s : State) (n : Nat) : Prop := s.link.queue.length + n ≤ Config.queueCap

/-- Frames made are queued: the station is not mute (R182), and the queue takes n more (R173). -/
abbrev State.sends (s : State) (n : Nat) : Prop := s.ctl.pair.isSome = true ∧ s.room n

/-- The link controller after a frame accepted at one of the station's addresses (R170): the line is taken, the
acknowledgement slot is driven; the outbound queue is another matter. -/
def State.acked (s t : State) : Prop :=
  t.link = { s.link with queue := t.link.queue, lineIdle := false, ack := true, response := none }

/-- The request was acknowledged, and its one reply was placed in the queue (R170, R178). -/
def State.answered (s t : State) (m : Msg) (n : ReqName) (r : Result) (d : ReplyData) : Prop :=
  placed { dest := m.sender.toNat, payload := firstReply m n r d, mark := .none, onLine := false } s.link.queue
    t.link.queue ∧ s.acked t

/-- The command jams the return, and why: a BALL that finds six records while the return is RUNNING, RACK_FULL or PURGING
(R89), an overdue head record (R93), a sample at or above the stall level (R95). -/
def jamCause (c : Instr) (s : State) : Option JamReason :=
  match c with
  | .ball _ =>
    if 6 ≤ s.ret.transit.length ∧ (s.ret.state = .running ∨ s.ret.state = .rackFull ∨ s.ret.state = .purging) then
      some .overfill
    else none
  | .transitOverdue => if s.ret.state = .running ∧ s.ret.transit ≠ [] then some .overdue else none
  | .liftCurrentSample v =>
    if (s.ret.state = .running ∨ s.ret.state = .purging) ∧ s.ctl.setup.stall ≤ v.toNat then some .stall else none
  | _ => none

/-- Why a move fails without parking the session (R158, R163): the step, and the reason of a DECLINE. -/
def moveFailure (c : Instr) (s : State) : Option (MoveStep × Option AnswerReason) :=
  match s.transfer.record with
  | .source st (some tag) peer _ _ _ _ =>
    let declined := fun m : Msg =>
      if s.ctl.pair = some m.dest.toNat ∧ m.sender.toNat = peer ∧ m.tag.toNat = tag then
        match m.args with
        | result :: reason :: _ => if result = 1#8 then answerReasonOf reason.toNat else none
        | _ => none
      else none
    match c, st with
    | .sourceStepTimeout, .offered => some (.offer, none)
    | .sourceStepTimeout, .sending (.ident i) => some (.ident i, none)
    | .sourceStepTimeout, .sending (.balls i) => some (.balls i, none)
    | .answer m, .offered => (declined m).map fun r => (.offer, some r)
    | .answer m, .committed => (declined m).map fun r => (.commit, some r)
    | .transferDone m true, .committed => (declined m).map fun r => (.commit, some r)
    | _, _ => none
  | _ => none

/-! ## Requests -/

/-- A request that a command carries: its name and its frame. UNKNOWN_REQUEST has none. -/
def requestOf : Instr → Option (ReqName × Msg)
  | .hold m => some (.hold, m)
  | .release m => some (.release, m)
  | .setHoldMode m => some (.setHoldMode, m)
  | .laneReset m => some (.laneReset, m)
  | .clearFault m => some (.clearFault, m)
  | .calibrate m => some (.calibrate, m)
  | .clearJam m => some (.clearJam, m)
  | .setGroup m => some (.setGroup, m)
  | .setCensusSilent m => some (.setCensusSilent, m)
  | .stationReset m => some (.stationReset, m)
  | .startSession m => some (.startSession, m)
  | .addBowler m => some (.addBowler, m)
  | .beginSession m => some (.beginSession, m)
  | .setHandicap m => some (.setHandicap, m)
  | .setAbsent m => some (.setAbsent, m)
  | .endSession m => some (.endSession, m)
  | .correctFrame m => some (.correctFrame, m)
  | .moveSession m => some (.moveSession, m)
  | .resumeParked m => some (.resumeParked, m)
  | .discardParked m => some (.discardParked, m)
  | .openLane m => some (.openLane, m)
  | .closeLane m => some (.closeLane, m)
  | .addCredit m => some (.addCredit, m)
  | .tariffBand m => some (.tariffBand, m)
  | .tariffCommit m => some (.tariffCommit, m)
  | .releaseJournal m => some (.releaseJournal, m)
  | .archiveClear m => some (.archiveClear, m)
  | .laneStatus m => some (.laneStatus, m)
  | .stationStatus m => some (.stationStatus, m)
  | .session m => some (.session, m)
  | .game m => some (.game, m)
  | .calibration m => some (.calibration, m)
  | .journal m => some (.journal, m)
  | .archive m => some (.archive, m)
  | .resetCause m => some (.resetCause, m)
  | _ => none

/-- The command a request is. -/
def ReqName.command (m : Msg) : ReqName → Option Instr
  | .hold => some (.hold m)
  | .release => some (.release m)
  | .setHoldMode => some (.setHoldMode m)
  | .laneReset => some (.laneReset m)
  | .clearFault => some (.clearFault m)
  | .calibrate => some (.calibrate m)
  | .clearJam => some (.clearJam m)
  | .setGroup => some (.setGroup m)
  | .setCensusSilent => some (.setCensusSilent m)
  | .stationReset => some (.stationReset m)
  | .startSession => some (.startSession m)
  | .addBowler => some (.addBowler m)
  | .beginSession => some (.beginSession m)
  | .setHandicap => some (.setHandicap m)
  | .setAbsent => some (.setAbsent m)
  | .endSession => some (.endSession m)
  | .correctFrame => some (.correctFrame m)
  | .moveSession => some (.moveSession m)
  | .resumeParked => some (.resumeParked m)
  | .discardParked => some (.discardParked m)
  | .openLane => some (.openLane m)
  | .closeLane => some (.closeLane m)
  | .addCredit => some (.addCredit m)
  | .tariffBand => some (.tariffBand m)
  | .tariffCommit => some (.tariffCommit m)
  | .releaseJournal => some (.releaseJournal m)
  | .archiveClear => some (.archiveClear m)
  | .laneStatus => some (.laneStatus m)
  | .stationStatus => some (.stationStatus m)
  | .session => some (.session m)
  | .game => some (.game m)
  | .calibration => some (.calibration m)
  | .journal => some (.journal m)
  | .archive => some (.archive m)
  | .resetCause => some (.resetCause m)
  | .setup | .unknown _ => none

/-- The command a well-formed frame spells by its class (R168, R172), its first payload bytes (R175, R192) and its length;
none for the classes that are acknowledged only, for a request or a transfer frame shorter than two bytes, and for an
unknown transfer kind (R194). -/
def commandOf (f : RawFrame) : Option Instr :=
  let b : Bare := { sender := f.sender, dest := f.dest, payload := f.payload }
  let request := fun c : ReqClass =>
    match f.payload with
    | code :: tag :: args =>
      let m : Msg := { sender := f.sender, dest := f.dest, tag := tag, args := args }
      match reqOf c code.toNat with
      | some name => name.command m
      | none => some (.unknownRequest c code m)
    | _ => none
  match f.cls.toNat with
  | 0 => some (.startNoticeReceived true b)
  | 1 => some (.census b)
  | 2 => some (.startNoticeReceived false b)
  | 4 =>
    match f.payload with
    | kind :: tag :: args =>
      let m : Msg := { sender := f.sender, dest := f.dest, tag := tag, args := args }
      match kind.toNat with
      | 0 => some (.offer m)
      | 1 => some (.answer m)
      | 2 => some (.ident m)
      | 3 => some (.balls m)
      | 4 => some (.commit m)
      | 5 => some (.transferDone m false)
      | _ => none
    | _ => none
  | 5 => some (.time b)
  | 6 => some (if f.payload.isEmpty then .setupRequest b else .setupAnswer b)
  | 7 => request .lane
  | 8 => request .session
  | 9 => request .billing
  | 10 => request .report
  | _ => none

/-- The bytes of a request's payload, after code and tag, up to the end of its last required field (R194), by the widths of
log entry 18; CALIBRATE has a step in SINGLE_STEP mode. -/
def ReqName.needs (args : List Byte) : ReqName → Nat
  | .clearJam | .stationReset | .archiveClear | .resetCause | .setup | .unknown _ => 0
  | .release | .clearFault | .setGroup | .setCensusSilent | .beginSession | .endSession | .resumeParked | .discardParked
  | .laneStatus | .stationStatus => 1
  | .hold | .setHoldMode | .laneReset | .closeLane | .calibration | .archive => 2
  | .calibrate => if args[1]? = some 1#8 then 3 else 2
  | .setAbsent | .correctFrame | .tariffCommit | .session | .game => 3
  | .addBowler | .setHandicap | .moveSession | .addCredit | .releaseJournal => 4
  | .startSession | .journal => 5
  | .openLane | .tariffBand => 7

/-- The request is one of the eight reports (R181). -/
def isReport : ReqName → Bool
  | .laneStatus | .stationStatus | .session | .game | .calibration | .journal | .resetCause | .archive => true
  | _ => false

/-- A request frame to the pair address from a sender that may make the request, taken by a station that is not held in
reset (R176, R177). -/
abbrev State.reaches (s : State) (m : Msg) (n : ReqName) : Prop :=
  s.running = true ∧ s.ctl.pair = some m.dest.toNat ∧
    n.access.permits (senderKind m.dest.toNat m.sender.toNat) = true

/-- The request is refused NOT_PERMITTED from any sender but a desk, and changes nothing but the line and the queue (R177).
-/
def State.refusedButDesk (s : State) (c : Instr) (m : Msg) (n : ReqName) : Prop :=
  s.running = true → s.ctl.pair = some m.dest.toNat → ¬ (240 ≤ m.sender.toNat ∧ m.sender.toNat ≤ 247) →
    ∃ t, exec c s = .next t ∧ t = { s with link := t.link } ∧ s.answered t m n (.refused .notPermitted) .none

/-! ## Holds that end and turns that start -/

/-- A lane with the hold set h: held at its rack position with no reason left there, it enters ARMED (R13, R15). -/
def Sequencer.letGo (q : Sequencer) (h : HoldSet) : Sequencer :=
  match q.state with
  | .held (.rack b) =>
    if (b && h.frameEnd) || h.desk || h.credit || h.journal || h.ret then { q with holds := h }
    else { q with holds := h, state := .armed, timer := none }
  | _ => { q with holds := h }

/-- A lane whose meter is told that no turn is outstanding there: CREDIT and JOURNAL go (R73, R116). -/
def Sequencer.withoutWait (q : Sequencer) : Sequencer := q.letGo { q.holds with credit := false, journal := false }

/-- The turn start of session x's bowler b, with index i and game g, on lane l (R81), the lane, its meter and the table being
as in u before it. The meter's answer is R116's: HOLD_JOURNAL and HOLD_CREDIT write the admission wait and hold the lane at its rack
position; ADMIT makes the game charge that is owed (R115), with CREDIT_LOW when it takes a prepaid balance below the level
(R114), and the turn is ACTIVE. The console is shown the turn with the answer. -/
def State.turnStarts (u t : State) (l : LaneId) (x : Session) (i : Nat) (b : Bowler) (g : Game) (p : GamePos) : Prop :=
  let m := u.meter l
  let charge := (u.gameBand.2 * (100 - x.discount) + 50) / 100
  let owes := m.mode = .game ∧ p.frame = 1 ∧ g.charged = false
  let room := openLanes u.meters + 1 ≤ u.store.freeCount
  let noJournal := owes ∧ ¬ room
  let put := fun y : Session => u.sessions.map fun z => if z.id = x.id then y else z
  let noCredit := (owes ∧ room ∧ m.prepaid = true ∧ m.balance < charge) ∨
    (m.mode = .time ∧ m.prepaid = true ∧ m.balance ≤ 0)
  let held := fun r : WaitReason =>
    t.meter l = { m with wait := some (AdmissionWait.mk r x.id i p.number p.frame x.discount
      (if m.mode = .game then some (charge, u.gameBand.1) else none)) } ∧
    t.sessions = u.sessions ∧ t.store = u.store
  let shown := fun a : Admission => t.queued (64 + u.ctl.pair.getD 0) (.display (.turn (displayHead x i b g p) a))
  (noJournal → held .journal ∧ (t.seq l).state = .held (.rack false) ∧
    (t.seq l).holds = { (u.seq l).holds with journal := true } ∧ shown .holdJournal) ∧
  (noCredit → held .credit ∧ (t.seq l).state = .held (.rack false) ∧
    (t.seq l).holds = { (u.seq l).holds with credit := true } ∧ shown .holdCredit) ∧
  (¬ noJournal → ¬ noCredit →
    (t.seq l).state = .armed ∧ (t.seq l).foul = false ∧ (t.seq l).holds = (u.seq l).holds ∧ shown .admitted ∧
    (owes →
      t.meter l = { m with
        wait := none, balance := if m.prepaid then m.balance - charge else m.balance
        total := min 99999999 (m.total + charge), games := min 65535 (m.games + 1)
        subtotals := addSubtotal u.gameBand.1 0 charge m.subtotals } ∧
      t.sessions = put { x.modifyGame i (fun y => { y with charged := true }) with turn := .active } ∧
      t.store = { u.store with
        lastSeq := u.store.lastSeq + 1
        journal := u.store.journal ++ [{ seq := u.store.lastSeq + 1, lane := l, time := u.ctl.clock
                                         body := .game x.id i p.number u.gameBand.1 u.gameBand.2
                                           (if x.discount = 0 then none else some x.discount) charge }] } ∧
      (m.prepaid = true → (u.ctl.setup.low : Int) ≤ m.balance → m.balance - charge < u.ctl.setup.low →
        t.queued 255 (.notice (.creditLow l (m.balance - charge))))) ∧
    (¬ owes → t.meter l = { m with wait := none } ∧ t.sessions = put { x with turn := .active } ∧ t.store = u.store))

/-- The retry of the lane's wait passes (R118), u being the state before it: the wait and its reason go, which leaves the
hold set h. The lane stays as it is, or it enters ARMED, where the turn OUTSTANDING of the one session on it starts again. -/
def State.retried (u t : State) (l : LaneId) (h : HoldSet) : Prop :=
  let v := { u with
    seqs := u.seqs.set l ((u.seq l).letGo h), meters := u.meters.set l { u.meter l with wait := none } }
  let enters := (u.seq l).state ≠ .armed ∧ (v.seq l).state = .armed
  (¬ enters → t = { v with link := t.link }) ∧
  (enters → (u.sessions.map (·.id)).Nodup → ∀ x ∈ u.sessions, x.state = .playing → x.turn = .outstanding →
    ∀ p, x.pos = some p → p.lane = l →
    (∀ y ∈ u.sessions, y.id ≠ x.id → y.frameLane ≠ some l ∧ ∀ r, y.state ≠ .suspended r) →
    ∀ i, x.current = some i → ∀ b, x.bowler? i = some b → ∀ g, b.game = some g →
    t = { v with
      seqs := v.seqs.set l (t.seq l), meters := v.meters.set l (t.meter l), sessions := t.sessions, store := t.store
      link := t.link } ∧
    t.seq l = { v.seq l with
      holds := (t.seq l).holds, state := (t.seq l).state, foul := (t.seq l).foul } ∧
    v.turnStarts t l x i b g p)

/-! ## Cycles that end in ARMED -/

/-- A SET_DONE of the lane ends its cycle in ARMED: the lane is open and in SETTING, and no hold reason applies at the rack
position it comes to (R7). -/
def State.cycleArms (s : State) (l : LaneId) : Prop :=
  s.running = true ∧ (s.seq l).state = .setting ∧ (s.meter l).isOpen = true ∧ (s.seq l).mode ≠ .frameEnd ∧
    ∃ c, (s.seq l).cycle = some c ∧ (s.seq l).holds.appliesAt (.rack c.frameEnd) = false

/-- The bowlers at places lo + 1 to hi are passed over: each receives a blank frame f where it has none (R57, R76). -/
def blanks (f lo hi : Nat) (bs : List Bowler) : List Bowler :=
  bs.mapIdx fun i b => if lo ≤ i ∧ i < hi then { b with game := b.game.map fun g => g.blank f } else b

/-- How many bowlers stand before the first one from place k + 1 on who is not absent; all of them when there is none
(R76). -/
def firstPresent (k : Nat) (bs : List Bowler) : Nat := k + (bs.drop k).findIdx fun b => !b.absent

/-- A session that has entered the frame of p, with its turn selection made (R76, R77) and, on a lane that is ARMED and does
not charge, its turn started (R81). A cross session that is idle there has finished the frame at once and waits; another one
that is idle stays without a turn. -/
def Session.entered (armed : LaneId → Bool) (p : GamePos) (z : Session) : Session :=
  let j := firstPresent 0 z.bowlers
  if j < z.bowlers.length then
    { z with
      state := .playing, pos := some p, turn := if armed p.lane then .active else .outstanding, current := some (j + 1)
      bowlers := blanks p.frame 0 j z.bowlers }
  else if z.cross then
    { z with
      state := .waitPartner (.frame p.frame), pos := some p, turn := .none, current := none
      bowlers := blanks p.frame 0 j z.bowlers }
  else { z with state := .playing, pos := some p, turn := .none, current := none }

/-- The lane on which a cross session bowls frame f (R65). -/
def Session.crossLane (z : Session) (f : Nat) : LaneId := if f % 2 = 0 then other z.home else z.home

/-- New game records for every bowler, the game to begin on the home lane (R66, R70, R80). -/
def Session.withGames (n : Nat) (z : Session) : Session :=
  { z with bowlers := z.bowlers.map fun b =>
      { b with game := some (Game.fresh b.name b.handicap n), first := ballLane z.home } }

/-- The session enters frame 1 of game n (R70, R80). -/
def Session.begun (armed : LaneId → Bool) (n : Nat) (z : Session) : Session :=
  (z.withGames n).entered armed { number := n, frame := 1, lane := z.home }

/-- A session un-crossed, by its position (R79). -/
def Session.uncrossed (armed : LaneId → Bool) (z : Session) : Session :=
  let y := { z with cross := false }
  match z.state, z.pos with
  | .waitPartner .start, _ => y.begun armed 1
  | .waitPartner (.frame f), some p => y.entered armed { p with frame := f + 1, lane := z.home }
  | _, _ => y

/-- The games that leave with a session, each with its bowler: those that are COMPLETE or hold a ball (R73). -/
def Session.handedOver (x : Session) : List Game :=
  x.bowlers.filterMap fun b => b.game.filter fun g => g.status == .complete || !g.balls.isEmpty

/-- The pinfalls of an ended frame f that holds a ball: the shapes of R49 and R50, every rack's sum at most 10 (R61, R161). -/
def endedPins (f : Nat) : List Nat → Bool
  | [b1] => f < 10 && b1 == 10
  | [b1, b2] => b1 ≤ 9 && b1 + b2 ≤ (if f < 10 then 10 else 9)
  | [b1, b2, b3] => f == 10 &&
      (if b1 = 10 then b2 == 10 && b3 ≤ 10 || b2 + b3 ≤ 10 else b1 ≤ 9 && b1 + b2 == 10 && b3 ≤ 10)
  | _ => false

/-! ## Invariants -/

/-- The outbound queue holds at most twelve frames, ordered by class (R173). -/
def queueSound (q : List QueuedFrame) : Prop :=
  q.length ≤ 12 ∧ q.Pairwise fun f g => f.payload.cls ≤ g.payload.cls

/-- A meter record within its ranges; a lane that is not prepaid has balance 0; the subtotal map in ascending band index
(R103, R113). -/
def meterSound (m : Meter) : Prop :=
  -50000 ≤ m.balance ∧ m.balance ≤ 2000000 ∧ (m.prepaid = false → m.balance = 0) ∧ m.residue ≤ 3599 ∧
    m.total ≤ 99999999 ∧ m.paused ≤ 99999999 ∧ m.games ≤ 65535 ∧
    (m.subtotals.map (·.band)).Pairwise (· < ·) ∧ ∀ e ∈ m.subtotals, e.seconds ≤ 99999999 ∧ e.amount ≤ 99999999

/-- The journal within its capacity, in strictly ascending sequence up to the last sequence (R125, R127, R129). -/
def journalSound (t : Store) : Prop :=
  8 ≤ t.share ∧ t.share ≤ 48 ∧ t.journal.length ≤ 8 * t.share ∧ t.lastSeq ≤ 4294967295 ∧
    (t.journal.map (·.seq)).Pairwise (· < ·) ∧ ∀ e ∈ t.journal, 1 ≤ e.seq ∧ e.seq ≤ t.lastSeq

/-- A setup record within its ranges, the stall level above the strain level or both 255 (R95, R184). -/
def setupSound (u : Setup) : Prop :=
  1 ≤ u.spacing ∧ u.spacing ≤ 8 ∧ 5 ≤ u.window ∧ u.window ≤ 50 ∧ 5 ≤ u.settle ∧ u.settle ≤ 40 ∧ 4 ≤ u.transit ∧
    u.transit ≤ 30 ∧ 8 ≤ u.share ∧ u.share ≤ 48 ∧ u.low ≤ 65535 ∧ u.strain ≤ 255 ∧ u.stall ≤ 255 ∧
    (u.strain < u.stall ∨ u.strain = 255 ∧ u.stall = 255)

/-- The money of the station: both meters, the journal, and the law that the free count never falls below the number of
open lanes (R130). -/
def moneySound (s : State) : Prop :=
  meterSound s.meters.a ∧ meterSound s.meters.b ∧ journalSound s.store ∧ setupSound s.ctl.setup ∧
    openLanes s.meters ≤ s.store.freeCount

/-- Lists within their capacities: window list, transit list with its ages, purge count, archive (R88, R125, R140). -/
def listsSound (s : State) : Prop :=
  s.spacing.window.length ≤ 16 ∧ s.ret.transit.length ≤ 6 ∧ (∀ b ∈ s.ret.transit, b.age ≤ 300) ∧
    (∀ n ∈ s.ret.purgeCount, n ≤ 6) ∧ s.store.archive.length ≤ 4 * (64 - s.store.share) ∧ 8 ≤ s.store.share ∧
    s.store.share ≤ 48 ∧ setupSound s.ctl.setup

/-- Numbers within their ranges: station time, warm reset count, group, pair address, last tag, next id, next serial
(00_scope 4.2, R67, R125, R154, R180, R183). -/
def numbersSound (s : State) : Prop :=
  (∀ c ∈ s.ctl.clock, c.day ≤ 6 ∧ c.second ≤ 86399) ∧ s.ctl.warmCount ≤ 255 ∧ s.link.group ≤ 32 ∧
    (∀ p ∈ s.ctl.pair, 1 ≤ p ∧ p ≤ 60) ∧ s.transfer.lastTag ≤ 255 ∧ 1 ≤ s.nextId ∧ s.nextId ≤ 255 ∧
    1 ≤ s.store.nextSerial ∧ s.store.nextSerial ≤ 65535

/-- The session table holds at most two records, a lane reserved by an accepted transfer counting as one; ids are distinct
and within 1..255; no bowler list is longer than the bowler count, 1..6 (R65, R68). -/
def tableSound (s : State) : Prop :=
  s.tableCount ≤ 2 ∧ (s.sessions.map (·.id)).Nodup ∧
    (∀ x ∈ s.sessions, 1 ≤ x.id ∧ x.id ≤ 255 ∧ 1 ≤ x.size ∧ x.size ≤ 6 ∧ x.bowlers.length ≤ x.size) ∧
    1 ≤ s.nextId ∧ s.nextId ≤ 255 ∧ (∀ r tag peer o parts bad n, s.transfer.record = .target r tag peer o parts bad n →
      1 ≤ o.size ∧ o.size ≤ 6 ∧ parts.length = o.size)

/-- What the rules say of a game record's marks, scores and cumulatives: ten slots; a mark by the frame's balls (R49, R50);
a frame's own pins with the bonus its mark earns from the balls of later frames, absent while they are too few and the game
is not COMPLETE (R51, R56); cumulatives up to the first score that is absent (R52); the totals (R52, R56). -/
def Game.scored (g : Game) : Prop :=
  let later := fun f => (List.range' (f + 1) (10 - f)).flatMap g.ballsOf
  let score := fun f => (g.slot f).bind (·.score)
  let bonus := fun k f =>
    if g.status = .complete ∨ k ≤ (later f).length then some (10 + pinSum ((later f).take k)) else none
  g.frames.length = 10 ∧
    (∀ f, 1 ≤ f → f ≤ 10 → ∀ r, g.slot f = some r →
      r.mark = markOf f r.balls ∧
      (r.mark = .incomplete → r.score = none) ∧
      (r.mark = .opened ∨ r.mark ≠ .incomplete ∧ f = 10 → r.score = some (pinSum r.balls)) ∧
      (r.mark = .strike → f < 10 → r.score = bonus 2 f) ∧
      (r.mark = .spare → f < 10 → r.score = bonus 1 f) ∧
      r.cum = if (List.range' 1 f).all fun k => (score k).isSome then
          some ((List.range' 1 f).map fun k => (score k).getD 0).sum
        else none) ∧
    g.total = ((List.range' 1 10).filterMap fun f => (g.slot f).bind (·.cum)).getLastD 0 + g.handicap ∧
    g.scratch = if g.status = .complete then (g.slot 10).bind (·.cum) else none

/-- Every game of the session table is scored as the rules say; an offer taken names a frame of a game, 1..10 (R157). -/
def gamesSound (s : State) : Prop :=
  (∀ x ∈ s.sessions, ∀ b ∈ x.bowlers, ∀ g, b.game = some g → g.scored) ∧
    ∀ r tag peer o parts bad n, s.transfer.record = .target r tag peer o parts bad n → o.frame ≤ 10

/-- The barrier of a session that waits for its partner, or was suspended while it waited (R65). -/
def SessionState.waitsAt : SessionState → Option Barrier
  | .waitPartner b => some b
  | .suspended (.waitPartner b) => some b
  | _ => none

/-- The session has no game yet: FORMING, or waiting at barrier BEGIN, suspended or not (R65, R70). -/
def SessionState.before : SessionState → Bool
  | .forming | .waitPartner .start | .suspended .forming | .suspended (.waitPartner .start) => true
  | _ => false

/-- A cross session (R65, R67, R78): it is in no transfer and not PARKED; it has a game exactly when it is no longer before
one; its frame lies in 1..10 and its frame lane goes by parity; a barrier f is the frame it is in. -/
def Session.crossSound (x : Session) : Prop :=
  x.state ≠ .waitMove ∧ (∀ p, x.state ≠ .moving p) ∧ x.state ≠ .parked ∧ (x.state.before = true ↔ x.pos = none) ∧
    ∀ p, x.pos = some p → 1 ≤ p.frame ∧ p.frame ≤ 10 ∧ p.lane = x.crossLane p.frame ∧
      ∀ f, x.state.waitsAt = some (.frame f) → f = p.frame

/-- The pairs of the station (R67, R68, R78): two sessions that are not PARKED have different home lanes and are crossed
both or neither; a crossed pair is in the same frame of the same game, on different frame lanes, and a cross session in a
game has its partner. Only a cross session waits for one. A session in transfer is the one the transfer record names, and is
not crossed (R155); a reserved lane is no such session's home (R157). -/
def pairsSound (s : State) : Prop :=
  tableSound s ∧
    (∀ x ∈ s.sessions, ∀ y ∈ s.sessions, x.id ≠ y.id → x.state ≠ .parked → y.state ≠ .parked →
      x.home ≠ y.home ∧ x.cross = y.cross ∧
      (x.cross = true → x.pos.map (fun p => (p.number, p.frame)) = y.pos.map (fun p => (p.number, p.frame)) ∧
        ∀ p q, x.pos = some p → y.pos = some q → p.lane ≠ q.lane)) ∧
    (∀ x ∈ s.sessions,
      (x.cross = true → x.crossSound ∧
        (x.pos ≠ none → ∃ y ∈ s.sessions, y.id ≠ x.id ∧ y.cross = true ∧ y.home = other x.home)) ∧
      ((∃ b, x.state = .waitPartner b) → x.cross = true) ∧
      (x.state = .waitMove ∨ (∃ p, x.state = .moving p) →
        ∃ st tag peer lane req timer, s.transfer.record = .source st tag peer lane x.id req timer) ∧
      (∀ l, s.reserved = some l → x.state ≠ .parked → x.home ≠ l)) ∧
    ∀ st tag peer lane sid req timer, s.transfer.record = .source st tag peer lane sid req timer →
      ∃ x ∈ s.sessions, x.id = sid ∧ x.cross = false ∧ (x.state = .waitMove ∨ ∃ p, x.state = .moving p)

end Sys2Proof.Machine
end

