-- ==== Sys2Proof/Certificates/Slice0/Obligations.lean ====
section
/-! DEFINITION. The statements for the provers. An event is taken by a station that is not held in reset
(`State.running`); after it a transmission may begin, so a statement says that frames and notices are the same,
transmissions apart (`State.quiet`). Each statement names the blocks that may change by a record update of the state
before: every other block is unchanged. -/

open Sys2Proof Sys2Proof.Machine

/-! ## The machine -/

/-- A step with a command at the front of the queue is that command on the state with the queue's rest. -/
def Obligations.StepRunsFront : Prop :=
  ∀ (s : State) (c : Instr) (rest : List Instr), s.pending = c :: rest → step s = exec c (s.setPending rest)

/-- Every command answers a next state, whatever the state, and leaves the waiting commands as they are. -/
def Obligations.EveryCommandCompletes : Prop :=
  ∀ (c : Instr) (s : State), ∃ t, exec c s = .next t ∧ t.pending = s.pending

/-- MODEL'S CHOICE (log entry 6): with no command waiting, a tenth of a second passes. Every running timer is 100 ms lower,
the step timer of a transfer record among them, the rest of which stays; a window entry is 100 ms older, up to its life, and
a lane in SPACING has waited 100 ms more; the head record of a RUNNING return is a tenth older up to the transit limit
(R93), and nothing else changes. -/
def Obligations.TenthPasses : Prop :=
  ∀ s : State, s.pending = [] → s.running = true →
    ∃ t, step s = .next t ∧
      t = { s with
        seqs := t.seqs, ret := t.ret, spacing := t.spacing, ctl := t.ctl
        transfer := { s.transfer with record := t.transfer.record } } ∧
      (∀ l, t.seq l = { s.seq l with timer := (s.seq l).timer.map (· - 100) }) ∧
      t.ret = { s.ret with
        transit := t.ret.transit, runOn := s.ret.runOn.map (· - 100), purge := s.ret.purge.map (· - 100) } ∧
      (s.ret.state ≠ .running → t.ret.transit = s.ret.transit) ∧
      (s.ret.state = .running →
        t.ret.transit = match s.ret.transit with
          | [] => []
          | b :: rest =>
            { b with age := if b.age < 10 * s.ctl.setup.transit then b.age + 1 else b.age } :: rest) ∧
      t.spacing = { s.spacing with
        window := s.spacing.window.map fun e => { e with age := min e.life (e.age + 100) }
        waiting := s.spacing.waiting.map fun r => { r with waited := r.waited + 100 }
        quiet := s.spacing.quiet.map (· - 100), idle := s.spacing.idle - 100 } ∧
      t.transfer.record = (match s.transfer.record with
        | .idle => .idle
        | .source st tag peer lane sid req timer => .source st tag peer lane sid req (timer.map (· - 100))
        | .target r tag peer o parts bad n => .target r tag peer o parts bad (n - 100)) ∧
      t.ctl = { s.ctl with
        setupWait := s.ctl.setupWait.map (· - 100), answers := s.ctl.answers.map fun e => (e.1, e.2 - 100)
        resetDue := s.ctl.resetDue.map (· - 100) }

/-- The state after reset meets every invariant, and no command waits in it. -/
def Obligations.ResetSound : Prop :=
  State.reset.pending = [] ∧ queueSound State.reset.link.queue ∧ moneySound State.reset ∧ listsSound State.reset ∧
    numbersSound State.reset ∧ tableSound State.reset ∧ pairsSound State.reset ∧ gamesSound State.reset

/-- The outbound queue keeps at most twelve frames, in the order of their classes (R173). -/
def Obligations.QueueKept : Prop :=
  ∀ s : State, queueSound s.link.queue → ∀ t, step s = .next t → queueSound t.link.queue

/-- The meters and the journal stay within their ranges, the journal stays in sequence, and the free count never falls below
the number of open lanes (R103, R113, R127, R130). -/
def Obligations.MoneyKept : Prop := ∀ s : State, moneySound s → ∀ t, step s = .next t → moneySound t

/-- The window list, the transit list and the archive stay within their capacities, and counters within their ranges. -/
def Obligations.ListsKept : Prop :=
  ∀ s : State, listsSound s ∧ numbersSound s → ∀ t, step s = .next t → listsSound t ∧ numbersSound t

/-- The session table keeps at most two records, a reserved lane counted, with distinct ids (R65, R68, R157). -/
def Obligations.TableKept : Prop := ∀ s : State, tableSound s → ∀ t, step s = .next t → tableSound t

/-- The lockstep of the pair, kept by every step (R78): crossed sessions are in the same frame of the same game, on
different lanes, and a cross session in a game has its partner; a session in transfer is the one the transfer record names,
and is never a crossed one (R155). -/
def Obligations.PairsKept : Prop := ∀ s : State, pairsSound s → ∀ t, step s = .next t → pairsSound t

/-- Every step leaves every game of the session table scored as the rules say: its marks follow from its balls (R49, R50), a
frame's score is its pins and the bonus its mark earns from the balls of later frames, present from the event that makes the
last of them, or at the game's end (R51, R56), and the cumulatives, the known cumulative in the handicap total and the
scratch total follow from the scores (R52). -/
def Obligations.GamesKept : Prop := ∀ s : State, gamesSound s → ∀ t, step s = .next t → gamesSound t

/-! ## Lanes -/

/-- BALL: in ARMED it begins a ball cycle (R3), in any other state it is a stray ball (R8, R37), whatever the return does
with it. One that finds room on the transit list is taken by the return in every state (R89). One that finds six records is
not recorded: a return that is JAMMED stays as it is, with no notice; RUNNING, RACK_FULL or PURGING jams, and RETURN joins
the lane's hold set (R96; StrainAndJams says the rest). MODEL'S CHOICE (log entry 55): of two sessions current on one lane,
the one that stands first in the table. -/
def Obligations.BallTaken : Prop :=
  ∀ (l : LaneId) (s : State), s.running = true →
    (let jams := (jamCause (.ball l) s).isSome
     let holds := if jams then { (s.seq l).holds with ret := true } else (s.seq l).holds
     let laneOnly := fun t : State => t = { s with
       seqs := s.seqs.set l (t.seq l), decks := s.decks.set l (t.deck l), ret := t.ret, link := t.link
       spacing := t.spacing }
     let bowls := fun t : State =>
       ((s.seq l).state = .armed →
         t.deck l = s.deck l ∧
         t.seq l = { s.seq l with
           state := .settling, foul := false, timer := some (s.ctl.setup.settle * 100), holds := holds
           cycle := some { kind := .full, read := true, origin := .ball, restart := 0, frameEnd := false
                           ball := some { bowler := s.currentBowler l, foul := (s.seq l).foul } } }) ∧
       ((s.seq l).state ≠ .armed →
         t.seq l = { s.seq l with stray := true, holds := holds } ∧
         t.deck l = if (s.seq l).state.inCalibration then
             { s.deck l with cal := { (s.deck l).cal with stray := true } }
           else s.deck l)
     (s.ret.transit.length < 6 →
       ∃ t, exec (.ball l) s = .next t ∧ s.quiet t ∧ laneOnly t ∧ bowls t ∧
         t.ret.transit = s.ret.transit ++ [{ origin := l, arrival := s.ctl.clock.map (·.second), age := 0 }] ∧
         (s.ret.state = .idle → t.ret = { s.ret with
           transit := t.ret.transit, state := if s.ret.rackFull then .rackFull else .running, runOn := none }) ∧
         (s.ret.state = .running → t.ret = { s.ret with transit := t.ret.transit, runOn := none }) ∧
         (s.ret.state ≠ .idle → s.ret.state ≠ .running → t.ret = { s.ret with transit := t.ret.transit })) ∧
     (6 ≤ s.ret.transit.length →
       (∀ r, s.ret.state = .jammed r →
         ∃ t, exec (.ball l) s = .next t ∧ s.quiet t ∧ laneOnly t ∧ bowls t ∧ t.ret = s.ret) ∧
       (jams → ∃ t, exec (.ball l) s = .next t ∧ bowls t ∧ (∀ k, k ≠ l → t.deck k = s.deck k) ∧
         t.ret.transit = s.ret.transit ∧ t.ret.state = .jammed .overfill)))

/-- A FOUL in ARMED with a current bowler sets the foul-pending flag; any other FOUL is ignored (R9). SETTLE_EXPIRY in
SETTLING takes the lane to SPACING for its read, with a start request placed (R3, R4, R141); in local mode the test of R148
may grant it at once. MODEL'S CHOICE (log entry 29): a notice on the line when its request is granted runs to its end as a
withdrawn one. In any other state it does nothing. CLEAR_DONE in CLEARING: the lane enters SETTING with the set limit of 5.0
s, the sweep gives way to the deck drive, and no start request is placed; in any other state it is ignored (R6). Completion
events outside their state are ignored: READ_DONE outside READING and CALIBRATING, SET_DONE outside SETTING, a phase limit
outside the four motor phases (R5, R7, R10, R29). -/
def Obligations.LaneEvents : Prop :=
  (∀ (l : LaneId) (s : State), s.running = true →
     ∃ t, exec (.foul l) s = .next t ∧ s.quiet t ∧
       t = { s with seqs := t.seqs, link := t.link, spacing := t.spacing } ∧
       t.seqs = if (s.seq l).state = .armed ∧ (s.currentBowler l).isSome then
           s.seqs.set l { s.seq l with foul := true }
         else s.seqs) ∧
  (∀ (l : LaneId) (s : State), s.running = true →
     ∃ t, exec (.settleExpiry l) s = .next t ∧
       ((s.seq l).state = .settling →
         t = { s with seqs := t.seqs, link := t.link, spacing := t.spacing } ∧ s.sameFrames t ∧ s.sameLine t ∧
         (let waits := s.seqs.set l { s.seq l with state := .spacing .reading, timer := none }
          let fresh := freshRequest l .reading
          (s.spacing.isLocal = false → t.seqs = waits ∧ s.startPlaced t l .reading) ∧
          (s.spacing.isLocal = true → s.spacing.waiting.length ≤ 1 → s.ctl.setup.spacing ≤ 8 →
            (let list := s.spacing.waiting ++ [fresh]
             let slot := if s.spacing.slot = none then list.head?.map StartRequest.notice else s.spacing.slot
             State.localTest { s with seqs := waits, spacing := { s.spacing with waiting := list, slot := slot } } t)))) ∧
       ((s.seq l).state ≠ .settling → t = { s with link := t.link, spacing := t.spacing } ∧ s.quiet t)) ∧
  (∀ (l : LaneId) (s : State), s.running = true →
     ∃ t, exec (.clearDone l) s = .next t ∧ s.quiet t ∧
       ((s.seq l).state = .clearing →
         t = { s with
           seqs := s.seqs.set l { s.seq l with state := .setting, timer := some 5000 }, link := t.link
           spacing := t.spacing } ∧
         (s.seq l).state.motor = .sweepDrive ∧ (t.seq l).state.motor = .deckDrive) ∧
       ((s.seq l).state ≠ .clearing → t = { s with link := t.link, spacing := t.spacing })) ∧
  (∀ (l : LaneId) (levels : List Nat) (c : Instr) (s : State), s.running = true →
     (c = .readDone l levels ∧ (s.seq l).state ≠ .reading ∧ (s.seq l).state ≠ .calibrating ∨
       c = .setDone l ∧ (s.seq l).state ≠ .setting ∨
       c = .phaseLimitExpiry l ∧ (s.seq l).state ≠ .reading ∧ (s.seq l).state ≠ .clearing ∧
         (s.seq l).state ≠ .setting ∧ (s.seq l).state ≠ .calibrating) →
     ∃ t, exec c s = .next t ∧ s.quiet t ∧ t = { s with link := t.link, spacing := t.spacing })

/-- READ_DONE in READING for a ball that is not scored, or whose bowler is no longer current: the last read is written, the
kind and frame end stay, the ball part goes, and the lane holds or clears (R5, R29). MODEL'S CHOICE (log entry 55): of two
sessions current on one lane, the one that stands first in the table. -/
def Obligations.ReadWithoutResult : Prop :=
  ∀ (l : LaneId) (levels : List Nat) (s : State), s.running = true → (s.seq l).state = .reading →
    ∀ c, (s.seq l).cycle = some c →
    (c.ball.bind (·.bowler) = none ∨ c.ball.bind (·.bowler) ≠ s.currentBowler l) →
    ∃ t, exec (.readDone l levels) s = .next t ∧ s.quiet t ∧
      t = { s with
        seqs := s.seqs.set l (t.seq l), decks := s.decks.set l (t.deck l), link := t.link, spacing := t.spacing } ∧
      t.deck l = { s.deck l with
        last := some { levels := levels, map := (s.deck l).standing levels
                       estimated := (s.deck l).unreadable != noSpots } } ∧
      (t.seq l).holds =
        (if (s.seq l).mode = .eachBall then { (s.seq l).holds with eachBall := true } else (s.seq l).holds) ∧
      t.seq l = { s.seq l with
        cycle := some { c with ball := none }, holds := (t.seq l).holds
        state := if (s.meter l).isOpen ∧ (t.seq l).holds.eachBall then .held .read else .clearing
        timer := if (s.meter l).isOpen ∧ (t.seq l).holds.eachBall then none else some 4000 }

/-- The standing map of a read: spot n stands exactly when it is not marked unreadable and its level is at or above its
threshold (R29). A ball result from its read: the rack of R44, the pinfall counted against it and 0 for a foul (R45, R46),
estimated when the read was or a pin stands off the rack (R45, R47). MODEL'S CHOICE (log entry 40): a foul ball is marked
estimated for such a pin too, where R46 names only the read's own indication. Frames 1 to 9 from their reads (R44, R49,
R54): ball 1 is a strike when it is no foul and leaves no pin; otherwise ball 2 faces the pins it left, or the full rack
after a foul, and the frame ends SPARE or OPEN. The tenth (R44, R50, R54): up to three balls, at a fresh rack after a strike
or a spare. The kind is FULL when the frame has ended, when the next rack is fresh and after a foul; otherwise it is RESPOT
of the rack that the next ball faces. -/
def Obligations.EntriesAndFrames : Prop :=
  (∀ (d : Deck) (levels : List Nat) (n : Nat), n < 10 →
     (onSpot (d.standing levels) n = true ↔
       onSpot d.unreadable n = false ∧ d.thresholds.getD n 0 ≤ levels.getD n 0)) ∧
  (∀ (l : LaneId) (f : Nat) (bs : List BallEntry) (map : SpotMap) (est foul : Bool),
     let e := ballResult l f bs map est foul
     let rack := nextRack f bs
     e.frame = f ∧ e.ball = bs.length + 1 ∧ e.before = some rack ∧ e.after = some map ∧ e.foul = foul ∧
       e.corrected = false ∧ e.supplied = false ∧ e.lane = ballLane l ∧
       (bs = [] → rack = fullRack) ∧
       e.pins = (if foul then 0 else ((List.range 10).filter fun n => onSpot rack n && !onSpot map n).length) ∧
       (e.estimated = true ↔ est = true ∨ ∃ n < 10, onSpot map n = true ∧ onSpot rack n = false)) ∧
  (∀ (f : Nat) (bs : List BallEntry), frameEnded f bs = true ↔ markOf f bs ≠ .incomplete) ∧
  ∀ (l : LaneId) (f : Nat) (m1 m2 m3 : SpotMap) (e1 e2 e3 u1 u2 u3 : Bool),
    (let b1 := ballResult l f [] m1 e1 u1
     let b2 := ballResult l f [b1] m2 e2 u2
     let b3 := ballResult l f [b1, b2] m3 e3 u3
     let strike1 := u1 = false ∧ m1 = noSpots
     let strike2 := u2 = false ∧ m2 = noSpots
     let sum := b1.pins + b2.pins
     let after1 := if u1 = true then CycleKind.full else .respot m1
     let after2 := if u2 = true then CycleKind.full else .respot m2
     (strike1 → b1.pins = 10) ∧ b1.pins ≤ 10 ∧ b2.pins ≤ 10 ∧ b3.pins ≤ 10 ∧ (¬ strike1 → sum ≤ 10) ∧
     markOf f [] = .opened ∧ (¬ strike1 → b2.before = some (if u1 = true then fullRack else m1)) ∧
     (1 ≤ f → f < 10 →
       markOf f [b1] = (if strike1 then .strike else .incomplete) ∧
       cycleKind f [b1] = (if strike1 then .full else after1) ∧
       (¬ strike1 → markOf f [b1, b2] = (if sum = 10 then .spare else .opened) ∧ cycleKind f [b1, b2] = .full)) ∧
     (f = 10 →
       markOf f [b1] = .incomplete ∧ cycleKind f [b1] = (if strike1 then .full else after1) ∧
       (strike1 → b2.before = some fullRack ∧ markOf f [b1, b2] = .incomplete ∧
         cycleKind f [b1, b2] = (if strike2 then .full else after2) ∧
         b3.before = some (if strike2 ∨ u2 = true then fullRack else m2) ∧ (¬ strike2 → b2.pins + b3.pins ≤ 10)) ∧
       (¬ strike1 → cycleKind f [b1, b2] = .full ∧
         markOf f [b1, b2] = (if sum = 10 then .incomplete else .opened) ∧ (sum = 10 → b3.before = some fullRack)) ∧
       (strike1 ∨ sum = 10 →
         markOf f [b1, b2, b3] = (if strike1 then .strike else .spare) ∧ cycleKind f [b1, b2, b3] = .full)))

/-- READ_DONE in READING for a scored ball whose bowler is still current and whose frame has not ended: the ball result is
appended to the frame (R53), the engine's kind and frame end go into the cycle record (R54), a frame end makes the turn
ENDED (R75), a tenth frame's end completes the game (R56), the stray-ball flag is cleared (R5), and the console is shown the
ball (R82). MODEL'S CHOICE (log entry 55): of two sessions current on one lane, the one that stands first in the table. -/
def Obligations.ReadScored : Prop :=
  ∀ (l : LaneId) (levels : List Nat) (s : State), s.running = true → (s.seq l).state = .reading → s.sends 1 →
    ∀ c, (s.seq l).cycle = some c → ∀ a, c.ball = some a → ∀ k, a.bowler = some k → s.currentBowler l = some k →
    ∀ x, s.session? k.1 = some x → ∀ p, x.pos = some p → ∀ b, x.bowler? k.2 = some b → ∀ g, b.game = some g →
    (g.slot p.frame = none ∨ frameEnded p.frame (g.ballsOf p.frame) = false) →
    ∃ t, exec (.readDone l levels) s = .next t ∧ s.sameStarts t ∧ s.sameLine t ∧
      (let map := (s.deck l).standing levels
       let est := (s.deck l).unreadable != noSpots
       let e := ballResult l p.frame (g.ballsOf p.frame) map est a.foul
       let bs := g.ballsOf p.frame ++ [e]
       let ended := frameEnded p.frame bs
       let g1 := g.append p.frame e
       let holds := if (s.seq l).mode = .eachBall then { (s.seq l).holds with eachBall := true } else (s.seq l).holds
       let stops := (s.meter l).isOpen && holds.eachBall
       t = { s with
         seqs := s.seqs.set l { s.seq l with
           cycle := some { c with kind := cycleKind p.frame bs, frameEnd := ended, ball := none }
           holds := holds, stray := false, state := if stops then .held .read else .clearing
           timer := if stops then none else some 4000 }
         decks := s.decks.set l { s.deck l with last := some { levels := levels, map := map, estimated := est } }
         sessions := s.sessions.map fun y =>
           if y.id = k.1 then
             { x.modifyGame k.2 (fun _ => if ended ∧ p.frame = 10 then g1.finish else g1) with
               turn := if ended then .ended else x.turn }
           else y
         link := t.link, spacing := t.spacing } ∧
       t.queued (64 + s.ctl.pair.getD 0) (.display (.ball (displayHead x k.2 b g1 p) e.ball e.pins e.foul e.split
         e.estimated (markOf p.frame bs))))

/-- The split test (R48): a full rack, no foul, spot 1 down, and at least two spots standing that are not all connected
through the pairs of the rule's table; spots are counted from 1. Every ball result is tested at the rack it was bowled at.
The split flag is a mark: it changes no mark and no score, and a correction leaves it as it was. -/
def Obligations.SplitTest : Prop :=
  (∀ (before after : SpotMap) (foul : Bool),
    let pairs := [(1, 2), (1, 3), (2, 3), (2, 4), (2, 5), (3, 5), (3, 6), (4, 5), (4, 7), (4, 8), (5, 6), (5, 8), (5, 9),
      (6, 9), (6, 10), (7, 8), (8, 9), (9, 10)]
    let stands := fun n : Nat => 1 ≤ n ∧ n ≤ 10 ∧ after.getLsbD (n - 1) = true
    let adj := fun m n : Nat => stands m ∧ stands n ∧ ((m, n) ∈ pairs ∨ (n, m) ∈ pairs)
    isSplit before after foul = true ↔
      (∀ n, 1 ≤ n → n ≤ 10 → before.getLsbD (n - 1) = true) ∧ foul = false ∧ ¬ stands 1 ∧
      (∃ m n, m < n ∧ stands m ∧ stands n) ∧ ¬ ∀ m n, stands m → stands n → Relation.ReflTransGen adj m n) ∧
  (∀ (l : LaneId) (f : Nat) (bs : List BallEntry) (map : SpotMap) (estimated foul : Bool),
    (ballResult l f bs map estimated foul).split = isSplit (nextRack f bs) map foul) ∧
  (∀ (b : BallEntry) (p : Nat), (b.correct p).split = b.split) ∧
  ∀ (complete : Bool) (f : Nat) (r : FrameRec) (later : List BallEntry),
    (let plain := fun bs : List BallEntry => bs.map fun b => { b with split := false }
     markOf f (plain r.balls) = markOf f r.balls ∧
       frameScore complete f { r with balls := plain r.balls } (plain later) = frameScore complete f r later)

/-- The frame truncation rule (R58): with no frame in play it changes nothing and names no frame; otherwise at most two
supplied balls of pinfall 0 are added behind the frame's balls, and the frame has ended. -/
def Obligations.TruncationEndsFrame : Prop :=
  ∀ g : Game, g.frames.length = 10 →
    (∀ f ∈ (List.range 10).map (· + 1), (g.ballsOf f).length ≤ 3) →
    (g.frameInPlay = none → g.truncate = (g, none)) ∧
    ∀ f, g.frameInPlay = some f →
      (g.truncate).2 = some f ∧ frameEnded f ((g.truncate).1.ballsOf f) = true ∧
      (∃ added, (g.truncate).1.ballsOf f = g.ballsOf f ++ added ∧ 1 ≤ added.length ∧ added.length ≤ 2 ∧
        ∀ e ∈ added, e.pins = 0 ∧ e.supplied = true ∧ e.estimated = true ∧ e.foul = false ∧ e.split = false ∧
          e.corrected = false ∧ e.frame = f ∧ e.before = e.after) ∧
      (∀ k, k ≠ f → (g.truncate).1.ballsOf k = g.ballsOf k) ∧ (f = 10 → (g.truncate).1.status = .complete)

/-- READ_DONE in CALIBRATING: each of the first three reads of a step counts a miss for every spot below the step's trial
threshold (R33); the fourth settles the step, and the read that ends the calibration answers the CALIBRATE with its counts
(R34 to R36). Nothing but the deck sensor changes before the last read, and the next sense pass is asked for (R33); MODEL'S
CHOICE (log entry 51): the demand carries the number of the pass, counted from 1 over the calibration. The four reads of a
step: in a SWEEP, a spot with no first-miss step takes this step when a read missed, and one with no all-miss step takes it
when all four did; the sweep ends at step 15 or when every spot has its all-miss step, and a step never reached is then 16
(R34). A single step records each spot's misses, and counts the spots with none and with four (R36). A SWEEP that ends
(R35): the counts sum to ten; a first-miss step of 1 marks the spot unreadable and keeps its threshold, 2 gives 4, 3 to 15
give twice the step, and 16 gives 32. -/
def Obligations.CalibrationReads : Prop :=
  (∀ (l : LaneId) (levels : List Nat) (s : State), s.running = true → (s.seq l).state = .calibrating →
     ∃ t, exec (.readDone l levels) s = .next t ∧
       ((s.deck l).cal.reads < 3 →
         t = { s with
           decks := s.decks.set l { s.deck l with cal := { (s.deck l).cal with
             reads := (s.deck l).cal.reads + 1
             misses := (List.range 10).map fun n => (s.deck l).cal.misses.getD n 0 +
               (if levels.getD n 0 < 4 * (match (s.deck l).cal.mode with
                 | some (.single k) => k
                 | _ => (s.deck l).cal.steps + 1) then 1 else 0) } }
           link := t.link, spacing := t.spacing } ∧ s.quiet t) ∧
       sensePass (s.seq l) (s.deck l) = some (4 * (s.deck l).cal.steps + (s.deck l).cal.reads + 1) ∧
       ((s.deck l).cal.reads ≤ 3 → ((s.deck l).calRead levels).2 = none →
         sensePass (t.seq l) (t.deck l) = some (4 * (s.deck l).cal.steps + (s.deck l).cal.reads + 2)) ∧
       (3 ≤ (s.deck l).cal.reads → t.deck l = ((s.deck l).calRead levels).1 ∧
         (((s.deck l).calRead levels).2 = none →
           t = { s with decks := s.decks.set l (t.deck l), link := t.link, spacing := t.spacing } ∧ s.quiet t) ∧
         ∀ n, ((s.deck l).calRead levels).2 = some n → s.sends 1 →
           ∀ p, (s.seq l).pend = some p → p.req = .calibrate → s.sessions = [] →
             t = { s with
               decks := s.decks.set l (t.deck l), link := t.link, spacing := t.spacing
               seqs := s.seqs.set l { s.seq l with
                 pend := none, timer := none
                 state := if (s.seq l).holds.appliesAt (.rack false) then .held (.rack false) else .armed } } ∧
             s.sameStarts t ∧ s.queues t p.addr .none (laterReply p.tag .calibrate .done (.counts n.1 n.2)))) ∧
  (∀ (d : Deck) (levels : List Nat), (d.cal.mode = none ∨ d.cal.mode = some .sweep) → d.thresholds.length = 10 →
     d.cal.firstMiss.length = 10 → d.cal.steps ≤ 14 → (∀ o ∈ d.cal.firstMiss, ∀ j ∈ o, 1 ≤ j ∧ j ≤ 15) →
     ∀ n, (d.calRead levels).2 = some n →
       let e := (d.calRead levels).1
       n.1 + n.2 = 10 ∧ n.2 = spotCount e.unreadable ∧ e.cal.result = .complete ∧ e.rack = d.rack ∧ e.last = d.last ∧
       e.cal.outcome = some (e.thresholds, e.unreadable) ∧
       ∀ i < 10, ∃ f, e.cal.firstMiss[i]? = some (some f) ∧ 1 ≤ f ∧ f ≤ 16 ∧
         (onSpot e.unreadable i = true ↔ f = 1) ∧
         e.thresholds[i]? = some (if f = 1 then d.thresholds.getD i 0 else if f = 2 then 4 else if f = 16 then 32 else 2 * f)) ∧
  ∀ (d : Deck) (r1 r2 r3 r4 : List Nat), d.cal.reads = 0 → d.cal.misses = List.replicate 10 0 →
    (let d1 := (d.calRead r1).1
     let d2 := (d1.calRead r2).1
     let d3 := (d2.calRead r3).1
     let e := d3.calRead r4
     let step := match d.cal.mode with
       | some (.single k) => k
       | _ => d.cal.steps + 1
     let spots := List.range 10
     let missed := fun n => ([r1, r2, r3, r4].filter fun r => decide (r.getD n 0 < 4 * step)).length
     let missing := fun k => (spots.filter fun n => missed n == k).length
     let first := fun n => (d.cal.firstMiss.getD n none).or (if 1 ≤ missed n then some step else none)
     let all := fun n => (d.cal.allMiss.getD n none).or (if missed n = 4 then some step else none)
     (d.calRead r1).2 = none ∧ (d1.calRead r2).2 = none ∧ (d2.calRead r3).2 = none ∧
     (∀ k, d.cal.mode = some (.single k) → e =
       ({ d with cal := { d.cal with result := .complete, steps := 1, missCount := some (spots.map missed) } },
         some (missing 0, missing 4))) ∧
     ((∀ k, d.cal.mode ≠ some (.single k)) → d.cal.firstMiss.length = 10 → d.cal.allMiss.length = 10 →
       (let ends := 15 ≤ step ∨ ∀ n < 10, (all n).isSome = true
        (¬ ends → e =
          ({ d with cal := { d.cal with steps := step, firstMiss := spots.map first, allMiss := spots.map all } }, none)) ∧
        (ends → e.2.isSome = true ∧ e.1.cal.result = .complete ∧ e.1.cal.steps = step ∧ e.1.cal.missCount = d.cal.missCount ∧
          e.1.cal.firstMiss = spots.map (fun n => some ((first n).getD 16)) ∧
          e.1.cal.allMiss = spots.map fun n => some ((all n).getD 16)))))

/-- SET_DONE in SETTING: the rack state is written (R30), a request that completes with the cycle is answered DONE, the
cycle record goes, and the lane enters STANDBY when it is closed, HELD when a reason applies at its rack position, and ARMED
otherwise (R7, R21). Into STANDBY and HELD whatever sessions there are; into ARMED here of a lane that no turn OUTSTANDING
or ENDED waits for and no SUSPENDED session calls home (TurnStartAdmission, TurnsGoOn, BarriersPass and SessionResumed say
those). -/
def Obligations.SetDone : Prop :=
  ∀ (l : LaneId) (s : State), s.running = true → (s.seq l).state = .setting → ∀ c, (s.seq l).cycle = some c →
    (let holds := if (s.seq l).mode = .frameEnd ∧ c.frameEnd then { (s.seq l).holds with frameEnd := true }
      else (s.seq l).holds
     let done := fun p : PendingReq => p.req.endsWithCycle || (p.req == .closeLane && !(s.meter l).isOpen)
     ((s.meter l).isOpen = true → holds.appliesAt (.rack c.frameEnd) = false → ∀ x ∈ s.sessions,
       (x.frameLane = some l → x.turn ≠ .outstanding ∧ x.turn ≠ .ended) ∧ (x.home = l → ∀ r, x.state ≠ .suspended r)) →
     ∃ t, exec (.setDone l) s = .next t ∧ s.sameStarts t ∧ s.sameLine t ∧
       t = { s with
         seqs := s.seqs.set l (t.seq l), decks := s.decks.set l (t.deck l), link := t.link, spacing := t.spacing } ∧
       (t.seq l).pend = ((s.seq l).pend.filter fun p => !done p) ∧
       (∀ p, (s.seq l).pend = some p → done p = true → s.sends 1 →
         s.queues t p.addr .none (laterReply p.tag p.req.name .done p.req.doneData)) ∧
       ((s.meter l).isOpen = false →
         t.deck l = { s.deck l with rack := .empty } ∧
         t.seq l = { s.seq l with
           state := .standby, cycle := none, foul := false, stray := false, timer := none
           holds := { (s.seq l).holds with desk := false }, pend := (t.seq l).pend }) ∧
       ((s.meter l).isOpen = true →
         t.deck l = { s.deck l with rack := if c.kind = .full then .full else .partialRack } ∧
         t.seq l = { s.seq l with
           cycle := none, timer := none, holds := holds, pend := (t.seq l).pend
           state := if holds.appliesAt (.rack c.frameEnd) then .held (.rack c.frameEnd) else .armed }))

/-- SET_DONE that brings an open lane to ARMED with one session whose turn is OUTSTANDING there: the turn start is made in
the same event (R81), and the meter's answer is R116's; a game charge is made only with an ADMIT (R115), at the price of the
band in force at the station's second of day (R108), and queues CREDIT_LOW when it takes a prepaid balance below the level
(R114). -/
def Obligations.TurnStartAdmission : Prop :=
  ∀ (l : LaneId) (s : State), s.running = true → (s.seq l).state = .setting → (s.meter l).isOpen = true →
    (s.seq l).pend = none → (s.seq l).mode ≠ .frameEnd → s.sends 2 →
    ∀ c, (s.seq l).cycle = some c → (s.seq l).holds.appliesAt (.rack c.frameEnd) = false →
    ∀ x, s.sessions = [x] → x.state = .playing → x.turn = .outstanding → ∀ p, x.pos = some p → p.lane = l →
    ∀ i, x.current = some i → ∀ b, x.bowler? i = some b → ∀ g, b.game = some g →
    ∃ t, exec (.setDone l) s = .next t ∧ s.sameStarts t ∧ s.sameLine t ∧
      t = { s with
        seqs := s.seqs.set l (t.seq l), decks := s.decks.set l (t.deck l), meters := s.meters.set l (t.meter l)
        sessions := t.sessions, store := t.store, link := t.link, spacing := t.spacing } ∧
      s.turnStarts t l x i b g p ∧
      ∀ k band, s.ctl.clock = some k → s.tariff.live.lookup k.second = some band → s.gameBand = (band.1, band.2.price)

/-- SET_DONE that brings an open NONE lane to ARMED with one session whose turn there is ENDED: the turn selection is made
(R76) and the turn starts (R81). The next bowler who is not absent is chosen, absent ones before it receiving a blank frame;
with none left the session enters its next frame (R77), and after frame 10 its games are archived as COMPLETE and the
session starts its next game or is removed at its limit (R80). Here for a session that is not crossed, with a bowler who is
not absent. -/
def Obligations.TurnsGoOn : Prop :=
  ∀ (l : LaneId) (s : State), s.running = true → (s.seq l).state = .setting → (s.meter l).isOpen = true →
    (s.meter l).mode = .none → (s.seq l).pend = none → (s.seq l).mode ≠ .frameEnd → s.sends 1 →
    ∀ c, (s.seq l).cycle = some c → (s.seq l).holds.appliesAt (.rack c.frameEnd) = false →
    ∀ x, s.sessions = [x] → x.state = .playing → x.turn = .ended → x.cross = false → x.home = l →
    ∀ p, x.pos = some p → p.lane = l → (∀ b ∈ x.bowlers, b.game.isSome = true) →
    ∃ t, exec (.setDone l) s = .next t ∧ s.sameStarts t ∧ s.sameLine t ∧
      t = { s with
        seqs := s.seqs.set l (t.seq l), decks := s.decks.set l (t.deck l), meters := s.meters.set l (t.meter l)
        sessions := t.sessions, store := t.store, link := t.link, spacing := t.spacing } ∧
      (let k := x.current.getD 0
       let blank := fun (f lo hi : Nat) (bs : List Bowler) => bs.mapIdx fun i b =>
         if lo ≤ i ∧ i < hi then { b with game := b.game.map fun g => g.blank f } else b
       let size := x.bowlers.length
       (∀ j b, x.bowlers[j]? = some b → b.absent = false → k ≤ j →
         (∀ i a, k ≤ i → i < j → x.bowlers[i]? = some a → a.absent = true) →
         (t.seq l).state = .armed ∧ t.store = s.store ∧
         t.sessions = [{ x with turn := .active, current := some (j + 1), bowlers := blank p.frame k j x.bowlers }]) ∧
       (∀ j b, x.bowlers[j]? = some b → b.absent = false → j < k →
         (∀ i a, i < j → x.bowlers[i]? = some a → a.absent = true) →
         (∀ i a, k ≤ i → x.bowlers[i]? = some a → a.absent = true) →
         (t.seq l).state = .armed ∧
         (p.frame < 10 → t.store = s.store ∧
           t.sessions = [{ x with
             turn := .active, current := some (j + 1), pos := some { p with frame := p.frame + 1 }
             bowlers := blank (p.frame + 1) 0 j (blank p.frame k size x.bowlers) }]) ∧
         (p.frame = 10 →
           (s.store.archive.length + size ≤ s.store.archiveCap → ∃ new, t.store.archive = s.store.archive ++ new ∧
             new.map (fun e => (e.session, e.complete, e.number)) =
               (x.bowlers.filterMap (·.game)).map fun g => (x.id, true, g.number)) ∧
           ((x.limit ≠ 0 ∧ x.limit ≤ p.number) ∨ 99 ≤ p.number → t.sessions = []) ∧
           ((x.limit = 0 ∨ p.number < x.limit) → p.number < 99 →
             t.sessions = [{ x with
               turn := .active, current := some (j + 1), pos := some { number := p.number + 1, frame := 1, lane := x.home }
               bowlers := blank 1 0 j (x.bowlers.map fun b => { b with
                 completed := min 99 (b.completed + 1), first := ballLane x.home
                 game := some (Game.fresh b.name b.handicap (p.number + 1)) }) }]))))

/-- The barrier of a cross pair on lanes that do not charge (R78). BEGIN of the second session starts game 1 for both (R70).
SET_DONE after the last turn of one session, its partner waiting at the same barrier: both enter the next frame, on
exchanged lanes, or after frame 10, with their games archived in either order (R135), the next game on their home lanes
(R80); each selects its turn (R76). With the partner at another position, or every bowler of both absent, the session waits.
A cleared absence makes the test again for a session that waits (R72). Un-crossing (R79): a session whose partner is ended
by END_SESSION, or that finds the other lane taken by a session resumed by RESUME_PARKED, goes on by its position as one
that is not crossed. A cross session is in no transfer (PairsKept), so that neither session waits in WAIT_MOVE. -/
def Obligations.BarriersPass : Prop :=
  ∀ (s : State) (x y : Session), s.sessions = [x, y] ∨ s.sessions = [y, x] → x.id ≠ y.id → x.home ≠ y.home →
    y.cross = true → (∀ k, (s.meter k).mode = .none) →
    (∀ z ∈ [x, y], z.state ≠ .waitMove ∧ (z.pos ≠ none → ∀ b ∈ z.bowlers, b.game.isSome = true)) →
    (let armed := fun k => decide ((s.seq k).state = .armed)
     let both := fun (u v : Session) => s.sessions.map fun z => if z.id = x.id then u else v
     let foulOnly := fun (t : State) (k : LaneId) => t.seq k = { s.seq k with foul := (t.seq k).foul }
     let waitOnly := fun (t : State) (k : LaneId) => t.meter k = { s.meter k with wait := (t.meter k).wait }
     (∀ m : Msg, s.sends 3 → s.reaches m .beginSession → parse1 m.args = some x.id → x.cross = true →
       x.state = .forming → x.size ≤ x.bowlers.length → y.state = .waitPartner .start →
       (∀ z ∈ [x, y], firstPresent 0 z.bowlers < z.bowlers.length) →
       ∃ t, exec (.beginSession m) s = .next t ∧ s.acked t ∧
         t = { s with seqs := t.seqs, meters := t.meters, link := t.link, sessions := both (x.begun armed 1) (y.begun armed 1) } ∧
         (∀ k, foulOnly t k ∧ waitOnly t k) ∧ t.queued m.sender.toNat (firstReply m .beginSession .done .none)) ∧
     (∀ l p, s.cycleArms l → x.cross = true → x.state = .playing → x.turn = .ended → x.pos = some p → p.lane = l →
       (∀ i b, x.current.getD 0 ≤ i → x.bowlers[i]? = some b → b.absent = true) →
       ∃ t, exec (.setDone l) s = .next t ∧ s.sameStarts t ∧ s.sameLine t ∧
         t = { s with
           seqs := t.seqs, decks := s.decks.set l (t.deck l), meters := t.meters, sessions := t.sessions, store := t.store
           free := t.free, link := t.link, spacing := t.spacing } ∧
         (t.seq l).state = .armed ∧ (∀ k, k ≠ l → foulOnly t k) ∧ (∀ k, waitOnly t k) ∧
         (let done := { x with bowlers := blanks p.frame (x.current.getD 0) x.bowlers.length x.bowlers, turn := .none }
          let idle := x.allAbsent && y.allAbsent
          let armed := fun k => k == l || armed k
          let limit := fun z : Session => (z.limit ≠ 0 ∧ z.limit ≤ p.number) ∨ 99 ≤ p.number
          (y.state = .waitPartner (.frame p.frame) → idle = false → p.frame < 10 → ∀ q, y.pos = some q →
            t.store = s.store ∧ t.free = s.free ∧
            t.sessions = both
              (done.entered armed { p with frame := p.frame + 1, lane := x.crossLane (p.frame + 1) })
              (y.entered armed { q with frame := p.frame + 1, lane := y.crossLane (p.frame + 1) })) ∧
          (y.state = .waitPartner (.frame p.frame) → p.frame = 10 → ∀ q, y.pos = some q → q.number = p.number →
            (∀ z ∈ [x, y], firstPresent 0 z.bowlers < z.bowlers.length) →
            (let counted := fun z : Session => ({ z with bowlers := z.bowlers.map fun b =>
               { b with completed := min 99 (b.completed + 1) } } : Session)
             let next := fun z : Session => (counted z).begun armed (p.number + 1)
             let alone := fun z : Session => { next z with cross := false }
             let runs := [x, y].map fun z => z.bowlers.map fun _ => (z.id, true, p.number)
             (¬ limit x → ¬ limit y → t.sessions = both (next x) (next y)) ∧
             (limit x → ¬ limit y → t.sessions = [alone y]) ∧ (¬ limit x → limit y → t.sessions = [alone x]) ∧
             (limit x → limit y → t.sessions = []) ∧
             (s.store.archive.length + runs.flatten.length ≤ s.store.archiveCap →
               (∀ b ∈ x.bowlers ++ y.bowlers, ∀ g ∈ b.game, g.number = p.number) →
               ∃ new, t.store.archive = s.store.archive ++ new ∧
                 (let is := new.map fun e => (e.session, e.complete, e.number)
                  is = runs.flatten ∨ is = runs.reverse.flatten)))) ∧
          (y.state = .playing ∧ y.frameLane ≠ some l ∨ y.state = .forming ∨
              (∃ b, y.state = .waitPartner b ∧ (b ≠ .frame p.frame ∨ idle = true)) →
            t.store = s.store ∧ t.free = s.free ∧
            t.sessions = both { done with state := .waitPartner (.frame p.frame) } y))) ∧
     (∀ m : Msg, s.sends 3 → s.reaches m .setAbsent → ∀ a, parse3 m.args = some a → a.1 = x.id → a.2.2 = 0 →
       x.cross = true → y.state ≠ .parked → x.bowler? a.2.1 ≠ none →
       ∀ f, x.state = .waitPartner (.frame f) → f < 10 → ∀ p, x.pos = some p → ∀ q, y.pos = some q →
       ∃ t, exec (.setAbsent m) s = .next t ∧ s.acked t ∧
         t = { s with seqs := t.seqs, meters := t.meters, link := t.link, sessions := t.sessions } ∧
         (∀ k, foulOnly t k ∧ waitOnly t k) ∧ t.queued m.sender.toNat (firstReply m .setAbsent .done .none) ∧
         (let back := x.modifyBowler a.2.1 fun b => { b with absent := false }
          (y.state = .waitPartner (.frame f) → t.sessions = both
            (back.entered armed { p with frame := f + 1, lane := x.crossLane (f + 1) })
            (y.entered armed { q with frame := f + 1, lane := y.crossLane (f + 1) })) ∧
          (y.state ≠ .waitPartner (.frame f) → t.sessions = both back y))) ∧
     (∀ m : Msg, s.sends 2 → parse1 m.args = some x.id →
       y.state ≠ .parked → (∀ b, y.state = .waitPartner b → b ≠ .frame 10 ∧ (b ≠ .start → y.pos ≠ none)) →
       (s.reaches m .endSession → (∀ k, x.state ≠ .moving k) → x.state ≠ .parked → x.turn ≠ .outstanding →
         ∃ t, exec (.endSession m) s = .next t ∧ s.acked t ∧
           t = { s with
             seqs := t.seqs, meters := t.meters, link := t.link, sessions := [y.uncrossed armed]
             store := { s.store with archive := t.store.archive, nextSerial := t.store.nextSerial } } ∧
           (∀ k, foulOnly t k ∧ waitOnly t k) ∧ t.queued m.sender.toNat (firstReply m .endSession .done .none)) ∧
       (s.reaches m .resumeParked → x.state = .parked → x.cross = false → (s.meter x.home).isOpen = true →
         s.occupied x.home = false → s.reserved ≠ some x.home → (s.seq x.home).state ≠ .armed →
         (let z : Session := { x with state := .playing, pos := x.pos.map fun p => ({ p with lane := x.home } : GamePos) }
          z.choose.2 = .chosen →
          ∃ t, exec (.resumeParked m) s = .next t ∧ s.acked t ∧
            t = { s with
              seqs := t.seqs, meters := t.meters, link := t.link, sessions := both z.choose.1 (y.uncrossed armed) } ∧
            (∀ k, foulOnly t k ∧ waitOnly t k) ∧ t.queued m.sender.toNat (firstReply m .resumeParked .done .none)))))

/-- The resumption of a SUSPENDED session at its home lane's entry into ARMED, here by a SET_DONE on lanes that do not
charge (R87): it takes its resume state. FORMING stays so; a cross session waits at its barrier, which passes when its
partner waits there (R78); one un-crossed while suspended goes on as R79 gives. PLAYING: a frame in play of the current
bowler is completed and its turn is ENDED (R58, R75). An ended turn on this lane ends and the next bowler is selected; one
on the other lane stays, and its bowler, made current there, finds the foul-pending flag cleared (R9). An outstanding turn
starts on this lane and stays on the other; a session without a turn selects one. -/
def Obligations.SessionResumed : Prop :=
  ∀ (l : LaneId) (s : State), s.cycleArms l → (∀ k, (s.meter k).mode = .none) →
    ∀ x ∈ s.sessions, x.home = l → ∀ r, x.state = .suspended r →
    (∀ z ∈ s.sessions, z.state ≠ .waitMove ∧ (z.pos ≠ none → ∀ b ∈ z.bowlers, b.game.isSome = true)) →
    ∃ t, exec (.setDone l) s = .next t ∧ s.sameStarts t ∧ s.sameLine t ∧
      t = { s with
        seqs := t.seqs, decks := s.decks.set l (t.deck l), meters := t.meters, sessions := t.sessions, store := t.store
        free := t.free, link := t.link, spacing := t.spacing } ∧
      (t.seq l).state = .armed ∧ (∀ k, k ≠ l → t.seq k = { s.seq k with foul := (t.seq k).foul }) ∧
      (let armed := fun k => k == l || decide ((s.seq k).state = .armed)
       let becomes := fun xs => t.sessions = xs ∧ t.store = s.store ∧ t.free = s.free
       (∀ y, s.sessions = [x, y] ∨ s.sessions = [y, x] → x.id ≠ y.id → y.home = other l → x.cross = true → y.cross = true →
         ∀ b, r = .waitPartner b →
         (let both := fun (u v : Session) => s.sessions.map fun z => if z.id = x.id then u else v
          ((∃ q, y.state = .suspended q) ∨ y.state = .forming → becomes (both { x with state := .waitPartner b } y)) ∧
          (∀ f p q, b = .frame f → f < 10 → y.state = .waitPartner b → x.pos = some p → y.pos = some q →
            (x.allAbsent && y.allAbsent) = false →
            becomes (both
              (x.entered armed { p with frame := f + 1, lane := x.crossLane (f + 1) })
              (y.entered armed { q with frame := f + 1, lane := y.crossLane (f + 1) }))))) ∧
       (s.sessions = [x] →
         (r = .forming → becomes [{ x with state := .forming }]) ∧
         (∀ b, r = .waitPartner b → x.cross = true → becomes [{ x with state := .waitPartner b }]) ∧
         (∀ b, r = .waitPartner b → x.cross = false → b ≠ .frame 10 → (b ≠ .start → x.pos ≠ none) →
           becomes [({ x with state := .waitPartner b } : Session).uncrossed armed]) ∧
         (r = .playing → ∀ p, x.pos = some p →
           (let cut := match x.current with
              | some i => x.modifyGame i fun g => g.truncate.1
              | none => x
            let closed := x.turn = .ended ∨ x.midFrame = true
            let k := x.current.getD 0
            let j := firstPresent k cut.bowlers
            (closed → p.lane ≠ l → becomes [{ cut with state := .playing, turn := .ended }] ∧
              (x.turn = .outstanding → (t.seq p.lane).foul = false)) ∧
            (closed ∧ p.lane = l ∨ x.turn = .none ∧ x.midFrame = false → j < x.bowlers.length →
              becomes [{ cut with
                state := .playing, turn := if armed p.lane then .active else .outstanding, current := some (j + 1)
                bowlers := blanks p.frame k j cut.bowlers }]) ∧
            (x.turn = .outstanding → x.midFrame = false → (x.current.bind x.bowler?).isSome = true →
              becomes [{ x with state := .playing, turn := if p.lane = l then .active else .outstanding }])))))

/-- A limit that expires in its own state (R10): the lane enters FAULT with its record, its notice is queued, and a request
that waited on the phase is answered FAILED; a calibration in flight is TIMED_OUT, its mode, thresholds before, steps and
misses settled kept (R38); a closed lane goes on to STANDBY, where a CLOSE_LANE is answered DONE (R24, R38). -/
def Obligations.PhaseOverruns : Prop :=
  ∀ (l : LaneId) (s : State), s.running = true → s.sends 2 → ∀ ph, (s.seq l).state.phase? = some ph →
    ∃ t, exec (.phaseLimitExpiry l) s = .next t ∧ s.sameStarts t ∧ s.sameLine t ∧
      t = { s with
        seqs := s.seqs.set l (t.seq l), decks := s.decks.set l (t.deck l), link := t.link, spacing := t.spacing } ∧
      t.queued 255 (.notice (.fault l ph)) ∧
      (let q := s.seq l
       let record : FaultRec :=
         if ph = .calibrating then { phase := ph, repeated := false, retained := none }
         else { phase := ph, retained := q.cycle
                repeated := match q.cycle with | some c => decide (0 < c.restart) | none => false }
       let aborts := ph = .calibrating ∧ (s.deck l).cal.result = .running
       let failed := fun p : PendingReq => p.req.endsWithCycle || (decide aborts && p.req == .calibrate)
       (∀ p, q.pend = some p → failed p = true →
         t.queued p.addr (laterReply p.tag p.req.name .failed (if p.req = .calibrate then .calResult .timedOut else .none))) ∧
       t.deck l = { s.deck l with rack := (t.deck l).rack, cal := (t.deck l).cal } ∧
       (aborts → (t.deck l).cal = { (s.deck l).cal with
         result := .timedOut, reads := (t.deck l).cal.reads, misses := (t.deck l).cal.misses }) ∧
       (¬ aborts → (t.deck l).cal = (s.deck l).cal) ∧
       ((s.meter l).isOpen = true →
         (t.deck l).rack = (s.deck l).rack ∧
         t.seq l = { q with
           state := .fault record, cycle := none, timer := none, pend := q.pend.filter fun p => !failed p }) ∧
       ((s.meter l).isOpen = false →
         (t.deck l).rack = .empty ∧ (t.seq l).state = .standby ∧ (t.seq l).cycle = none ∧ (t.seq l).foul = false ∧
         (t.seq l).stray = false ∧ (t.seq l).holds = { q.holds with desk := false } ∧
         ∀ p, q.pend = some p → p.req = .closeLane → (t.seq l).pend = none ∧
           t.queued p.addr (laterReply p.tag .closeLane .done .none)))

/-! ## The return -/

/-- LIFT_TOP takes the head record off the transit list in every state, and begins the run-on of 3.0 s when it empties the
list in RUNNING (R90, R91). RACK_FULL_CHANGE writes the level, stops a RUNNING lift or starts it again (R92). RUN_ON_EXPIRY
stops the lift in RUNNING (R91). The purge ends (R98): the records left are discarded and counted, the return enters IDLE,
and a CLEAR_JAM that waits is answered DONE with the count. In any other state PURGE_END does nothing. -/
def Obligations.LiftRackAndPurge : Prop :=
  (∀ s : State, s.running = true →
     (∃ t, exec .liftTop s = .next t ∧ s.quiet t ∧
       t = { s with ret := t.ret, link := t.link, spacing := t.spacing } ∧
       t.ret = { s.ret with
         transit := s.ret.transit.tail
         runOn := if s.ret.state = .running ∧ s.ret.transit.length = 1 then some 3000 else s.ret.runOn }) ∧
     (∀ v : Bool, ∃ t, exec (.rackFullChange v) s = .next t ∧ s.quiet t ∧
       t = { s with ret := t.ret, link := t.link, spacing := t.spacing } ∧
       t.ret =
         if s.ret.state = .running ∧ v then { s.ret with rackFull := v, state := .rackFull, runOn := none }
         else if s.ret.state = .rackFull ∧ !v then
           { s.ret with
             rackFull := v, state := .running, runOn := if s.ret.transit = [] then some 3000 else none }
         else { s.ret with rackFull := v }) ∧
     (∃ t, exec .runOnExpiry s = .next t ∧ s.quiet t ∧
       t = { s with ret := t.ret, link := t.link, spacing := t.spacing } ∧
       t.ret =
         if s.ret.state = .running ∧ s.ret.runOn.isSome then { s.ret with state := .idle, runOn := none } else s.ret)) ∧
  (∀ s : State, s.running = true →
     ∃ t, exec .purgeEnd s = .next t ∧ s.sameStarts t ∧ s.sameLine t ∧
       t = { s with ret := t.ret, link := t.link, spacing := t.spacing } ∧
       (s.ret.state ≠ .purging → t.ret = s.ret ∧ s.sameFrames t) ∧
       (s.ret.state = .purging →
         t.ret = { s.ret with
           state := .idle, transit := [], purgeCount := some s.ret.transit.length, purge := none, pend := none } ∧
         t.ret.state.liftRuns = false ∧ (s.ret.pend = none → s.sameFrames t) ∧
         ∀ a, s.ret.pend = some a → s.sends 1 →
           s.queues t a.1 .none (laterReply a.2 .clearJam .done (.purged s.ret.transit.length))))

/-! ## The clock and the meters -/

/-- A lift current sample below the stall level: ignored while the lift is stopped; otherwise the strain flag follows R94
with its eight-count band, and a STRAIN notice is queued when the flag is newly set. What the return leaves RUNNING,
RACK_FULL or PURGING for when it jams: an overfill (R89), an overdue head record (R93), a stall (R95). It enters JAMMED,
RETURN is added to both hold sets, which takes an ARMED lane to HELD, and JAM is queued (R96); a purge that fails answers
its CLEAR_JAM FAILED (R99). MODEL'S CHOICE (log entry 7): the age of the overdue head record is held at 30.0 s. -/
def Obligations.StrainAndJams : Prop :=
  (∀ (v : Byte) (s : State), s.running = true → v.toNat < s.ctl.setup.stall →
     ∃ t, exec (.liftCurrentSample v) s = .next t ∧ s.sameStarts t ∧ s.sameLine t ∧
       t = { s with ret := t.ret, link := t.link, spacing := t.spacing } ∧
       (let runs := s.ret.state = .running ∨ s.ret.state = .purging
        let level := s.ctl.setup.strain
        (¬ runs → t.ret = s.ret ∧ s.sameFrames t) ∧
        (runs → t.ret = { s.ret with strain := t.ret.strain }) ∧
        (runs → level ≤ v.toNat → t.ret.strain = true ∧
          (s.ret.strain = false → s.sends 1 → s.queues t 255 .none (.notice (.strain v.toNat))) ∧
          (s.ret.strain = true → s.sameFrames t)) ∧
        (runs → v.toNat < level → s.sameFrames t ∧
          t.ret.strain = if v.toNat + 8 < level then false else s.ret.strain))) ∧
  (∀ (c : Instr) (s : State), s.running = true → s.sends 3 → ∀ j, jamCause c s = some j →
     ∃ t, exec c s = .next t ∧ s.sameStarts t ∧ s.sameLine t ∧
       t = { s with seqs := t.seqs, decks := t.decks, ret := t.ret, link := t.link, spacing := t.spacing } ∧
       t.ret.state = .jammed j ∧ t.ret.runOn = none ∧ t.ret.purge = none ∧
       (∀ v, c = .liftCurrentSample v →
         t.ret.strain = (if s.ctl.setup.strain ≤ v.toNat then true
           else if v.toNat + 8 < s.ctl.setup.strain then false else s.ret.strain) ∧
         (s.ctl.setup.strain ≤ v.toNat → s.ret.strain = false → t.queued 255 (.notice (.strain v.toNat)))) ∧
       ((∀ v, c ≠ .liftCurrentSample v) → t.ret.strain = s.ret.strain) ∧
       ((∀ l, c ≠ .ball l) → t.decks = s.decks) ∧
       (∀ l, (t.seq l).holds = { (s.seq l).holds with ret := true }) ∧
       (∀ l, c ≠ .ball l → t.seq l = { s.seq l with
         holds := (t.seq l).holds, state := if (s.seq l).state = .armed then .held (.rack false) else (s.seq l).state }) ∧
       t.queued 255 (.notice (.jam j)) ∧
       (t.ret.transit = match c, s.ret.transit with
         | .transitOverdue, b :: rest => { b with age := min 300 (max (b.age + 1) (10 * s.ctl.setup.transit + 1)) } :: rest
         | _, list => list) ∧
       (s.ret.state = .purging → t.ret.pend = none ∧ t.ret.purgeCount = none ∧
         ∀ a, s.ret.pend = some a → t.queued a.1 (laterReply a.2 .clearJam .failed .none)) ∧
       (s.ret.state ≠ .purging → t.ret.pend = s.ret.pend ∧ t.ret.purgeCount = s.ret.purgeCount))

/-- CLOCK_TICK: with an invalid clock nothing; otherwise the clock advances (R186), an open TIME lane runs or pauses the
second (R111), and a second that runs is charged by the band in force (R112), with CREDIT_LOW when the charge takes a
prepaid balance below the level (R114). GAME, NONE and closed lanes take the tick with no effect. -/
def Obligations.ClockTicks : Prop :=
  ∀ s : State, s.running = true →
    ∃ t, exec .clockTick s = .next t ∧ (s.ctl.clock = none → t = s) ∧
      ∀ k, s.ctl.clock = some k → s.sameStarts t ∧ s.sameLine t ∧
        t = { s with meters := t.meters, ctl := { s.ctl with clock := t.ctl.clock }, link := t.link, spacing := t.spacing } ∧
        t.ctl.clock = some
          { day := if k.second = 86399 then (if k.day = 6 then 0 else k.day + 1) else k.day
            second := if k.second = 86399 then 0 else k.second + 1 } ∧
        ∀ l,
          (let m := s.meter l
           let metered := m.isOpen = true ∧ m.mode = .time
           let q := s.seq l
           let runs := q.state.isFault = false ∧ q.holds.credit = false ∧ q.holds.journal = false ∧ q.holds.ret = false
           (¬ metered → t.meter l = m) ∧
           (metered → ¬ runs → t.meter l = { m with paused := min 99999999 (m.paused + 1) }) ∧
           (metered → runs → ∀ b, s.tariff.live.lookup k.second = some b →
             (let c := (m.residue + b.2.rate) / 3600
              let d := if m.prepaid then min c (m.balance + 50000).toNat else c
              t.meter l = { m with
                residue := (m.residue + b.2.rate) % 3600, roundBand := some b.1
                balance := if m.prepaid then m.balance - d else m.balance
                total := min 99999999 (m.total + d), subtotals := addSubtotal b.1 1 d m.subtotals } ∧
              (m.prepaid = true → (s.ctl.setup.low : Int) ≤ m.balance → m.balance - d < s.ctl.setup.low → s.sends 2 →
                t.queued 255 (.notice (.creditLow l (m.balance - d)))))))

/-! ## The spacing unit and the line -/

/-- An entry that expires, the end of the quiet period and a received start notice change the window list or the quiet
period, and the check is made again (R140, R142, R144, R147); in local mode the test of R148 is made in its place, at an
entry's expiry and at the quiet period's end. MODEL'S CHOICE (log entry 29): a notice on the line when its request is
granted runs to its end as a withdrawn one. MODEL'S CHOICE (log entry 28): the command names the entry by its position in
the list, oldest first. A received notice is acknowledged when its destination is accepted. In local mode it is acknowledged
in the same way, and not entered (R148). SPACING_WAIT_2W for a lane in SPACING marks its request urgent, and its notice too
unless that is on the line; for any other lane it does nothing (R145). -/
def Obligations.WindowAndWait : Prop :=
  (∀ (n : Nat) (u : Bool) (f : Bare) (s : State), s.running = true → s.spacing.isLocal = false →
     (∃ t, exec (.windowEntryExpiry n) s = .next t ∧ s.sameFrames t ∧ s.sameLine t ∧
       t = { s with spacing := t.spacing, link := t.link } ∧
       t.spacing = { s.spacing with
         window := s.spacing.window.eraseIdx n, slot := t.spacing.slot, passed := t.spacing.passed } ∧
       t.spacing.slot.map Notice.still = s.spacing.slot.map Notice.still ∧
       t.spacing.passed = if n < s.spacing.window.length then
           s.spacing.slot.isSome && (decide (s.spacing.window.length - 1 < s.ctl.setup.spacing) && !s.ctl.supplyLow &&
             s.spacing.quiet.isNone)
         else s.spacing.passed) ∧
     (∃ t, exec .quietPeriodEnd s = .next t ∧ s.sameFrames t ∧ s.sameLine t ∧
       t = { s with spacing := t.spacing, link := t.link } ∧
       t.spacing = { s.spacing with quiet := none, slot := t.spacing.slot, passed := t.spacing.passed } ∧
       t.spacing.slot.map Notice.still = s.spacing.slot.map Notice.still ∧
       t.spacing.passed = if s.spacing.quiet.isSome then
           s.spacing.slot.isSome && (decide (s.spacing.window.length < s.ctl.setup.spacing) && !s.ctl.supplyLow)
         else s.spacing.passed) ∧
     (∃ t, exec (.startNoticeReceived u f) s = .next t ∧
       t = { s with
         link := { s.link with
           lineIdle := false, response := none, ack := s.ctl.pair.isSome && s.acceptsDest f.dest }
         spacing := { s.spacing with window := t.spacing.window, passed := t.spacing.passed } } ∧
       t.spacing.window =
         s.spacing.window.drop (if 16 ≤ s.spacing.window.length then 1 else 0) ++
           [{ station := f.sender.toNat, lane := (byteAt f.payload 0).getD 0, age := 0
              life := s.ctl.setup.window * 100 }] ∧
       t.spacing.passed = (s.spacing.slot.isSome && (decide (t.spacing.window.length < s.ctl.setup.spacing) &&
         !s.ctl.supplyLow && s.spacing.quiet.isNone)))) ∧
  (∀ (u : Bool) (f : Bare) (s : State), s.running = true → s.spacing.isLocal = true →
     exec (.startNoticeReceived u f) s = .next { s with link := { s.link with
       lineIdle := false, response := none, ack := s.ctl.pair.isSome && s.acceptsDest f.dest } }) ∧
  (∀ (n : Nat) (s : State), s.running = true → s.spacing.isLocal = true → s.startsSound →
     (n < s.spacing.window.length →
       ∃ t, exec (.windowEntryExpiry n) s = .next t ∧ s.sameFrames t ∧ s.sameLine t ∧
         t = { s with seqs := t.seqs, spacing := t.spacing, link := t.link } ∧
         State.localTest { s with spacing := { s.spacing with window := s.spacing.window.eraseIdx n } } t) ∧
     (s.spacing.quiet.isSome = true →
       ∃ t, exec .quietPeriodEnd s = .next t ∧ s.sameFrames t ∧ s.sameLine t ∧
         t = { s with seqs := t.seqs, spacing := t.spacing, link := t.link } ∧
         State.localTest { s with spacing := { s.spacing with quiet := none } } t)) ∧
  (∀ (l : LaneId) (s : State), s.running = true →
     ∃ t, exec (.spacingWait2W l) s = .next t ∧ s.sameFrames t ∧ s.sameLine t ∧
       t = { s with spacing := t.spacing, link := t.link } ∧
       ((∀ n, (s.seq l).state ≠ .spacing n) → s.sameStarts t) ∧
       (∀ n, (s.seq l).state = .spacing n →
         t.spacing = { s.spacing with
           waiting := s.spacing.waiting.map fun r => if r.lane = l then { r with urgent := true } else r
           slot := t.spacing.slot } ∧
         t.spacing.slot.map Notice.still =
           s.spacing.slot.map fun x =>
             { x with
               onLine := false
               urgent := x.urgent || (decide (x.lane = l) && !x.onLine && !x.withdrawn) }))

/-- IDLE_WATCH_EXPIRY: local mode is set, the entries of other stations go, and no notice is offered (R148). The head
request is granted at once when the window has room, the supply is not low and the quiet period is over, and the next one
after it by the same test; otherwise no lane moves. MODEL'S CHOICE (log entry 29): a notice on the line when its request is
granted runs to its end as a withdrawn one. LINE_IDLE: local mode ends, the idle watch is restarted at 5.0 s, the check is
made, and the station transmits what it holds: the offered notice before the head of the queue (R142, R148, R174). -/
def Obligations.LocalModeAndLineIdle : Prop :=
  (∀ s : State, s.running = true →
     ∃ t, exec .idleWatchExpiry s = .next t ∧ s.sameFrames t ∧ s.sameLine t ∧
       t = { s with seqs := t.seqs, spacing := t.spacing, link := t.link } ∧
       t.spacing.isLocal = true ∧ t.spacing.passed = false ∧
       (let own := s.spacing.window.filter fun e => s.ctl.pair == some e.station
        let room := own.length < s.ctl.setup.spacing ∧ s.ctl.supplyLow = false ∧ s.spacing.quiet = none
        (s.spacing.waiting = [] ∨ ¬ room → t.seqs = s.seqs ∧
          t.spacing = { s.spacing with window := own, isLocal := true, idle := 0, passed := false }) ∧
        (s.startsSound →
          State.localTest { s with spacing := { s.spacing with window := own, isLocal := true, idle := 0 } } t))) ∧
  (∀ s : State, s.running = true → s.ctl.pair.isSome = true → s.transmitting = false →
     ∃ t, exec .lineIdle s = .next t ∧
       t = { s with
         spacing := { s.spacing with
           isLocal := false, idle := 5000, slot := t.spacing.slot, passed := t.spacing.passed }
         link := { s.link with queue := t.link.queue, lineIdle := t.link.lineIdle } } ∧
       t.spacing.passed = (s.spacing.slot.isSome && s.startRoom) ∧
       (∀ n, s.spacing.slot = some n → s.startRoom = true →
         t.spacing.slot = some { n with onLine := true } ∧ t.link.queue = s.link.queue ∧ t.link.lineIdle = false) ∧
       (s.spacing.slot = none ∨ s.startRoom = false → t.spacing.slot = s.spacing.slot ∧
         (∀ f q, s.link.queue = f :: q → t.link.queue = { f with onLine := true } :: q ∧ t.link.lineIdle = false) ∧
         (s.link.queue = [] → t.link.queue = [] ∧ t.link.lineIdle = true)))

/-- The outcome of the notice on the line: sent, its own entry is added, its request leaves, its lane gets the grant and the
next request's notice takes the slot (R143); a withdrawn one is counted without a grant (R146); lost, it stays in the slot,
of class URGENT_START from now on when its request was marked meanwhile (R140, R145), or is removed when withdrawn. In local
mode the test of R148 follows each of these outcomes. MODEL'S CHOICE (log entry 29): a notice on the line when its request
is granted runs to its end as a withdrawn one. The outcome of a queued frame on the line, without a mark: lost, it stays in
the queue at its place; acknowledged or not, it is removed (R174). MODEL'S CHOICE (log entry 9): an outcome with nothing on
the line, or with an empty slot, changes nothing. -/
def Obligations.TransmissionOutcomes : Prop :=
  (∀ s : State, s.running = true → s.link.lineIdle = false →
     (s.spacing.slot = none → ∀ sent : Bool, exec (.startNoticeOutcome sent) s = .next s) ∧
     ∀ n, s.spacing.slot = some n →
     (let rest := if n.withdrawn then s.spacing.waiting else s.spacing.waiting.drop 1
      (n.onLine = false → ∀ sent : Bool, exec (.startNoticeOutcome sent) s = .next s) ∧
      (n.onLine = true → n.withdrawn = false →
        (let again := { s.spacing with slot := some { n with
           onLine := false, urgent := n.urgent || s.spacing.waiting.any fun r => r.lane == n.lane && r.urgent } }
         ∃ t, exec (.startNoticeOutcome false) s = .next t ∧
           (s.spacing.isLocal = false → t = { s with spacing := again }) ∧
           (s.spacing.isLocal = true → s.startsSound →
             t = { s with seqs := t.seqs, spacing := t.spacing } ∧ State.localTest { s with spacing := again } t))) ∧
      (n.onLine = true → n.withdrawn = true →
        (let removed := { s.spacing with slot := rest.head?.map StartRequest.notice }
         ∃ t, exec (.startNoticeOutcome false) s = .next t ∧
           (s.spacing.isLocal = false ∨ rest = [] →
             t = { s with spacing := { removed with passed := t.spacing.passed } } ∧
             t.spacing.passed = (t.spacing.slot.isSome && s.startRoom)) ∧
           (s.spacing.isLocal = true → rest.length ≤ 2 → s.ctl.setup.spacing ≤ 8 →
             t = { s with seqs := t.seqs, spacing := t.spacing } ∧ State.localTest { s with spacing := removed } t))) ∧
      (n.onLine = true →
        (let made := { s.spacing with
           window := s.spacing.window.drop (if 16 ≤ s.spacing.window.length then 1 else 0) ++
             [{ station := s.ctl.pair.getD 0, lane := laneCode n.lane, age := 0, life := s.ctl.setup.window * 100 }]
           waiting := rest, slot := rest.head?.map StartRequest.notice }
         let seqs := if n.withdrawn then s.seqs else s.seqs.set n.lane (s.seq n.lane).granted
         ∃ t, exec (.startNoticeOutcome true) s = .next t ∧
           (s.spacing.isLocal = false ∨ rest = [] →
             t = { s with seqs := seqs, spacing := { made with passed := t.spacing.passed } } ∧
             t.spacing.passed = (t.spacing.slot.isSome && (decide (t.spacing.window.length < s.ctl.setup.spacing) &&
               !s.ctl.supplyLow && s.spacing.quiet.isNone))) ∧
           (s.spacing.isLocal = true → rest.length ≤ 2 → s.ctl.setup.spacing ≤ 8 →
             t = { s with seqs := t.seqs, spacing := t.spacing } ∧
             State.localTest { s with seqs := seqs, spacing := made } t))))) ∧
  (∀ (o : TxOutcome) (s : State), s.running = true → s.link.lineIdle = false →
     (s.link.queue.find? (·.onLine) = none → exec (.queuedFrameOutcome o) s = .next s) ∧
     ∀ f, s.link.queue.find? (·.onLine) = some f → (o = .lost ∨ f.mark = .none ∨ (f.mark = .transfer ∧ o = .unacked)) →
       exec (.queuedFrameOutcome o) s = .next { s with link := { s.link with
         queue := if o = .lost then s.link.queue.map fun g => { g with onLine := false }
           else s.link.queue.filter fun g => !g.onLine } })

/-- A census frame changes no state but the line's: no acknowledgement, and the station's position is driven exactly when
the frame is one it takes and its answer equals the sense (R150). The eight questions read the open flags and the lanes in
FAULT, the lanes in FAULT and the return, the prepaid balances, the lanes in HELD, the group, the session states, the
journal's free count and the setup's source (R151). -/
def Obligations.CensusAnswered : Prop :=
  ∀ (f : Bare) (s : State), s.running = true →
    ∃ t, exec (.census f) s = .next t ∧
      t = { s with link := { s.link with lineIdle := false, ack := false, response := t.link.response } } ∧
      (∀ q sense g rest p, f.payload = q :: sense :: g :: rest → s.ctl.pair = some p →
        t.link.response =
          if s.acceptsDest f.dest = true ∧ (isDesk f.sender.toNat ∨ isConsole f.sender.toNat) ∧ s.silent = false ∧
              q.toNat ≤ 7 ∧ sense.toNat ≤ 1 ∧ censusAnswer s g.toNat q.toNat = decide (sense.toNat = 1) then some p
          else none) ∧
      (s.ctl.pair = none ∨ f.payload.length < 3 → t.link.response = none) ∧
      ∀ g q : Nat, censusAnswer s g q = true ↔
        (q = 0 ∧ ∃ l, (s.meter l).isOpen = false ∧ ∀ r, (s.seq l).state ≠ .fault r) ∨
        (q = 1 ∧ ((∃ l r, (s.seq l).state = .fault r) ∨ ∃ j, s.ret.state = .jammed j)) ∨
        (q = 2 ∧ ∃ l, (s.meter l).isOpen = true ∧ (s.meter l).prepaid = true ∧ (s.meter l).balance < s.ctl.setup.low) ∨
        (q = 3 ∧ ∃ l h, (s.seq l).state = .held h) ∨
        (q = 4 ∧ s.link.groupOn = true ∧ s.link.group = g) ∨
        (q = 5 ∧ ∃ x ∈ s.sessions, x.state = .playing ∨ (∃ b, x.state = .waitPartner b) ∨ x.state = .waitMove) ∨
        (q = 6 ∧ min (8 * s.store.share - s.store.journal.length) (4294967295 - s.store.lastSeq) < 2 * s.store.share) ∨
        (q = 7 ∧ s.ctl.source = some .builtIn)

/-- A frame is well formed when its length is at most 32 and that of its payload, its class is one of the thirteen, and its
check field is R190's over the bits from class to payload, each field's most significant bit first (R170). One that is not
well formed is neither acknowledged nor acted on (R170); one of class FAULT, REPLY or DISPLAY is acknowledged only (R172).
MODEL'S CHOICE (log entry 31): a well-formed frame that spells a command has that command's effect. -/
def Obligations.FrameReceived : Prop :=
  (∀ f : RawFrame, RawFrame.wellFormed f = true ↔
     f.length.toNat ≤ 32 ∧ f.payload.length = f.length.toNat ∧ f.cls.toNat ≤ 12 ∧
       (let bits := (List.range 4).map (fun i => f.cls.getLsbD (3 - i)) ++
          (f.sender :: f.dest :: f.length :: f.payload).flatMap fun b => (List.range 8).map fun i => b.getLsbD (7 - i)
        f.check = bits.foldl
          (fun (r : BitVec 16) b => if b = r.getLsbD 15 then r <<< 1 else (r <<< 1) ^^^ ((1#16 <<< 12) ||| (1#16 <<< 5) ||| 1#16))
          (BitVec.allOnes 16))) ∧
  ∀ (f : RawFrame) (s : State), s.running = true →
    (RawFrame.wellFormed f = false →
      ∃ t, exec (.receiveFrame f) s = .next t ∧
        t = { s with link := { s.link with lineIdle := false, ack := false, response := none } }) ∧
    (RawFrame.wellFormed f = true →
      (∀ c, commandOf f = some c → exec (.receiveFrame f) s = exec c s) ∧
      (f.cls = 3#4 ∨ f.cls = 11#4 ∨ f.cls = 12#4 →
        ∃ t, exec (.receiveFrame f) s = .next t ∧
          t = { s with link := { s.link with
            lineIdle := false, response := none, ack := s.ctl.pair.isSome && s.acceptsDest f.dest } }))

/-! ## Session transfer -/

/-- An OFFER to the pair address with fields in range: answered ACCEPT, with the lane reserved and the record in ACCEPTED,
or DECLINE with the first reason that applies (R157); an OFFER to another address, or with fields out of range, is ignored.
MODEL'S CHOICE (log entry 49): a transfer tag of 0 is taken as any other is. -/
def Obligations.OfferTaken : Prop :=
  ∀ (m : Msg) (s : State), s.running = true →
    ∃ t, exec (.offer m) s = .next t ∧ t = { s with transfer := t.transfer, link := t.link } ∧
      (∀ o, parseOffer m.args = some o → 1 ≤ o.size ∧ o.size ≤ 6 ∧ 1 ≤ o.number ∧ o.number ≤ 99 ∧ 1 ≤ o.frame ∧
        o.frame ≤ 10 ∧ o.current ≤ o.size ∧ o.limit ≤ 99 ∧ o.discount ≤ 100) ∧
      (s.ctl.pair ≠ some m.dest.toNat ∨ parseOffer m.args = none →
        t.transfer = s.transfer ∧ t.link = { s.link with
          lineIdle := false, response := none, ack := s.ctl.pair.isSome && s.acceptsDest m.dest }) ∧
      (s.ctl.pair = some m.dest.toNat → s.room 1 → ∀ o, parseOffer m.args = some o → s.acked t ∧
        (let reason : Option AnswerReason :=
          if ¬ (1 ≤ m.sender.toNat ∧ m.sender.toNat ≤ 60) then some .notPermitted
          else if s.transfer.record ≠ .idle then some .busy
          else if (s.meter o.lane).isOpen = false then some .laneClosed
          else if s.occupied o.lane = true then some .laneTaken
          else if 2 ≤ s.sessions.length then some .tableFull
          else none
         placed { dest := m.sender.toNat, payload := .transfer m.tag.toNat (.answer reason), mark := .transfer
                  onLine := false } s.link.queue t.link.queue ∧
         let parts := List.replicate o.size (BowlerParts.mk none none)
         t.transfer = if reason = none then
             { s.transfer with record := .target false m.tag.toNat m.sender.toNat o parts false 1500 }
           else s.transfer))

/-- IDENT and BALLS at the target (R159): from the peer with the tag they are written to the bowler's part, replacing an
earlier one, or set the structure fault; the record is in RECEIVING and the step timer starts again. From another sender, or
with another tag, they are ignored, and so they are while the record is not on the target's side. -/
def Obligations.PartsTaken : Prop :=
  ∀ (m : Msg) (s : State), s.running = true → s.ctl.pair = some m.dest.toNat →
    (s.reserved = none →
      exec (.ident m) s = .next { s with link := { s.link with lineIdle := false, ack := true, response := none } } ∧
      exec (.balls m) s = .next { s with link := { s.link with lineIdle := false, ack := true, response := none } }) ∧
    ∀ r tag peer o parts bad n, s.transfer.record = .target r tag peer o parts bad n →
    (let mine := m.sender.toNat = peer ∧ m.tag.toNat = tag
     let line := { s.link with lineIdle := false, ack := true, response := none }
     let write := fun (parts : List BowlerParts) (bad : Bool) =>
       { s with link := line, transfer := { s.transfer with record := .target true tag peer o parts bad 1500 } }
     (¬ mine → exec (.ident m) s = .next { s with link := line } ∧ exec (.balls m) s = .next { s with link := line }) ∧
     (mine → ∀ i, parseIdent m.args = some i →
       exec (.ident m) s = .next
         (if 1 ≤ i.1 ∧ i.1 ≤ o.size then write (parts.modify (i.1 - 1) fun p => { p with ident := some i.2 }) bad
          else write parts true)) ∧
     (mine → ∀ b, parseBalls m.args = some b →
       exec (.balls m) s = .next
         (if 1 ≤ b.1 ∧ b.1 ≤ o.size ∧ b.2.1 ≤ 10 ∧ (∀ x ∈ b.2.2.balls, x.pins ≤ 10) ∧ (∀ x ∈ b.2.2.counts, x ≤ 3) ∧
             b.2.2.balls.length = b.2.2.counts.sum then
           write (parts.modify (b.1 - 1) fun p => { p with balls := some b.2.2 }) bad
          else write parts true)))

/-- The source sends its parts one at a time. An ACCEPT in OFFERED queues IDENT of bowler 1 (R158); an acknowledged part
queues the next one, and after BALLS of the last bowler COMMIT, with which record and session are COMMITTED (R160). The step
timer starts again each time. An ANSWER that is not the record's is ignored, an ACCEPT or a DECLINE, and so is one in a
state that takes none, and one whose result or reason is outside its list (R194). MODEL'S CHOICE (log entry 56): so is an
ACCEPT with a reason other than 0, or a DECLINE with reason 0. -/
def Obligations.SourceSends : Prop :=
  ∀ (m : Msg) (s : State), s.running = true → s.sends 1 → s.ctl.pair = some m.dest.toNat →
    ∀ st tag peer lane sid req timer, s.transfer.record = .source st (some tag) peer lane sid req timer →
    ∀ x, s.session? sid = some x →
    (let accept := m.args[0]? = some 0#8 ∧ m.args[1]? = some 0#8
     let decline := m.args[0]? = some 1#8 ∧ ∃ r ∈ m.args[1]?, 1 ≤ r.toNat ∧ r.toNat ≤ 7
     let mine := m.sender.toNat = peer ∧ m.tag.toNat = tag
     (¬ mine ∨ st ≠ .offered ∧ (accept ∨ st ≠ .committed) ∨ ¬ accept ∧ ¬ decline →
       exec (.answer m) s = .next { s with link := { s.link with lineIdle := false, ack := true, response := none } }) ∧
     (accept → st = .offered → mine → ∀ p, x.partMsg (.ident 1) = some p →
       ∃ t, exec (.answer m) s = .next t ∧ s.acked t ∧
         t = { s with link := t.link, transfer := { s.transfer with
           record := .source (.sending (.ident 1)) (some tag) peer lane sid req (some 1500) } } ∧
         placed ⟨peer, .transfer tag p, .transfer, false⟩ s.link.queue t.link.queue)) ∧
    (∀ part, st = .sending part → s.link.lineIdle = false →
      ∀ f, s.link.queue.find? (·.onLine) = some f → f.mark = .transfer →
      ∀ p, x.partMsg part = some p → f.payload = .transfer tag p →
      ∃ t, exec (.queuedFrameOutcome .acked) s = .next t ∧ s.sameLine t ∧
        t = { s with link := t.link, sessions := t.sessions, transfer := t.transfer } ∧
        (∀ next, part.after x.size = some next → ∀ y, x.partMsg next = some y →
          t.sessions = s.sessions ∧
          t.transfer = { s.transfer with
            record := .source (.sending next) (some tag) peer lane sid req (some 1500) } ∧
          placed ⟨peer, .transfer tag y, .transfer, false⟩ (s.link.queue.filter fun g => !g.onLine) t.link.queue) ∧
        (part.after x.size = none →
          t.sessions = s.sessions.map (fun y => if y.id = x.id then { x with state := .moving .committed } else y) ∧
          t.transfer = { s.transfer with record := .source .committed (some tag) peer lane sid req (some 1500) } ∧
          placed ⟨peer, .transfer tag .commit, .transfer, false⟩ (s.link.queue.filter fun g => !g.onLine)
            t.link.queue))

/-- A COMMIT from the peer with the tag at the target (R161, R162). A part that is missing is answered with a DECLINE
INCOMPLETE; the structure fault, or a game with another number of filled frames than the offer's place asks, a frame of no
ended shape or a foul ball with pins, with a DECLINE STRUCTURE; the parts are discarded. A session that passes is installed
PLAYING beside at most one other, the first bowler behind the offer's index chosen, here one who is not absent: each bowler
as the IDENT says, the name and the handicap as R66 gives, with the carried frames and the charged flag; the game is scored,
COMPLETE with ten frames (R55), and its first lane is REMOTE when frame 1 is filled. MODEL'S CHOICE (log entry 25): games
completed are at most 99. DONE is queued. On an ARMED lane the turn starts, with the meter's admission (R81, R116);
elsewhere it waits. A cross session of the other lane is un-crossed and goes on by its position (R79, R162), here on lanes
that do not charge. Any other COMMIT is ignored: from another sender, with another tag, of a record that is IDLE or on the
source's side. -/
def Obligations.CommitTaken : Prop :=
  ∀ (m : Msg) (s : State), s.running = true → s.ctl.pair = some m.dest.toNat → s.room 1 →
    (let ignored := exec (.commit m) s =
       .next { s with link := { s.link with lineIdle := false, ack := true, response := none } }
     (s.reserved = none → ignored) ∧
     ∀ r tag peer o parts bad n, s.transfer.record = .target r tag peer o parts bad n →
     (let mine := m.sender.toNat = peer ∧ m.tag.toNat = tag
      let complete := ∀ p ∈ parts, p.ident.isSome = true ∧ p.balls.isSome = true
      let filled := fun i => if i < o.current then o.frame else o.frame - 1
      let balls := fun (f : BallsFields) (j : Nat) => (f.balls.drop (f.counts.take j).sum).take (f.counts.getD j 0)
      let sound := bad = false ∧ ∀ i < parts.length, ∀ f ∈ (parts[i]?).bind (·.balls), f.counts.length = filled i ∧
        ∀ j < f.counts.length, (balls f j = [] ∨ endedPins (j + 1) ((balls f j).map (·.pins)) = true) ∧
          ∀ e ∈ balls f j, e.foul = true → e.pins = 0
      let armed := fun k => decide ((s.seq k).state = .armed)
      let alone := ∀ y ∈ s.sessions, y.cross = true → y.occupies (other o.lane) = false
      let joined := fun (x : Session) (ys : List Session) =>
        (ys.filter fun y => decide (y.id < x.id)) ++ x :: ys.filter fun y => decide (x.id < y.id)
      let id := if 255 ≤ s.newId then 1 else s.newId + 1
      let pos : GamePos := { number := o.number, frame := o.frame, lane := o.lane }
      (¬ mine → ignored) ∧
      (mine → ∃ t, exec (.commit m) s = .next t ∧ s.acked t ∧ t.transfer = { s.transfer with record := .idle } ∧
        (¬ complete ∨ ¬ sound →
          t = { s with link := t.link, transfer := t.transfer } ∧
          placed ⟨peer, .transfer tag (.answer (some (if complete then .badStructure else .incomplete))), .transfer, false⟩
            s.link.queue t.link.queue) ∧
        (complete → sound → s.sessions.length ≤ 1 →
          (∃ d ∈ (parts[o.current]?).bind (·.ident), d.absent = false) →
          ∃ x : Session,
            x = { id := s.newId, home := o.lane, cross := false, state := .playing, size := o.size, bowlers := x.bowlers
                  pos := some pos, turn := .outstanding, current := some (o.current + 1), limit := o.limit
                  discount := o.discount } ∧
            x.bowlers.length = parts.length ∧
            (∀ (i : Nat) (b : Bowler), x.bowlers[i]? = some b → ∀ (d : IdentFields) (f : BallsFields),
              parts[i]? = some ⟨some d, some f⟩ →
              b = { name := (d.name.take 12).map fun c => if 32 ≤ c.toNat ∧ c.toNat ≤ 126 then c else 63#8
                    handicap := min d.handicap 255, absent := d.absent, completed := min 99 d.completed, game := b.game
                    first := if f.counts = [] then ballLane o.lane else .remote } ∧
              b.game.isSome = true ∧ ∀ g : Game, b.game = some g →
                g = { name := b.name, handicap := b.handicap, number := o.number, frames := g.frames
                      status := if f.counts.length = 10 then .complete else .playing, charged := d.charged
                      scratch := g.scratch, total := g.total, revision := g.revision } ∧
                (o.frame ≤ 10 → g.scored) ∧
                ∀ j < 10, (g.slot (j + 1)).isSome = decide (j < f.counts.length) ∧
                  g.ballsOf (j + 1) = (balls f j).mapIdx fun k c =>
                    { frame := j + 1, ball := k + 1, before := none, after := none, pins := c.pins, foul := c.foul
                      estimated := c.estimated, split := c.split, corrected := c.corrected, supplied := c.supplied
                      lane := .remote }) ∧
            (alone → armed o.lane = false →
              placed ⟨peer, .transfer tag .done, .transfer, false⟩ s.link.queue t.link.queue ∧
              t = { s with link := t.link, transfer := t.transfer, nextId := id, sessions := joined x s.sessions }) ∧
            (alone → armed o.lane = true → s.room 3 → t.queued peer (.transfer tag .done) ∧
              t = { s with
                link := t.link, transfer := t.transfer, nextId := id, sessions := t.sessions, store := t.store
                seqs := s.seqs.set o.lane (t.seq o.lane), meters := s.meters.set o.lane (t.meter o.lane) } ∧
              t.seq o.lane = { s.seq o.lane with
                holds := (t.seq o.lane).holds, state := (t.seq o.lane).state, foul := (t.seq o.lane).foul } ∧
              ∃ b ∈ x.bowlers[o.current]?, ∃ g ∈ b.game,
                State.turnStarts { s with sessions := joined x s.sessions } t o.lane x (o.current + 1) b g pos) ∧
            (∀ y, s.sessions = [y] → y.cross = true → y.home = other o.lane → y.state ≠ .parked → s.room 3 →
              (∀ k, (s.meter k).mode = .none) → (y.pos ≠ none → ∀ b ∈ y.bowlers, b.game.isSome = true) →
              (∀ b, y.state = .waitPartner b → b ≠ .frame 10 ∧ (b ≠ .start → y.pos ≠ none)) →
              t.queued peer (.transfer tag .done) ∧
              t = { s with
                link := t.link, transfer := t.transfer, nextId := id, seqs := t.seqs, meters := t.meters
                sessions := joined { x with turn := if armed o.lane then .active else .outstanding }
                  [y.uncrossed armed] } ∧
              ∀ k, t.seq k = { s.seq k with foul := (t.seq k).foul } ∧
                t.meter k = { s.meter k with wait := (t.meter k).wait })))))

/-- DONE in COMMITTED from the peer with the tag removes the session without archiving and answers the requester (R163); the
new session id it is told is a free value in 1..255 (log entry 13). A DONE that is not the record's, or in another state, or
that finds the side IDLE or the target's, is ignored. A move that fails before DONE without parking: a DECLINE in OFFERED or
in COMMITTED, or the step timer in OFFERED or SENDING. MODEL'S CHOICE (log entry 32): the DECLINE of COMMITTED is taken from
an ANSWER too, which R158 has ignored in any state but OFFERED. MODEL'S CHOICE (log entry 56): a DECLINE is an ANSWER with
result 1 and a reason 1 to 7. The requester is told the step and the reason, the record's side becomes IDLE, and the session
returns to PLAYING with a turn selection; here one that chooses a bowler, on a lane that is not ARMED (R158, R163). The step
timers' expiry. In COMMITTED the source parks the session, with its notice and FAILED with step COMMIT and no reason but
TIMEOUT (R163); in ACCEPTED or RECEIVING the target discards the parts and the reservation, and sends nothing (R164). Each
timer's expiry does nothing in WAITING, in IDLE and on the other's side. -/
def Obligations.MovesEnd : Prop :=
  (∀ (m : Msg) (s : State), s.running = true → s.ctl.pair = some m.dest.toNat → s.room 1 →
     ∀ st tag peer lane sid req timer, s.transfer.record = .source st tag peer lane sid req timer →
     (st ≠ .committed ∨ m.sender.toNat ≠ peer ∨ tag ≠ some m.tag.toNat →
       exec (.transferDone m false) s =
         .next { s with link := { s.link with lineIdle := false, ack := true, response := none } }) ∧
     (st = .committed → m.sender.toNat = peer → tag = some m.tag.toNat →
       ∃ t, exec (.transferDone m false) s = .next t ∧ s.acked t ∧
         t = { s with
           link := t.link, transfer := { s.transfer with record := .idle }
           sessions := s.sessions.filter fun x => x.id != sid, free := s.free + 1 } ∧
         ∃ id, 1 ≤ id ∧ id ≤ 255 ∧
           placed ⟨req.1, laterReply req.2 .moveSession .done (.moved id peer), .none, false⟩ s.link.queue t.link.queue)) ∧
  (∀ (m : Msg) (s : State), s.running = true → s.transfer.record = .idle ∨ s.reserved ≠ none →
     (s.ctl.pair = some m.dest.toNat → exec (.transferDone m false) s =
       .next { s with link := { s.link with lineIdle := false, ack := true, response := none } }) ∧
     ∃ t, exec .sourceStepTimeout s = .next t ∧ s.quiet t ∧ t = { s with link := t.link, spacing := t.spacing }) ∧
  (∀ (c : Instr) (s : State), s.running = true → s.sends 1 →
     ∀ st tag peer lane sid req timer, s.transfer.record = .source st tag peer lane sid req timer →
     ∀ f, moveFailure c s = some f → ∀ x, s.session? sid = some x → ∀ l, x.frameLane = some l →
     (s.seq l).state ≠ .armed → ({ x with state := .playing }).choose.2 = .chosen →
     ∃ t, exec c s = .next t ∧
       t = { s with
         link := t.link, spacing := t.spacing, transfer := { s.transfer with record := .idle }
         sessions := s.sessions.map fun y =>
           if y.id = x.id then ({ x with state := .playing }).choose.1 else y } ∧
       s.sameStarts t ∧
       placed ⟨req.1, laterReply req.2 .moveSession .failed (.moveFailed f.1 f.2), .none, false⟩ s.link.queue t.link.queue) ∧
  (∀ s : State, s.running = true →
     (∀ st tag peer lane sid req timer, s.transfer.record = .source st tag peer lane sid req timer →
       (st = .waiting → ∃ t, exec .sourceStepTimeout s = .next t ∧ s.quiet t ∧
         t = { s with link := t.link, spacing := t.spacing }) ∧
       (st = .committed → s.sends 2 → ∀ x, s.session? sid = some x →
         ∃ t, exec .sourceStepTimeout s = .next t ∧ s.sameStarts t ∧ s.sameLine t ∧
           t = { s with
             link := t.link, spacing := t.spacing, transfer := { s.transfer with record := .idle }
             sessions := s.sessions.map fun y => if y.id = x.id then { x with state := .parked, turn := .none } else y } ∧
           t.queued 255 (.notice (.sessionParked sid)) ∧
           t.queued req.1 (laterReply req.2 .moveSession .failed (.moveFailed .commit none)))) ∧
     (∃ t, exec .targetStepTimeout s = .next t ∧ s.quiet t ∧
       t = { s with
         link := t.link, spacing := t.spacing
         transfer := { s.transfer with record := match s.transfer.record with
           | .target _ _ _ _ _ _ _ => .idle
           | r => r } }))

/-! ## Setup, supply, resets -/

/-- A TIME frame accepted at any of the station's addresses, from a desk, with its values in range sets the clock; any other
is ignored (R186). A setup request of another pair controller places it on the answer list with its delay, or restarts its
delay, at a station whose source is DESK or PEER (R185). SETUP_WAIT_EXPIRY adopts the built-in defaults while the station is
UNCONFIGURED (R184), and does nothing after; an answer delay that expires queues the adopted setup to its requester, which
leaves the list (R185). -/
def Obligations.TimeRequestsAndTimers : Prop :=
  (∀ (f : Bare) (s : State), s.running = true →
     (let line := { s.link with
        lineIdle := false, response := none, ack := s.ctl.pair.isSome && s.acceptsDest f.dest }
      exec (.time f) s = .next { s with
        link := line
        ctl := { s.ctl with
          clock := match parseTime f.payload with
            | some k => if s.acceptsDest f.dest = true ∧ 240 ≤ f.sender.toNat ∧ f.sender.toNat ≤ 247 then some k
              else s.ctl.clock
            | none => s.ctl.clock } } ∧
      (∀ k, parseTime f.payload = some k → k.day ≤ 6 ∧ k.second ≤ 86399) ∧
      ∀ p, s.ctl.pair = some p →
        (let r := f.sender.toNat
         let delay := 20 * ((p + 64 - r) % 64)
         exec (.setupRequest f) s = .next { s with
           link := line
           ctl := { s.ctl with
             answers := if s.acceptsDest f.dest = true ∧ 1 ≤ r ∧ r ≤ 60 ∧ r ≠ p ∧
                 (s.ctl.source = some .desk ∨ s.ctl.source = some .peer) then
               (if ∃ e ∈ s.ctl.answers, e.1 = r then s.ctl.answers.map fun e => if e.1 = r then (r, delay) else e
                else s.ctl.answers ++ [(r, delay)])
             else s.ctl.answers } }))) ∧
  (∀ (r : Byte) (s : State), s.running = true → s.sends 1 →
     (∃ t, exec .setupWaitExpiry s = .next t ∧ s.quiet t ∧
       t = { s with ctl := t.ctl, store := t.store, link := t.link, spacing := t.spacing } ∧
       (s.ctl.source ≠ none → t.ctl = s.ctl ∧ t.store = s.store) ∧
       (s.ctl.source = none →
         t.ctl = { s.ctl with setup := t.ctl.setup, source := some .builtIn, setupWait := none } ∧
         t.ctl.setup = { spacing := 3, window := 20, settle := 18, transit := 12, share := 24, low := 500, strain := 150
                         stall := 210 } ∧
         t.store = (if s.store.share = 24 then { s.store with layoutHeld := false }
           else if s.store.journal = [] then { s.store with share := 24, archive := [], layoutHeld := false }
           else { s.store with layoutHeld := true }))) ∧
     (∃ t, exec (.setupAnswerDelayExpiry r) s = .next t ∧ s.sameStarts t ∧ s.sameLine t ∧
       t = { s with
         ctl := { s.ctl with answers := s.ctl.answers.filter fun e => e.1 != r.toNat }, link := t.link
         spacing := t.spacing } ∧
       ((∀ e ∈ s.ctl.answers, e.1 ≠ r.toNat) → s.sameFrames t) ∧
       ((∃ e ∈ s.ctl.answers, e.1 = r.toNat) →
         s.queues t r.toNat .none (.setupAnswer s.ctl.setup))))

/-- A setup answer (R184, R185): it takes its destination off the answer list; the first one accepted from a desk or a pair
controller is adopted, with the layout check of R126; one taken while the setup is locked changes nothing else, and is
refused LOCKED when it came to the pair address. MODEL'S CHOICE (log entry 54): it takes its destination off the list
whoever sent it. -/
def Obligations.SetupAnswerTaken : Prop :=
  ∀ (f : Bare) (s : State), s.running = true → s.room 1 →
    ∃ t, exec (.setupAnswer f) s = .next t ∧
      t = { s with ctl := t.ctl, store := t.store, link := t.link } ∧
      t.link = { s.link with
        lineIdle := false, response := none, ack := s.ctl.pair.isSome && s.acceptsDest f.dest, queue := t.link.queue } ∧
      (parseSetup f.payload = none → t.ctl = s.ctl ∧ t.store = s.store ∧ t.link.queue = s.link.queue) ∧
      ∀ u, parseSetup f.payload = some u →
        (let own := s.ctl.pair = some f.dest.toNat
         let desk := 240 ≤ f.sender.toNat ∧ f.sender.toNat ≤ 247
         let heard := (own ∨ f.dest.toNat = 255) ∧ (desk ∨ 1 ≤ f.sender.toNat ∧ f.sender.toNat ≤ 60)
         let answers := s.ctl.answers.filter fun e => e.1 != f.dest.toNat
         setupSound u ∧
         (heard → s.ctl.source = none →
           t.ctl = { s.ctl with
             answers := answers, setup := u, source := some (if desk then .desk else .peer), setupWait := none } ∧
           t.link.queue = s.link.queue ∧
           t.store = (if u.share = s.store.share then { s.store with layoutHeld := false }
             else if s.store.journal = [] then { s.store with share := u.share, archive := [], layoutHeld := false }
             else { s.store with layoutHeld := true })) ∧
         (¬ heard ∨ s.ctl.source ≠ none → t.ctl = { s.ctl with answers := answers } ∧ t.store = s.store ∧
           (¬ heard ∨ ¬ own → t.link.queue = s.link.queue) ∧
           (heard → own → placed ⟨f.sender.toNat,
             .reply { req := .setup, tag := 0, deferred := false, result := .refused .locked, data := .none }, .none, false⟩
               s.link.queue t.link.queue)))

/-- The supply's warning: a fall sets the flag and queues SUPPLY_LOW unless it is set, a release clears it, and the spacing
unit's check is made, or in local mode the test of R148; while the flag is set no notice is offered (R142, R187). MODEL'S
CHOICE (log entry 29): a notice on the line when its request is granted runs to its end as a withdrawn one. -/
def Obligations.SupplyWarns : Prop :=
  ∀ s : State, s.running = true → s.sends 1 →
    (∃ t, exec .supplyWarningFall s = .next t ∧ s.sameLine t ∧
      t = { s with ctl := { s.ctl with supplyLow := true }, spacing := t.spacing, link := t.link } ∧
      t.spacing = { s.spacing with slot := t.spacing.slot, passed := t.spacing.passed } ∧
      t.spacing.slot.map Notice.still = s.spacing.slot.map Notice.still ∧
      (s.ctl.supplyLow = true → s.quiet t) ∧
      (s.ctl.supplyLow = false → t.spacing.passed = false ∧ s.queues t 255 .none (.notice .supplyLow))) ∧
    (∃ t, exec .supplyWarningRelease s = .next t ∧ s.sameFrames t ∧ s.sameLine t ∧
      t = { s with ctl := { s.ctl with supplyLow := false }, seqs := t.seqs, spacing := t.spacing, link := t.link } ∧
      (s.spacing.isLocal = false ∨ s.ctl.supplyLow = false → t.seqs = s.seqs ∧
        t.spacing = { s.spacing with slot := t.spacing.slot, passed := t.spacing.passed } ∧
        t.spacing.slot.map Notice.still = s.spacing.slot.map Notice.still ∧
        t.spacing.passed = if s.ctl.supplyLow then
            s.spacing.slot.isSome && (decide (s.spacing.window.length < s.ctl.setup.spacing) && s.spacing.quiet.isNone)
          else s.spacing.passed) ∧
      (s.spacing.isLocal = true → s.ctl.supplyLow = true → s.startsSound →
        State.localTest { s with ctl := { s.ctl with supplyLow := false } } t))

/-- POWER_ON (R183): every part outside the retained domain takes its power-on value, and the straps, the rack-full sensor
and the supply are read. Retention lost, the retained domain takes its values too (R40, R87, R107, R124, R139); kept, it is
kept, with sessions as R86 gives and lanes found open closed with reason POWER, lane A first (R124, R133). MODEL'S CHOICE
(log entry 10): the holds of the reset line and of a brownout are clear afterwards. MODEL'S CHOICE (log entry 46): the
calibration record, whose result is NONE, has no mode, no step completed and its stray-ball flag clear. The queue holds the
CREDIT_LOW of a closing rounding that took a prepaid balance below the level (R114, R120), the SESSION_PARKED of a session
that had committed (MODEL'S CHOICE, log entry 26: announced at this reset too), SUPPLY_LOW and the setup request (R184,
R187). MODEL'S CHOICE (log entry 12): in that order. MODEL'S CHOICE (log entry 58): a STATION_RESET still to be made is
dropped. -/
def Obligations.PoweredOn : Prop :=
  ∀ (retained : Bool) (strap : BitVec 6) (rackFull low : Bool) (s : State),
    ∃ t, exec (.powerOn retained strap rackFull low) s = .next t ∧
      (let pair := if 1 ≤ strap.toNat ∧ strap.toNat ≤ 60 then some strap.toNat else none
       t = { State.reset with
         pending := s.pending, free := s.free, decks := t.decks, meters := t.meters, sessions := t.sessions
         nextId := t.nextId, tariff := t.tariff, store := t.store
         ret := { State.reset.ret with rackFull := rackFull }
         link := { State.reset.link with queue := t.link.queue }
         ctl := { State.reset.ctl with
           pair := pair, supplyLow := low, cause := if retained then .powerOn else .retentionLost } } ∧
       (pair = none → t.link.queue = []) ∧
       (pair ≠ none → retained = false ∨ s.sessions.length ≤ 2 →
         (let frame := fun p : Payload => ({ dest := 255, payload := p, mark := .none, onLine := false } : QueuedFrame)
          let level : Int := Setup.builtIn.low
          let creditLow := fun l =>
            let m := s.meter l
            if m.isOpen ∧ m.prepaid ∧ level ≤ m.balance ∧ m.round.balance < level then
              [frame (.notice (.creditLow l m.round.balance))]
            else []
          t.link.queue =
            (if retained then
              creditLow .A ++ creditLow .B ++
                (s.sessions.filter fun x => decide (x.state = .moving .committed)).map fun x =>
                  frame (.notice (.sessionParked x.id))
            else []) ++
            (if low then [frame (.notice .supplyLow)] else []) ++ [frame .setupRequest])) ∧
       (retained = false →
         t.decks = State.reset.decks ∧ t.meters = State.reset.meters ∧ t.sessions = [] ∧ t.nextId = 1 ∧
         t.tariff = State.reset.tariff ∧ t.store = State.reset.store) ∧
       (retained = true →
         (∀ l, t.deck l = { State.reset.deck l with
           thresholds := (s.deck l).thresholds, unreadable := (s.deck l).unreadable }) ∧
         t.nextId = s.nextId ∧ t.tariff = s.tariff ∧
         t.sessions = s.sessions.map (fun x =>
           let turn := if x.turn = .active then .outstanding else x.turn
           match x.state with
           | .forming => { x with state := .suspended .forming, turn := turn }
           | .playing | .waitMove => { x with state := .suspended .playing, turn := turn }
           | .waitPartner b => { x with state := .suspended (.waitPartner b), turn := turn }
           | .moving .sending => { x with state := .suspended .playing, turn := .none }
           | .moving .committed => { x with state := .parked, turn := .none }
           | .suspended _ | .parked => { x with turn := turn }) ∧
         (∀ l, t.meter l = if (s.meter l).isOpen then { (s.meter l).round with isOpen := false, wait := none }
           else s.meter l) ∧
         (let closing := fun (l : LaneId) (n : Nat) =>
            if (s.meter l).isOpen then
              [({ seq := n, lane := l, time := none, body := (s.meter l).round.closeBody .power } : JournalEntry)]
            else []
          let a := closing .A (s.store.lastSeq + 1)
          let b := closing .B (s.store.lastSeq + a.length + 1)
          t.store = { s.store with
            layoutHeld := false, journal := s.store.journal ++ a ++ b
            lastSeq := s.store.lastSeq + a.length + b.length })))

/-- WARM_RESET (R188) with the station held by no other cause: each block takes its warm-reset values. On a lane whose lost
cycle record, one retained in a fault record included, held a respot, the current bowler's frame in play is truncated and
the turn is ENDED (R27, R58, R85). A session that returns from MOVING before COMMIT, or from WAIT_MOVE without a turn, is
PLAYING with the next bowler's turn OUTSTANDING (R76, R85, R166; here with a bowler left in the frame); a turn held runs on.
The meters, the tariffs, the store, the setup, the clock and the group are kept; a calibration in flight is ABORTED, its
mode, thresholds before, steps and misses settled kept (R38, R40); the holds CREDIT and JOURNAL and the hold mode are kept;
an open lane waits for its recovery cycle and the return purges (R27, R102); the quiet period of W begins (R147); the
transfer ends (R166). The frames queued before are gone (R182): the queue holds the SESSION_PARKED of a session that had
committed (R85), SUPPLY_LOW and the setup request (R184, R187). MODEL'S CHOICE (log entry 12): SESSION_PARKED before
SUPPLY_LOW. MODEL'S CHOICE (log entry 55): of two sessions current on one lane, the one that stands first in the table.
MODEL'S CHOICE (log entry 58): a STATION_RESET still to be made is dropped. -/
def Obligations.WarmResetMade : Prop :=
  ∀ (c : WarmCause) (low : Bool) (s : State), (s.setCtl (s.ctl.letGo c)).running = true →
    (s.sessions.map (·.id)).Nodup →
    (∀ x ∈ s.sessions, x.returns = true → firstPresent (x.current.getD 0) x.bowlers < x.bowlers.length) →
    ∃ t, exec (.warmReset c low) s = .next t ∧
      (let isOpen := fun l => (s.meter l).isOpen
       let request := fun l => if isOpen l then [freshRequest l .clearing] else []
       t = { s with
         seqs := t.seqs, decks := t.decks, sessions := t.sessions, ret := t.ret, spacing := t.spacing
         transfer := { s.transfer with record := .idle }
         link := { s.link with queue := t.link.queue, lineIdle := false, ack := false, response := none }
         ctl := { s.ctl.letGo c with
           setupWait := if s.ctl.source = none then some 2000 else none, answers := [], supplyLow := low
           cause := .warm c, warmCount := min 255 (s.ctl.warmCount + 1), resetDue := none } } ∧
       (∀ l, t.seq l =
         { state := if isOpen l then .spacing .clearing else .standby
           cycle := if isOpen l then
               some { kind := .full, read := false, origin := .recovery, restart := 0, frameEnd := false, ball := none }
             else none
           holds := { eachBall := false, frameEnd := false, desk := false, credit := (s.seq l).holds.credit
                      journal := (s.seq l).holds.journal, ret := false }
           mode := (s.seq l).mode, foul := false, stray := false, pend := none, timer := none }) ∧
       (∀ l, t.deck l = { s.deck l with
         rack := if isOpen l then (s.deck l).rack else .empty, cal := (t.deck l).cal } ∧
         (t.deck l).cal = if (s.deck l).cal.result = .running then
             { (s.deck l).cal with
               result := .aborted, reads := (t.deck l).cal.reads, misses := (t.deck l).cal.misses }
           else (s.deck l).cal) ∧
       (let lost := fun l => (s.seq l).lostCycle.any fun k => k.kind != .full
        let cut := fun x : Session => match x.frameLane, x.current with
          | some l, some i =>
            if lost l && s.currentBowler l == some (x.id, i) && x.midFrame then
              { x.modifyGame i (fun g => g.truncate.1) with turn := .ended }
            else x
          | _, _ => x
        let chosen := fun x : Session =>
          let k := x.current.getD 0
          let j := firstPresent k x.bowlers
          { x with
            turn := .outstanding, current := some (j + 1)
            bowlers := blanks ((x.pos.map fun p : GamePos => p.frame).getD 1) k j x.bowlers }
        t.sessions = s.sessions.map fun x =>
          match x.state with
          | .moving .sending | .waitMove =>
            if x.turn = .none then { chosen x with state := .playing } else { cut x with state := .playing }
          | .moving .committed => { cut x with state := .parked, turn := .none }
          | _ => cut x) ∧
       t.ret = { s.ret with
         transit := [], strain := false, purgeCount := none, pend := none, runOn := none
         state := if isOpen .A || isOpen .B then .purging else .idle
         purge := if isOpen .A || isOpen .B then some 8000 else none } ∧
       t.spacing =
         { window := [], waiting := request .A ++ request .B
           slot := (request .A ++ request .B).head?.map StartRequest.notice, passed := false
           quiet := some (s.ctl.setup.window * 100), idle := 5000, isLocal := false } ∧
       (s.ctl.pair = none → t.link.queue = []) ∧
       (s.ctl.pair ≠ none → s.sessions.length ≤ 2 →
         (let frame := fun p : Payload => ({ dest := 255, payload := p, mark := .none, onLine := false } : QueuedFrame)
          t.link.queue =
            ((s.sessions.filter fun x => decide (x.state = .moving .committed)).map fun x =>
              frame (.notice (.sessionParked x.id))) ++
            (if low then [frame (.notice .supplyLow)] else []) ++
            (if s.ctl.source = none then [frame .setupRequest] else []))))

/-- STATION_RESET (R188): answered DONE, and the reset is due 1.0 s later; a second one in that time changes nothing
further. The reset is made when the reply's transmission ends, acknowledged or not, at once when the queue discards the
reply, or at the timeout, whichever comes first; with no reset due the timeout does nothing. MODEL'S CHOICE (log entry 11):
this reset leaves the supply-low flag as it is. BROWNOUT and RESET_LINE_ASSERTED hold the station in reset (R187, R188).
MODEL'S CHOICE (log entry 10): while it is held no event is taken but the clock's tick, which reaches no meter (R123), and
the reset is made when the last hold ends. MODEL'S CHOICE (log entry 59): the demands on the machinery and the frame on the
line stay as they were until the reset is made. -/
def Obligations.ResetsAndHolds : Prop :=
  (∀ (m : Msg) (o : TxOutcome) (s : State), s.running = true →
     (s.reaches m .stationReset → s.room 1 →
       ∃ t, exec (.stationReset m) s = .next t ∧ s.acked t ∧
         t = { s with
           link := t.link, ctl := { s.ctl with resetDue := if s.ctl.resetDue = none then some 1000 else s.ctl.resetDue } } ∧
         placed ⟨m.sender.toNat, firstReply m .stationReset .done .none,
           if s.ctl.resetDue = none then .stationReset else .none, false⟩ s.link.queue t.link.queue) ∧
     (s.reaches m .stationReset → s.ctl.resetDue = none → 12 ≤ s.link.queue.length →
       (∀ f ∈ s.link.queue, f.payload.cls = 12 → f.onLine = true) →
       exec (.stationReset m) s = exec (.warmReset .stationReset s.ctl.supplyLow) s) ∧
     (∀ f, s.link.queue.find? (·.onLine) = some f → f.mark = .stationReset → o ≠ .lost →
       exec (.queuedFrameOutcome o) s = exec (.warmReset .stationReset s.ctl.supplyLow) s) ∧
     (s.ctl.resetDue ≠ none →
       exec .stationResetTimeout s = exec (.warmReset .stationReset s.ctl.supplyLow) s) ∧
     (s.ctl.resetDue = none → ∃ t, exec .stationResetTimeout s = .next t ∧ s.quiet t ∧
       t = { s with link := t.link, spacing := t.spacing })) ∧
  (∀ (c : Instr) (s : State),
     exec .brownout s = .next { s with ctl := { s.ctl with brownHeld := true } } ∧
     exec .resetLineAsserted s = .next { s with ctl := { s.ctl with lineHeld := true } } ∧
     (s.ctl.brownHeld = true ∨ s.ctl.lineHeld = true →
       (c.takenInReset = false → exec c s = .next s) ∧
       (∃ t, exec .clockTick s = .next t ∧ t = { s with ctl := { s.ctl with clock := t.ctl.clock } } ∧
         (t.ctl.clock.isSome = s.ctl.clock.isSome)) ∧
       (s.ctl.brownHeld = true → s.ctl.lineHeld = true → ∀ low : Bool,
         exec (.warmReset .resetLine low) s = .next { s with ctl := { s.ctl with lineHeld := false } } ∧
         exec (.warmReset .brownout low) s = .next { s with ctl := { s.ctl with brownHeld := false } })))

/-! ## Requests -/

/-- The request path. A request to the pair address is refused NOT_PERMITTED when its sender may not make it (R176, R177): a
desk may make every request, the pair's own console those that are not for desks only, other consoles and pair controllers
the reports that any reader may have. A request to another accepted address is dropped, HOLD and RELEASE apart (R179). An
unknown code at the pair address is refused UNKNOWN before the access test (R176). A permitted request whose payload ends
before its last required field is refused RANGE and reaches no owner (R194); MODEL'S CHOICE (log entry 18): the widths of
the fields. -/
def Obligations.RequestsGated : Prop :=
  ∀ (c : Instr) (n : ReqName) (m : Msg) (s : State), s.running = true → s.room 1 → requestOf c = some (n, m) →
    (∀ p a, 1 ≤ p → p ≤ 60 → (n.access.permits (senderKind p a) = true ↔
      (240 ≤ a ∧ a ≤ 247) ∨ (n.access ≠ .deskOnly ∧ a = 64 + p) ∨
        (n.access = .anyReader ∧ (1 ≤ a ∧ a ≤ 60 ∨ 65 ≤ a ∧ a ≤ 124)))) ∧
    (n.access = .anyReader ↔ isReport n = true ∧ n ≠ .archive) ∧
    (n.access = .deskOrConsole ↔ n ∈ ([.hold, .release, .setHoldMode, .clearJam, .correctFrame, .startSession, .addBowler,
      .beginSession, .setHandicap, .setAbsent, .endSession] : List ReqName)) ∧
    (s.ctl.pair = some m.dest.toNat → n.access.permits (senderKind m.dest.toNat m.sender.toNat) = false →
      ∃ t, exec c s = .next t ∧ t = { s with link := t.link } ∧ s.answered t m n (.refused .notPermitted) .none) ∧
    (s.ctl.pair ≠ some m.dest.toNat → n ≠ .hold → n ≠ .release →
      exec c s = .next { s with link := { s.link with
        lineIdle := false, response := none, ack := s.ctl.pair.isSome && s.acceptsDest m.dest } }) ∧
    (s.reaches m n → m.args.length < n.needs m.args →
      ∃ t, exec c s = .next t ∧ t = { s with link := t.link } ∧ s.answered t m n (.refused .range) .none) ∧
    (s.ctl.pair = some m.dest.toNat → ∀ (k : ReqClass) (code : Byte), reqOf k code.toNat = none →
      ∃ t, exec (.unknownRequest k code m) s = .next t ∧ t = { s with link := t.link } ∧
        s.answered t m (.unknown code.toNat) (.refused .unknown) .none)

/-- The settings a request writes at once: SET_HOLD_MODE (R16), SET_GROUP (R180), SET_CENSUS_SILENT (R152), TARIFF_BAND
(R109), ARCHIVE_CLEAR (R137). Each is answered DONE, or RANGE for a value out of range, with nothing written. -/
def Obligations.SettingsWritten : Prop :=
  ∀ (m : Msg) (s : State), s.room 1 → s.refusedButDesk (.tariffBand m) m .tariffBand ∧
    s.refusedButDesk (.archiveClear m) m .archiveClear ∧
    (s.reaches m .setHoldMode → ∀ a, parse2 m.args = some a → ∀ l, laneOf a.1 = some l → ∀ h, holdModeOf a.2 = some h →
      ∃ t, exec (.setHoldMode m) s = .next t ∧ s.answered t m .setHoldMode .done .none ∧
        t = { s with link := t.link, seqs := s.seqs.set l { s.seq l with mode := h } }) ∧
    (s.reaches m .setHoldMode → ∀ a, parse2 m.args = some a → 1 < a.1 ∨ 2 < a.2 →
      ∃ t, exec (.setHoldMode m) s = .next t ∧ s.answered t m .setHoldMode (.refused .range) .none ∧
        t = { s with link := t.link }) ∧
    (s.reaches m .setGroup → ∀ g, parse1 m.args = some g →
      ∃ t, exec (.setGroup m) s = .next t ∧ t = { s with link := t.link } ∧
        (32 < g → s.answered t m .setGroup (.refused .range) .none) ∧
        (g ≤ 32 →
          t.link = { s.link with
            queue := t.link.queue, lineIdle := false, ack := true, response := none, groupOn := decide (g ≠ 0)
            group := if g = 0 then s.link.group else g } ∧
          placed ⟨m.sender.toNat, firstReply m .setGroup .done .none, .none, false⟩ s.link.queue t.link.queue)) ∧
    (s.reaches m .setCensusSilent → ∀ v, parse1 m.args = some v →
      ∃ t, exec (.setCensusSilent m) s = .next t ∧
        s.answered t m .setCensusSilent (if v ≤ 1 then .done else .refused .range) .none ∧
        t = { s with link := t.link, silent := if v ≤ 1 then decide (v = 0) else s.silent }) ∧
    (s.reaches m .tariffBand → ∀ a, parseBand m.args = some a →
      ∃ t, exec (.tariffBand m) s = .next t ∧
        s.answered t m .tariffBand (if a.slot ≤ 7 then .done else .refused .range) .none ∧
        t = { s with
          link := t.link
          tariff := if a.slot ≤ 7 then { s.tariff with staged := s.tariff.staged.set a.slot (some a.band) }
            else s.tariff }) ∧
    (s.reaches m .archiveClear →
      ∃ t, exec (.archiveClear m) s = .next t ∧
        s.answered t m .archiveClear .done (.removed s.store.archive.length) ∧
        t = { s with link := t.link, store := { s.store with archive := [] } })

/-- HOLD adds its reason, and DESK takes an ARMED lane to HELD at once (R14, R17). RELEASE removes EACH_BALL, FRAME_END and
DESK (R18) and leaves the lane HELD while another reason applies; a lane that leaves the read position goes to SPACING, one
that leaves the rack position to ARMED (R15; here with an empty session table, so that no turn starts). A group or broadcast
HOLD or RELEASE acts on both lanes without a reply (R19). -/
def Obligations.HoldsTaken : Prop :=
  ∀ (m : Msg) (s : State),
    (let add := fun (r : HoldReason) (q : Sequencer) => { q with
       holds := q.holds.put r true, state := if q.state = .armed ∧ r = .desk then .held (.rack false) else q.state }
     let drop := fun q : Sequencer => { q with holds := { q.holds with eachBall := false, frameEnd := false, desk := false } }
     let others := fun q : Sequencer => q.holds.credit || q.holds.journal || q.holds.ret
     let line := { s.link with lineIdle := false, ack := true, response := none }
     (s.reaches m .hold → s.room 1 → ∀ a, parseHold m.args = some a → ∀ l, laneOf a.lane = some l →
       ∀ r, holdReasonOf a.reason = some r →
       ∃ t, exec (.hold m) s = .next t ∧ s.answered t m .hold .done .none ∧
         t = { s with link := t.link, seqs := s.seqs.set l (add r (s.seq l)) }) ∧
     (s.reaches m .hold → s.room 1 → ∀ a, parseHold m.args = some a → 1 < a.lane ∨ 2 < a.reason →
       ∃ t, exec (.hold m) s = .next t ∧ s.answered t m .hold (.refused .range) .none ∧ t = { s with link := t.link }) ∧
     (s.reaches m .release → s.room 1 → ∀ a, parse1 m.args = some a → ∀ l, laneOf a = some l →
       ∃ t, exec (.release m) s = .next t ∧
         ((s.seq l).state.isHeld = false ∨ (s.seq l).state ≠ .held .read ∧ others (s.seq l) = true →
           s.answered t m .release .done .none ∧ t = { s with link := t.link, seqs := s.seqs.set l (drop (s.seq l)) }) ∧
         ((s.seq l).state = .held .read → s.spacing.isLocal = false →
           s.answered t m .release .done .none ∧ s.startPlaced t l .clearing ∧
           t = { s with
             link := t.link, spacing := t.spacing
             seqs := s.seqs.set l { drop (s.seq l) with state := .spacing .clearing, timer := none } }) ∧
         ((s.seq l).state.isHeld = true → (s.seq l).state ≠ .held .read → others (s.seq l) = false → s.sessions = [] →
           s.answered t m .release .done .none ∧
           t = { s with link := t.link, seqs := s.seqs.set l { drop (s.seq l) with state := .armed, timer := none } })) ∧
     (s.running = true → s.ctl.pair.isSome = true → s.ctl.pair ≠ some m.dest.toNat → s.acceptsDest m.dest = true →
       240 ≤ m.sender.toNat → m.sender.toNat ≤ 247 →
       (∀ a, parseHold m.args = some a →
         (∀ r, holdReasonOf a.reason = some r →
           exec (.hold m) s = .next { s with seqs := ⟨add r (s.seq .A), add r (s.seq .B)⟩, link := line }) ∧
         (holdReasonOf a.reason = none → exec (.hold m) s = .next { s with link := line })) ∧
       (m.args ≠ [] → (∀ l, (s.seq l).state.isHeld = false) →
         exec (.release m) s = .next { s with seqs := ⟨drop (s.seq .A), drop (s.seq .B)⟩, link := line })))

/-- CLEAR_FAULT on a lane in FAULT whose pending record is empty: the retained cycle resumes by the phase that overran, its
restart count one higher (R12). It is refused BUSY with the record occupied (R24), and RANGE for a lane other than A or B.
On a lane that is not in FAULT it is refused STATE; MODEL'S CHOICE (log entry 44): with its pending record occupied too.
CALIBRATE on an ARMED lane with no current bowler, no hold reason and a full rack begins the calibration (R31, R32, R22); in
any other condition it is refused STATE, and a lane, a mode or a step out of range RANGE. A start is shown out of local
mode, where R148 may grant it at once. -/
def Obligations.FaultAndCalibration : Prop :=
  ∀ (m : Msg) (l : LaneId) (s : State), s.room 1 → s.refusedButDesk (.calibrate m) m .calibrate ∧
    (let entered := fun r : DeferredReq => some ({ addr := m.sender.toNat, tag := m.tag.toNat, req := r } : PendingReq)
     (s.reaches m .clearFault → ∀ a, parse1 m.args = some a → laneOf a = none →
       ∃ t, exec (.clearFault m) s = .next t ∧ s.answered t m .clearFault (.refused .range) .none ∧
         t = { s with link := t.link }) ∧
     (s.reaches m .clearFault → ∀ a, parse1 m.args = some a → laneOf a = some l →
       ((s.seq l).state.isFault = true → (s.seq l).pend ≠ none →
         ∃ t, exec (.clearFault m) s = .next t ∧ s.answered t m .clearFault (.refused .busy) .none ∧
           t = { s with link := t.link }) ∧
       (∀ f, (s.seq l).state = .fault f → (s.seq l).pend = none → s.spacing.isLocal = false →
         ∃ t, exec (.clearFault m) s = .next t ∧ s.answered t m .clearFault .accepted .none ∧
           (let fresh : Cycle :=
              { kind := .full, read := false, origin := .recovery, restart := 1, frameEnd := false, ball := none }
            let next := if f.phase = .reading ∧ f.retained.isSome then NextPhase.reading else .clearing
            let cycle := match f.retained with
              | some c => if f.phase = .calibrating then fresh else { c with restart := min 255 (c.restart + 1) }
              | none => fresh
            s.startPlaced t l next ∧
            t = { s with
              link := t.link, spacing := t.spacing
              seqs := s.seqs.set l { s.seq l with
                state := .spacing next, timer := none, cycle := some cycle, pend := entered .clearFault } })) ∧
       ((s.seq l).state.isFault = false →
         ∃ t, exec (.clearFault m) s = .next t ∧ s.answered t m .clearFault (.refused .state) .none ∧
           t = { s with link := t.link })) ∧
     (s.reaches m .calibrate → ∀ a, parseCalibrate m.args = some a → laneOf a.lane = some l → ∀ c, a.calMode = some c →
       (let ready := (s.seq l).state = .armed ∧ s.currentBowler l = none ∧ (s.seq l).holds = .empty ∧
          (s.deck l).rack = .full
        (ready → s.spacing.isLocal = false → ∃ t, exec (.calibrate m) s = .next t ∧ s.answered t m .calibrate .accepted .none ∧
          s.startPlaced t l .calibrating ∧
          t = { s with
            link := t.link, spacing := t.spacing
            seqs := s.seqs.set l { s.seq l with state := .spacing .calibrating, timer := none, pend := entered .calibrate }
            decks := s.decks.set l { s.deck l with cal :=
              { mode := some c, result := .running, steps := 0, stray := false
                before := some ((s.deck l).thresholds, (s.deck l).unreadable)
                firstMiss := List.replicate 10 none, allMiss := List.replicate 10 none, missCount := none
                outcome := none, reads := 0, misses := List.replicate 10 0 } } }) ∧
        (¬ ready → ∃ t, exec (.calibrate m) s = .next t ∧ s.answered t m .calibrate (.refused .state) .none ∧
          t = { s with link := t.link }))) ∧
     (s.reaches m .calibrate → ∀ a, parseCalibrate m.args = some a →
       1 < a.lane ∨ 1 < a.mode ∨ a.mode = 1 ∧ (a.step = 0 ∨ 15 < a.step) →
       ∃ t, exec (.calibrate m) s = .next t ∧ s.answered t m .calibrate (.refused .range) .none ∧
         t = { s with link := t.link }))

/-- LANE_RESET (R23), out of local mode: its refusals in order; and the recovery cycle, with the foul-pending flag and every
hold reason but CREDIT and JOURNAL gone. A start request of the lane is withdrawn first, and the new one is the last of the
waiting list (R146). A calibration in flight is ABORTED, its thresholds, marks and steps kept, and its CALIBRATE is answered
FAILED with the result (R24, R38). Forced in the middle of a frame, the frame is truncated and the turn ends (R58, R75).
MODEL'S CHOICE (log entry 18): the force byte is set when it is not 0. MODEL'S CHOICE (log entry 55): of two sessions
current on one lane, the one that stands first in the table. -/
def Obligations.LaneResets : Prop :=
  ∀ (m : Msg) (s : State), s.room 2 → s.spacing.isLocal = false → s.reaches m .laneReset →
    ∀ a, parse2 m.args = some a →
    (laneOf a.1 = none → ∃ t, exec (.laneReset m) s = .next t ∧ s.answered t m .laneReset (.refused .range) .none ∧
      t = { s with link := t.link }) ∧
    ∀ l, laneOf a.1 = some l →
    (let cut := s.inFrame l
     let cal := (s.deck l).cal
     let why : Option RefuseReason :=
       if (s.meter l).isOpen = false then some .state
       else if ∃ p, (s.seq l).pend = some p ∧ p.req ≠ .calibrate then some .busy
       else if cut.isSome = true ∧ a.2 = 0 then some .inFrame
       else none
     (∀ r, why = some r → ∃ t, exec (.laneReset m) s = .next t ∧ s.answered t m .laneReset (.refused r) .none ∧
       t = { s with link := t.link }) ∧
     (why = none → ∃ t, exec (.laneReset m) s = .next t ∧ s.acked t ∧
       t = { s with
         link := t.link, spacing := t.spacing, sessions := t.sessions
         decks := s.decks.set l { s.deck l with cal := (t.deck l).cal }
         seqs := s.seqs.set l { s.seq l with
           state := .spacing .clearing, timer := none, foul := false
           holds := { HoldSet.empty with credit := (s.seq l).holds.credit, journal := (s.seq l).holds.journal }
           pend := some { addr := m.sender.toNat, tag := m.tag.toNat, req := .laneReset }
           cycle := some
             { kind := .full, read := false, origin := .recovery, restart := 0, frameEnd := false, ball := none } } } ∧
       ((∀ n, (s.seq l).state ≠ .spacing n) → s.startPlaced t l .clearing) ∧
       (∀ n, (s.seq l).state = .spacing n → State.startPlaced { s with spacing := s.withdrawn l } t l .clearing) ∧
       (cal.result ≠ .running → (t.deck l).cal = cal ∧ s.answered t m .laneReset .accepted .none) ∧
       (cal.result = .running →
         (t.deck l).cal = { cal with
           result := .aborted, reads := (t.deck l).cal.reads, misses := (t.deck l).cal.misses } ∧
         t.queued m.sender.toNat (firstReply m .laneReset .accepted .none) ∧
         ∀ p, (s.seq l).pend = some p →
           t.queued p.addr (laterReply p.tag .calibrate .failed (.calResult .aborted))) ∧
       (cut = none → t.sessions = s.sessions) ∧
       ∀ id, cut = some id → ∀ x, s.session? id = some x → ∀ i, x.current = some i →
         ∀ b, x.bowler? i = some b → ∀ g, b.game = some g →
         t.sessions = s.sessions.map fun y =>
           if y.id = id then { x.modifyGame i (fun _ => g.truncate.1) with turn := .ended } else y))

/-- CLEAR_JAM (R97): refused STATE unless the return is JAMMED; taken, the return enters PURGING with a timer of 8.0 s and
the requester written, and RETURN leaves both hold sets, so that a lane held at its rack position by it alone enters ARMED
(here with an empty session table and no lane at the read position). -/
def Obligations.JamCleared : Prop :=
  ∀ (m : Msg) (s : State), s.room 1 → s.reaches m .clearJam →
    ∃ t, exec (.clearJam m) s = .next t ∧
      ((∀ r, s.ret.state ≠ .jammed r) → s.answered t m .clearJam (.refused .state) .none ∧ t = { s with link := t.link }) ∧
      ((∃ r, s.ret.state = .jammed r) → s.sessions = [] → (∀ l, (s.seq l).state ≠ .held .read) →
        s.answered t m .clearJam .accepted .none ∧
        (let freed := fun q : Sequencer => q.letGo { q.holds with ret := false }
         t = { s with
           link := t.link, seqs := ⟨freed (s.seq .A), freed (s.seq .B)⟩
           ret := { s.ret with
             state := .purging, purgeCount := none, runOn := none, purge := some 8000
             pend := some (m.sender.toNat, m.tag.toNat) } }))

/-- START_SESSION (R68): its refusals in order, and the FORMING record it adds under a fresh id, in the order of ids (R65,
R67); a game limit above 99 or a discount above 100 is clamped. -/
def Obligations.SessionStarted : Prop :=
  ∀ (m : Msg) (s : State), s.room 1 → s.reaches m .startSession → ∀ a, parseStart m.args = some a →
    ∃ t, exec (.startSession m) s = .next t ∧
      (laneOf a.lane = none ∨ a.size = 0 ∨ 6 < a.size →
        s.answered t m .startSession (.refused .range) .none ∧ t = { s with link := t.link }) ∧
      ∀ l, laneOf a.lane = some l → 1 ≤ a.size → a.size ≤ 6 →
        (let why : Option RefuseReason :=
           if (s.meter l).isOpen = false ∨ s.occupied l = true then some .state
           else if s.reserved = some l then some .laneTaken
           else if ∃ y ∈ s.sessions, y.occupies (other l) = true ∧ y.cross ≠ a.cross then some .cross
           else if 2 ≤ s.sessions.length + (if s.reserved = none then 0 else 1) then some .busy
           else none
         (∀ r, why = some r → s.answered t m .startSession (.refused r) .none ∧ t = { s with link := t.link }) ∧
         (why = none →
           s.answered t m .startSession (if 99 < a.limit ∨ 100 < a.discount then .clamped else .done)
             (.sessionId s.newId) ∧
           t = { s with
             link := t.link, sessions := t.sessions, nextId := if 255 ≤ s.newId then 1 else s.newId + 1 } ∧
           s.session? s.newId = none ∧
           ∃ front back, s.sessions = front ++ back ∧ (∀ y ∈ front, y.id ≤ s.newId) ∧
             (∀ y ∈ back.head?, s.newId < y.id) ∧
             t.sessions = front ++
               { id := s.newId, home := l, cross := a.cross, state := .forming, size := a.size, bowlers := [], pos := none
                 turn := .none, current := none, limit := min 99 a.limit, discount := min 100 a.discount } :: back))

/-- ADD_BOWLER on a FORMING session with room (R69): the bowler joins the list's end, its name's characters and length and
its handicap as R66 gives, CLAMPED when one changed. MODEL'S CHOICE (log entry 21): until a game starts, the bowler's first
lane is the home lane. BEGIN on a full FORMING session (R70): a cross session without a partner waits for one (R78); another
starts game 1 and selects its first bowler who is not absent (R76; here the first bowler), whose turn waits for its lane, or
on a lane that is ARMED starts at once (R81). ADD_BOWLER's absent byte is set when it is not 0: MODEL'S CHOICE (log entry
18). -/
def Obligations.SessionFormed : Prop :=
  ∀ (m : Msg) (s : State), s.room 1 →
    (s.reaches m .addBowler → ∀ a, parseBowler m.args = some a → s.session? a.session = none →
      ∃ t, exec (.addBowler m) s = .next t ∧ s.answered t m .addBowler (.refused .noSession) .none ∧
        t = { s with link := t.link }) ∧
    (s.reaches m .addBowler → ∀ a, parseBowler m.args = some a → ∀ x, s.session? a.session = some x →
      ∃ t, exec (.addBowler m) s = .next t ∧
        (let name := (a.name.take 12).map fun b => if 32 ≤ b.toNat ∧ b.toNat ≤ 126 then b else 63#8
         (x.state = .forming → x.bowlers.length < x.size →
           s.answered t m .addBowler (if name ≠ a.name ∨ 255 < a.handicap then .clamped else .done)
             (.bowlerIndex (x.bowlers.length + 1)) ∧
           t = { s with
             link := t.link
             sessions := s.sessions.map fun y =>
               if y.id = x.id then { x with bowlers := x.bowlers ++
                 [{ name := name, handicap := min a.handicap 255, absent := a.absent, completed := 0, game := none
                    first := ballLane x.home }] }
               else y }) ∧
         (x.state ≠ .forming ∨ x.size ≤ x.bowlers.length →
           s.answered t m .addBowler (.refused .state) .none ∧ t = { s with link := t.link }))) ∧
    (s.reaches m .beginSession → ∀ a, parse1 m.args = some a → s.session? a = none →
      ∃ t, exec (.beginSession m) s = .next t ∧ s.answered t m .beginSession (.refused .noSession) .none ∧
        t = { s with link := t.link }) ∧
    (s.reaches m .beginSession → ∀ a, parse1 m.args = some a → ∀ x, s.session? a = some x →
      ∃ t, exec (.beginSession m) s = .next t ∧
        (x.state ≠ .forming ∨ x.bowlers.length < x.size →
          s.answered t m .beginSession (.refused .state) .none ∧ t = { s with link := t.link }) ∧
        (x.state = .forming → x.size ≤ x.bowlers.length → x.cross = true → s.partner? x = none →
          s.answered t m .beginSession .done .none ∧
          t = { s with
            link := t.link
            sessions := s.sessions.map fun y =>
              if y.id = x.id then { x with state := .waitPartner .start, turn := .none } else y }) ∧
        (x.state = .forming → x.size ≤ x.bowlers.length → x.cross = false →
          ∀ b, x.bowlers.head? = some b → b.absent = false →
          (let p : GamePos := { number := 1, frame := 1, lane := x.home }
           let game := fun b : Bowler => ({
             name := b.name, handicap := b.handicap, number := 1, frames := List.replicate 10 none, status := .playing
             charged := false, scratch := none, total := b.handicap, revision := 0 } : Game)
           let starts := fun b : Bowler => ({ b with first := ballLane x.home, game := some (game b) } : Bowler)
           let z : Session := { x with
             state := .playing, turn := .outstanding, current := some 1, pos := some p, bowlers := x.bowlers.map starts }
           let begun : State := { s with sessions := s.sessions.map fun y => if y.id = x.id then z else y }
           ((s.seq x.home).state ≠ .armed →
             s.answered t m .beginSession .done .none ∧ t = { begun with link := t.link }) ∧
           ((s.seq x.home).state = .armed → s.sends 3 →
             s.acked t ∧ t.queued m.sender.toNat (firstReply m .beginSession .done .none) ∧
             t = { s with
               link := t.link, sessions := t.sessions, store := t.store, meters := s.meters.set x.home (t.meter x.home)
               seqs := s.seqs.set x.home { s.seq x.home with
                 holds := (t.seq x.home).holds, state := (t.seq x.home).state, foul := (t.seq x.home).foul } } ∧
             begun.turnStarts t x.home z 1 (starts b) (game b) p))))

/-- SET_HANDICAP (R71) writes the bowler's handicap, at most 255, and recomputes the game's handicap total (R55). SET_ABSENT
(R72) writes the absent flag, and nothing else but for a clear to a PLAYING session with turn NONE, which makes the turn
selection (R76; here of the one session, on lanes that do not charge), or to one that waits for its partner (BarriersPass).
MODEL'S CHOICE (log entry 18): the absent byte is set when it is not 0. Both are refused NO_SESSION, RANGE for an index off
the bowler list, STATE for a session in MOVING or PARKED. CORRECT_FRAME is tested in the order of R60: the session; the
index, the frame 1..10 and the one to three pinfalls up to 10; a session FORMING, MOVING or PARKED, no game, a frame not
filled or INCOMPLETE, or the one the current bowler is in; and the structure of R61: as many pinfalls as the frame has
balls, in a shape that ends it. Taken (R62), each ball whose pinfall changes has the new one, the corrected flag and no
estimated flag, and keeps a foul flag with pinfall 0 only; when one changed the game is scored again and its revision raised
once (R55), and nothing else of it changes. -/
def Obligations.BowlersChanged : Prop :=
  ∀ (m : Msg) (s : State), s.room 1 →
    (let shut := fun x : Session => x.state = .moving .sending ∨ x.state = .moving .committed ∨ x.state = .parked
     let settings := fun (id i : Nat) (n : ReqName) (c : Instr) =>
       (s.session? id = none → ∃ t, exec c s = .next t ∧ s.answered t m n (.refused .noSession) .none ∧
         t = { s with link := t.link }) ∧
       ∀ x, s.session? id = some x →
         (x.bowler? i = none → ∃ t, exec c s = .next t ∧ s.answered t m n (.refused .range) .none ∧
           t = { s with link := t.link }) ∧
         (x.bowler? i ≠ none → shut x → ∃ t, exec c s = .next t ∧ s.answered t m n (.refused .state) .none ∧
           t = { s with link := t.link })
     (s.reaches m .setHandicap → ∀ a, parseHandicap m.args = some a → settings a.1 a.2.1 .setHandicap (.setHandicap m) ∧
       ∀ x, s.session? a.1 = some x → ∀ b, x.bowler? a.2.1 = some b → ¬ shut x →
         ∃ t, exec (.setHandicap m) s = .next t ∧
           s.answered t m .setHandicap (if 255 < a.2.2 then .clamped else .done) .none ∧
           t = { s with
             link := t.link
             sessions := s.sessions.map fun y =>
               if y.id = x.id then
                 x.modifyBowler a.2.1 fun b => { b with
                   handicap := min a.2.2 255
                   game := b.game.map fun g => ({ g with handicap := min a.2.2 255 } : Game).recompute }
               else y } ∧
           ∀ g, b.game = some g → (({ g with handicap := min a.2.2 255 } : Game).recompute).total =
             knownOf (({ g with handicap := min a.2.2 255 } : Game).recompute).frames + min a.2.2 255) ∧
     (s.reaches m .setAbsent → ∀ a, parse3 m.args = some a → settings a.1 a.2.1 .setAbsent (.setAbsent m) ∧
       ∀ x, s.session? a.1 = some x → x.bowler? a.2.1 ≠ none → ¬ shut x →
         (a.2.2 ≠ 0 ∨ (x.state ≠ .playing ∨ x.turn ≠ .none) ∧ ∀ b, x.state ≠ .waitPartner b) →
         ∃ t, exec (.setAbsent m) s = .next t ∧ s.answered t m .setAbsent .done .none ∧
           t = { s with
             link := t.link
             sessions := s.sessions.map fun y =>
               if y.id = x.id then x.modifyBowler a.2.1 fun b => { b with absent := decide (a.2.2 ≠ 0) } else y }) ∧
     (s.reaches m .setAbsent → s.room 2 → ∀ a, parse3 m.args = some a → a.2.2 = 0 →
       ∀ x, s.sessions = [x] → x.id = a.1 → x.state = .playing → x.turn = .none → x.bowler? a.2.1 ≠ none →
       ∀ p, x.pos = some p → (∀ b ∈ x.bowlers, b.game.isSome = true) → (∀ l, (s.meter l).mode = .none) →
       (let back := x.modifyBowler a.2.1 fun b => { b with absent := false }
        let k := x.current.getD 0
        let j := firstPresent k back.bowlers
        let starts := (s.seq p.lane).state = .armed
        j < x.bowlers.length →
        ∃ t, exec (.setAbsent m) s = .next t ∧ s.acked t ∧
          t.queued m.sender.toNat (firstReply m .setAbsent .done .none) ∧
          t = { s with
            link := t.link
            seqs := if starts then s.seqs.set p.lane { s.seq p.lane with foul := false } else s.seqs
            meters := if starts then s.meters.set p.lane { s.meter p.lane with wait := none } else s.meters
            sessions := [{ back with
              turn := if starts then .active else .outstanding, current := some (j + 1)
              bowlers := blanks p.frame k j back.bowlers }] })) ∧
     (s.reaches m .correctFrame → ∀ a, parseCorrect m.args = some a →
       (let refuses := fun r => ∃ t, exec (.correctFrame m) s = .next t ∧
          s.answered t m .correctFrame (.refused r) .none ∧ t = { s with link := t.link }
        let outside := fun x : Session => a.bowler = 0 ∨ x.bowlers.length < a.bowler ∨ a.frame = 0 ∨ 10 < a.frame ∨
          a.pins = [] ∨ 3 < a.pins.length ∨ ∃ v ∈ a.pins, 10 < v
        (s.session? a.session = none → refuses .noSession) ∧
        ∀ x, s.session? a.session = some x →
          (outside x → refuses .range) ∧
          (¬ outside x → ∀ b, x.bowler? a.bowler = some b →
            (b.game = none → refuses .state) ∧
            ∀ g, b.game = some g →
              (let current := (x.turn = .active ∨ x.turn = .ended) ∧ x.current = some a.bowler ∧
                 x.pos.map (fun p => p.frame) = some a.frame
               let unfit := x.state = .forming ∨ shut x ∨ (∀ r ∈ g.slot a.frame, r.mark = .incomplete) ∨ current
               let balls := g.ballsOf a.frame
               let fits := a.pins.length = balls.length ∧ endedPins a.frame a.pins = true
               (unfit → refuses .state) ∧ (¬ unfit → ¬ fits → refuses .badStructure) ∧
               (¬ unfit → fits → ∃ t, exec (.correctFrame m) s = .next t ∧ s.answered t m .correctFrame .done .none ∧
                 ∃ h : Game,
                   t = { s with
                     link := t.link
                     sessions := s.sessions.map fun y =>
                       if y.id = x.id then x.modifyGame a.bowler fun _ => h else y } ∧
                   h.ballsOf a.frame = List.zipWith (fun e v => if e.pins = v then e else
                     { e with pins := v, corrected := true, estimated := false, foul := e.foul && v == 0 }) balls a.pins ∧
                   (∀ k, k ≠ a.frame → h.ballsOf k = g.ballsOf k) ∧
                   (balls.map (·.pins) = a.pins → h = g) ∧
                   (balls.map (·.pins) ≠ a.pins → h.revision = (g.revision + 1) % 256) ∧
                   h = { g with
                     frames := h.frames, scratch := h.scratch, total := h.total, revision := h.revision } ∧
                   (g.scored → h.scored)))))))

/-- END_SESSION (R73) removes a session and archives its games with a ball, in list order, here with no cross session: each
takes the next serial, and beyond the capacity the oldest goes (R135). A turn OUTSTANDING is withdrawn, here of the one
session: the meter's wait goes with CREDIT and JOURNAL, and a lane held by them alone enters ARMED (R15, R116). MODEL'S
CHOICE (log entry 52): a COMPLETE game without a ball is archived. DISCARD_PARKED removes a parked session and archives
nothing (R165). RESUME_PARKED plays a parked session on at its home lane, with a turn selection (R165; here one that chooses
a bowler on a lane that is not ARMED, and no cross session on the other lane). Each is refused NO_SESSION for an id that is
not in the table. -/
def Obligations.SessionsEnd : Prop :=
  ∀ (m : Msg) (s : State), s.room 1 → ∀ a, parse1 m.args = some a →
    (s.session? a = none →
      (let unknown := fun (c : Instr) (n : ReqName) => s.reaches m n → ∃ t, exec c s = .next t ∧
         s.answered t m n (.refused .noSession) .none ∧ t = { s with link := t.link }
       unknown (.endSession m) .endSession ∧ unknown (.discardParked m) .discardParked ∧
         unknown (.resumeParked m) .resumeParked)) ∧
    ∀ x, s.session? a = some x →
    (s.reaches m .endSession →
      ∃ t, exec (.endSession m) s = .next t ∧
        (x.state = .waitMove ∨ x.state = .moving .sending ∨ x.state = .moving .committed ∨ x.state = .parked →
          s.answered t m .endSession (.refused .state) .none ∧ t = { s with link := t.link }) ∧
        (x.state ≠ .waitMove → x.state ≠ .moving .sending → x.state ≠ .moving .committed → x.state ≠ .parked →
          x.cross = false → (∀ y ∈ s.sessions, y.cross = false) →
          (x.turn = .outstanding → s.sessions = [x] ∧ ∀ l, x.frameLane = some l → (s.seq l).state ≠ .held .read) →
          s.answered t m .endSession .done .none ∧
          t = { s with
            link := t.link, sessions := s.sessions.filter (fun y => y.id != x.id), seqs := t.seqs, meters := t.meters
            store := { s.store with archive := t.store.archive, nextSerial := t.store.nextSerial } } ∧
          (∀ l, if x.turn = .outstanding ∧ x.frameLane = some l then
              t.seq l = (s.seq l).withoutWait ∧ t.meter l = { s.meter l with wait := none }
            else t.seq l = s.seq l ∧ t.meter l = s.meter l) ∧
          (let games := x.bowlers.filterMap fun b => b.game.bind fun g =>
             if g.status = .complete ∨ g.balls ≠ [] then some (b, g) else none
           let serial := fun i => (s.store.nextSerial + i - 1) % 65535 + 1
           s.store.archive.length ≤ s.store.archiveCap → 0 < s.store.archiveCap →
           1 ≤ s.store.nextSerial → s.store.nextSerial ≤ 65535 →
             t.store.nextSerial = serial games.length ∧
             ∃ new, t.store.archive =
                 (s.store.archive ++ new).drop (s.store.archive.length + new.length - s.store.archiveCap) ∧
               (∀ i e, new[i]? = some e → e.serial = serial i) ∧
               new.map (fun e => (e.session, e.name, e.number, e.complete, e.charged, e.first, e.time)) =
                 games.map fun p =>
                   (x.id, p.2.name, p.2.number, decide (p.2.status = .complete), p.2.charged, p.1.first, s.ctl.clock)))) ∧
    (s.reaches m .discardParked →
      ∃ t, exec (.discardParked m) s = .next t ∧
        s.answered t m .discardParked (if x.state = .parked then .done else .refused .state) .none ∧
        t = { s with
          link := t.link
          sessions := if x.state = .parked then s.sessions.filter (fun y => y.id != x.id) else s.sessions }) ∧
    (s.reaches m .resumeParked →
      ∃ t, exec (.resumeParked m) s = .next t ∧
        (x.state ≠ .parked ∨ (s.meter x.home).isOpen = false →
          s.answered t m .resumeParked (.refused .state) .none ∧ t = { s with link := t.link }) ∧
        (x.state = .parked → (s.meter x.home).isOpen = true →
          (s.occupied x.home = true ∨ s.reserved = some x.home →
            s.answered t m .resumeParked (.refused .laneTaken) .none ∧ t = { s with link := t.link }) ∧
          (let y : Session := { x with state := .playing, pos := x.pos.map fun p => ({ p with lane := x.home } : GamePos) }
           s.occupied x.home = false → s.reserved ≠ some x.home → y.choose.2 = .chosen →
             (∀ z ∈ s.sessions, z.cross = false) → (s.seq x.home).state ≠ .armed →
             s.answered t m .resumeParked .done .none ∧
             t = { s with
               link := t.link, sessions := s.sessions.map fun z => if z.id = x.id then y.choose.1 else z })))

/-- MOVE_SESSION (R155): its refusals in order; taken in the middle of a frame without force, the session waits in WAIT_MOVE
with no tag taken; otherwise the transfer starts at once (R156): a tag is taken, the session enters MOVING, the OFFER is
queued and the step timer starts at 1.5 s; with force the frame in play is truncated first (R58). A turn OUTSTANDING, or
ACTIVE with no ball in the frame, is withdrawn first, here of the one session: the index goes back to the last filled slot
of the frame, and the meter's wait goes with CREDIT and JOURNAL (R116); MODEL'S CHOICE (log entry 27): a lane that they held
enters ARMED once the session is MOVING. MODEL'S CHOICE (log entry 18): the force byte is set when it is not 0. -/
def Obligations.MoveBegins : Prop :=
  ∀ (m : Msg) (s : State), s.room 2 → s.reaches m .moveSession → ∀ a, parseMove m.args = some a →
    (let why : Option RefuseReason :=
       match s.session? a.session with
       | none => some .noSession
       | some x =>
         if ¬ (1 ≤ a.station ∧ a.station ≤ 60) ∨ s.ctl.pair = some a.station ∨ 1 < a.lane then some .range
         else if x.cross = true then some .cross
         else if x.state ≠ .playing then some .state
         else if s.transfer.record ≠ .idle then some .busy
         else none
     (∀ r, why = some r → ∃ t, exec (.moveSession m) s = .next t ∧
       s.answered t m .moveSession (.refused r) .none ∧ t = { s with link := t.link }) ∧
     (why = none → ∀ x, s.session? a.session = some x → ∀ l, laneOf a.lane = some l →
       ∃ t, exec (.moveSession m) s = .next t ∧ s.acked t ∧
         (let req := (m.sender.toNat, m.tag.toNat)
          (a.force = false → x.turn = .active ∨ x.turn = .ended → s.answered t m .moveSession .accepted .none ∧
            t = { s with
              link := t.link, sessions := s.sessions.map fun y => if y.id = x.id then { x with state := .waitMove } else y
              transfer := { s.transfer with record := .source .waiting none a.station l x.id req none } }) ∧
          (a.force = true ∨ x.turn = .none ∨ x.turn = .outstanding →
            (let z := match x.current with
               | some i => if a.force then x.truncate i else x
               | none => x
             let unbegun := z.turn = .outstanding ∨ z.turn = .active ∧
               ∀ p b g, z.pos = some p → z.current.bind z.bowler? = some b → b.game = some g → g.ballsOf p.frame = []
             let tag := if 255 ≤ s.transfer.lastTag then 1 else s.transfer.lastTag + 1
             let offered := fun index : Option Nat =>
               t.queued m.sender.toNat (firstReply m .moveSession .accepted .none) ∧
               t.transfer =
                 { record := .source .offered (some tag) a.station l x.id req (some 1500), lastTag := tag } ∧
               t.queued a.station (.transfer tag (.offer
                 { size := x.size, number := (x.pos.map (·.number)).getD 1, frame := (x.pos.map (·.frame)).getD 1
                   current := index.getD 0, limit := x.limit, discount := x.discount, lane := l }))
             (¬ unbegun → offered x.current ∧
               t = { s with
                 link := t.link, transfer := t.transfer
                 sessions := s.sessions.map fun y =>
                   if y.id = x.id then { z with state := .moving .sending, turn := .none } else y }) ∧
             (unbegun → s.sessions = [x] → ∀ p, x.pos = some p → (s.seq p.lane).state ≠ .held .read →
               ∃ index, offered index ∧
                 (let filled := fun i => 1 ≤ i ∧
                    ∃ b g, z.bowlers[i - 1]? = some b ∧ b.game = some g ∧ (g.slot p.frame).isSome = true
                  ∀ i, index = some i ↔ filled i ∧ ∀ k, filled k → k ≤ i) ∧
                 t = { s with
                   link := t.link, transfer := t.transfer
                   seqs := s.seqs.set p.lane (s.seq p.lane).withoutWait
                   meters := s.meters.set p.lane { s.meter p.lane with wait := none }
                   sessions := [{ z with state := .moving .sending, turn := .none, current := index }] }))))))

/-- OPEN_LANE: its refusals in the order of R105; taken, the meter is set, the OPEN entry is appended and the opening cycle
begins (R106, R20, R129), with the request in the pending record, and the balance as set with it: MODEL'S CHOICE (log entry
37). MODEL'S CHOICE (log entry 57): a lane whose pending record is occupied is tested by R105 only, without the BUSY of R24.
The taking is shown out of local mode. MODEL'S CHOICE (log entry 18): the prepaid byte is set when it is not 0. -/
def Obligations.LaneOpens : Prop :=
  ∀ (m : Msg) (s : State), s.room 1 → s.refusedButDesk (.openLane m) m .openLane ∧
    (s.reaches m .openLane → ∀ a, parseOpen m.args = some a →
    ∃ t, exec (.openLane m) s = .next t ∧
      (laneOf a.lane = none ∨ 2 < a.mode →
        s.answered t m .openLane (.refused .range) .none ∧ t = { s with link := t.link }) ∧
      ∀ l, laneOf a.lane = some l → ∀ k, billModeOf a.mode = some k →
        (let why : Option RefuseReason :=
           if (s.meter l).isOpen = true ∨ (s.seq l).state ≠ .standby ∨ k ≠ .none ∧ s.tariff.live.bands = [] then some .state
           else if k ≠ .none ∧ s.ctl.clock = none then some .noClock
           else if s.store.freeCount < openLanes s.meters + 2 then some .journalFull
           else none
         let balance : Int := if a.prepaid then min 2000000 a.credit else 0
         (∀ r, why = some r → s.answered t m .openLane (.refused r) .none ∧ t = { s with link := t.link }) ∧
         (why = none → s.spacing.isLocal = false →
           s.answered t m .openLane .accepted .none ∧ s.startPlaced t l .clearing ∧
           t = { s with
             link := t.link, spacing := t.spacing
             meters := s.meters.set l
               { isOpen := true, mode := k, prepaid := a.prepaid, balance := balance, total := 0, residue := 0
                 roundBand := none, subtotals := [], paused := 0, games := 0, wait := none }
             store := { s.store with
               lastSeq := s.store.lastSeq + 1
               journal := s.store.journal ++
                 [{ seq := s.store.lastSeq + 1, lane := l, time := s.ctl.clock
                    body := .opening k a.prepaid (if a.prepaid then some balance else none) }] }
             seqs := s.seqs.set l { s.seq l with
               state := .spacing .clearing, timer := none
               cycle := some
                 { kind := .full, read := false, origin := .opening, restart := 0, frameEnd := false, ball := none }
               pend := some { addr := m.sender.toNat, tag := m.tag.toNat, req := .openLane balance } } })))

/-- CLOSE_LANE: its refusals in the order of R119; taken, with force or on a lane that no session uses: every session that
uses the lane is removed, without un-crossing, its turn OUTSTANDING withdrawn on either lane, and its games are archived
(R121, R73), the meter is rounded (R120), with CREDIT_LOW when that takes a prepaid balance below the level (R114), the
CLOSE entry is appended, with FORCED when a session was removed, and the lane is closed with CREDIT and JOURNAL gone. A
pending OPEN_LANE is answered FAILED; a calibration in flight is ABORTED, and its CALIBRATE answered FAILED with the result
(R21, R24, R38). A lane in ARMED, HELD (RACK), FAULT or a calibration enters STANDBY, its start request withdrawn (R146),
with the CLOSE_LANE answered DONE (R21, R24, R30); a cycle in flight runs on with the request pending, from SPACING and from
the read position too. Of two sessions' archived games either run comes first (R135). MODEL'S CHOICE (log entry 52): a
COMPLETE game without a ball is archived. MODEL'S CHOICE (log entry 18): the force byte is set when it is not 0. -/
def Obligations.LaneCloses : Prop :=
  ∀ (m : Msg) (s : State), s.room 4 → s.reaches m .closeLane → ∀ a, parse2 m.args = some a →
    (laneOf a.1 = none → ∃ t, exec (.closeLane m) s = .next t ∧ s.answered t m .closeLane (.refused .range) .none ∧
      t = { s with link := t.link }) ∧
    ∀ l, laneOf a.1 = some l →
    (let users := s.users l
     let why : Option RefuseReason :=
       if (s.meter l).isOpen = false then some .state
       else if (s.seq l).busyForClose = true ∨ s.transferHolds l = true ∨ users ≠ [] ∧ a.2 = 0 then some .busy
       else none
     let off := users.any fun x => x.turn == .outstanding && x.frameLane == some (other l)
     (∀ r, why = some r → ∃ t, exec (.closeLane m) s = .next t ∧ s.answered t m .closeLane (.refused r) .none ∧
       t = { s with link := t.link }) ∧
     (why = none → users.length ≤ 2 →
       (off = true → users = s.sessions ∧ (s.seq (other l)).state ≠ .held .read) →
       (let up := (s.meter l).round
        let cal := (s.deck l).cal
        let holds := { (s.seq l).holds with credit := false, journal := false }
        let seqs := if off then s.seqs.set (other l) (s.seq (other l)).withoutWait else s.seqs
        let meters := if off then s.meters.set (other l) { s.meter (other l) with wait := none } else s.meters
        let handed := fun x : Session => x.handedOver.map fun g => (x.id, g.name, g.number, decide (g.status = .complete))
        ∃ t, exec (.closeLane m) s = .next t ∧ s.acked t ∧
          t = { s with
            link := t.link, seqs := t.seqs, decks := t.decks, spacing := t.spacing, free := t.free
            sessions := s.sessions.filter fun y => !(users.any fun x => x.id == y.id)
            meters := meters.set l { up with isOpen := false, wait := none }
            store := { s.store with
              archive := t.store.archive, nextSerial := t.store.nextSerial, lastSeq := s.store.lastSeq + 1
              journal := s.store.journal ++
                [{ seq := s.store.lastSeq + 1, lane := l, time := s.ctl.clock
                   body := .closing (if users = [] then .request else .forced) up.total
                     (if up.prepaid then some up.balance else none) up.paused
                     (if up.mode = .time then some up.subtotals else none) }] } } ∧
          (users = [] → t.store.archive = s.store.archive ∧ t.store.nextSerial = s.store.nextSerial ∧ t.free = s.free) ∧
          (s.store.archive.length + (users.flatMap handed).length ≤ s.store.archiveCap →
            ∃ new, t.store.archive = s.store.archive ++ new ∧
              (let is := new.map fun e => (e.session, e.name, e.number, e.complete)
               is = users.flatMap handed ∨ is = users.reverse.flatMap handed)) ∧
          ((s.seq l).state ≠ .held .read → (s.seq l).state ≠ .spacing .calibrating → t.spacing = s.spacing) ∧
          up.residue = 0 ∧
          ((s.meter l).residue < 1800 ∨ (s.meter l).prepaid = true ∧ (s.meter l).balance ≤ -50000 →
            up = { s.meter l with residue := 0 }) ∧
          (1800 ≤ (s.meter l).residue → ((s.meter l).prepaid = true → -50000 < (s.meter l).balance) →
            ∀ b, (s.meter l).roundBand = some b →
            up = { s.meter l with
              residue := 0, total := min 99999999 ((s.meter l).total + 1)
              balance := if (s.meter l).prepaid then (s.meter l).balance - 1 else (s.meter l).balance
              subtotals := addSubtotal b 0 1 (s.meter l).subtotals }) ∧
          (up.prepaid = true → (s.ctl.setup.low : Int) ≤ (s.meter l).balance → up.balance < s.ctl.setup.low →
            t.queued 255 (.notice (.creditLow l up.balance))) ∧
          t.queued m.sender.toNat (firstReply m .closeLane .accepted .none) ∧
          (∀ p b, (s.seq l).pend = some p → p.req = .openLane b →
            t.queued p.addr (laterReply p.tag .openLane .failed .none)) ∧
          (cal.result = .running →
            (t.deck l).cal = { cal with
              result := .aborted, reads := (t.deck l).cal.reads, misses := (t.deck l).cal.misses } ∧
            ∀ p, (s.seq l).pend = some p → p.req = .calibrate →
              t.queued p.addr (laterReply p.tag .calibrate .failed (.calResult .aborted))) ∧
          (cal.result ≠ .running → (t.deck l).cal = cal) ∧
          ((s.seq l).state = .armed ∨ (s.seq l).state.isFault = true ∨
              (s.seq l).state.isHeld = true ∧ (s.seq l).state ≠ .held .read ∨ (s.seq l).state = .calibrating ∨
              (s.seq l).state = .spacing .calibrating ∧ s.spacing.isLocal = false →
            t.decks = s.decks.set l { s.deck l with rack := .empty, cal := (t.deck l).cal } ∧
            t.seqs = seqs.set l { s.seq l with
              state := .standby, cycle := none, foul := false, stray := false, timer := none, pend := none
              holds := { holds with desk := false } } ∧
            t.queued m.sender.toNat (laterReply m.tag.toNat .closeLane .done .none) ∧
            ((s.seq l).state = .spacing .calibrating → t.spacing = s.withdrawn l)) ∧
          ((s.seq l).state = .held .read → s.spacing.isLocal = false → s.startPlaced t l .clearing ∧
            t.decks = s.decks.set l { s.deck l with cal := (t.deck l).cal } ∧
            t.seqs = seqs.set l { s.seq l with
              state := .spacing .clearing, timer := none, holds := holds
              pend := some { addr := m.sender.toNat, tag := m.tag.toNat, req := .closeLane } }) ∧
          ((s.seq l).state = .settling ∨ (s.seq l).state = .spacing .reading ∨ (s.seq l).state = .spacing .clearing ∨
              (s.seq l).state = .reading ∨ (s.seq l).state = .clearing ∨ (s.seq l).state = .setting →
            t.decks = s.decks.set l { s.deck l with cal := (t.deck l).cal } ∧
            t.seqs = seqs.set l { s.seq l with
              holds := holds
              pend := some { addr := m.sender.toNat, tag := m.tag.toNat, req := .closeLane } }))))

/-- ADD_CREDIT (R117): its refusals in order; taken, the balance is raised up to 2,000,000, the CREDIT entry carries the
amount added, and the reply, CLAMPED when the sum was cut, the new balance. RELEASE_JOURNAL (R131) over a journal in
ascending sequence: nothing below the oldest sequence held or of an empty journal; otherwise every entry up to the sequence,
CLAMPED to the newest. The retry (R118): a wait for credit is retried at the credit, one for the journal when entries are
released. A retry that fails leaves the wait and the hold; one that passes removes both, and the turn start asks again (here
of a lane that is not at its read position). With both lanes waiting both retries pass against the journal as released, and
lane A's turn start is made first (R81): lane B's finds the journal with lane A's entry. -/
def Obligations.CreditAndRelease : Prop :=
  (∀ (m : Msg) (s : State), s.room 3 → s.reaches m .addCredit → ∀ a, parseCredit m.args = some a →
     ∃ t, exec (.addCredit m) s = .next t ∧
       (laneOf a.1 = none ∨ a.2 = 0 ∨ 200000 < a.2 →
         s.answered t m .addCredit (.refused .range) .none ∧ t = { s with link := t.link }) ∧
       ∀ l, laneOf a.1 = some l → 1 ≤ a.2 → a.2 ≤ 200000 →
         (let why : Option RefuseReason :=
            if (s.meter l).isOpen = false ∨ (s.meter l).prepaid = false then some .state
            else if s.store.freeCount < openLanes s.meters + 1 then some .journalFull
            else none
          let old := (s.meter l).balance
          let new := min 2000000 (old + a.2)
          let cut := decide (2000000 < old + a.2)
          let result := if cut then Result.clamped else .done
          let credited : State := { s with
            meters := s.meters.set l { s.meter l with balance := new }
            store := { s.store with
              lastSeq := s.store.lastSeq + 1
              journal := s.store.journal ++
                [{ seq := s.store.lastSeq + 1, lane := l, time := s.ctl.clock
                   body := .credit (new - old).toNat cut new }] } }
          let mode := (s.meter l).mode
          (∀ r, why = some r → s.answered t m .addCredit (.refused r) .none ∧ t = { s with link := t.link }) ∧
          (why = none → (∀ w ∈ (s.meter l).wait, w.reason = .credit →
              mode = .time ∧ new ≤ 0 ∨ mode = .game ∧ ∃ c ∈ w.charge, new < c.1) →
            s.answered t m .addCredit result (.balance new) ∧ t = { credited with link := t.link }) ∧
          (why = none → ∀ w ∈ (s.meter l).wait, w.reason = .credit →
              mode = .time ∧ 0 < new ∨ mode = .game ∧ (∃ c ∈ w.charge, c.1 ≤ new) → (s.seq l).state ≠ .held .read →
            s.acked t ∧ t.queued m.sender.toNat (firstReply m .addCredit result (.balance new)) ∧
            credited.retried t l { (s.seq l).holds with credit := false }))) ∧
  (∀ (m : Msg) (s : State), s.room 3 → s.reaches m .releaseJournal → ∀ q, parseSeq m.args = some q →
     (s.store.journal.map (·.seq)).Pairwise (· < ·) →
     (let kept := s.store.journal.filter fun e => decide (q < e.seq)
      let released : State := { s with store := { s.store with journal := kept } }
      let waits := fun l => ∃ w ∈ (s.meter l).wait, w.reason = .journal
      let passes := kept.length < s.store.journal.length ∧ openLanes s.meters + 1 ≤ released.store.freeCount
      let still := (∀ l, ¬ waits l) ∨ ¬ passes
      ∃ t, exec (.releaseJournal m) s = .next t ∧ s.acked t ∧
        (still → t = { released with link := t.link }) ∧
        (∀ l, waits l → ¬ waits (other l) → passes → (s.seq l).state ≠ .held .read →
          released.retried t l { (s.seq l).holds with journal := false }) ∧
        ((∀ l, waits l) → passes → (∀ l, (s.seq l).state ≠ .held .read) → s.sends 5 →
          ∃ u : State, released.retried u .A { (s.seq .A).holds with journal := false } ∧
            (∀ dest p, u.queued dest p → t.queued dest p) ∧
            u.retried t .B { (u.seq .B).holds with journal := false }) ∧
        (let replied := fun (r : Result) (n : Nat) (upTo : Option Nat) =>
           t.queued m.sender.toNat (firstReply m .releaseJournal r (.freed n upTo)) ∧
             (still → s.answered t m .releaseJournal r (.freed n upTo))
         (s.store.journal = [] → replied .done 0 none) ∧
         ∀ old, s.store.journal.head? = some old → ∀ newest, s.store.journal.getLast? = some newest →
           (q < old.seq → replied .done 0 none) ∧
           (old.seq ≤ q → replied (if newest.seq < q then .clamped else .done)
             (s.store.journal.length - kept.length) (some (min q newest.seq))))))

/-- TARIFF_COMMIT (R110): a count above 8 or a day start above 1,439 is refused RANGE; a commit of written slots whose
limits lie in 1..1,440 and ascend strictly replaces the live table; any other is refused TARIFF_ORDER. And the band lookup
(R108): the first band whose limit is above the relative minute, or the last band. -/
def Obligations.TariffsCommitted : Prop :=
  (∀ (m : Msg) (s : State), s.room 1 → s.refusedButDesk (.tariffCommit m) m .tariffCommit) ∧
  (∀ (m : Msg) (s : State), s.room 1 → s.reaches m .tariffCommit → ∀ a, parseCommit m.args = some a →
    ∃ t, exec (.tariffCommit m) s = .next t ∧ t = { s with link := t.link, tariff := t.tariff } ∧
      t.tariff.staged = s.tariff.staged ∧
      (8 < a.1 ∨ 1439 < a.2 → t.tariff = s.tariff ∧ s.answered t m .tariffCommit (.refused .range) .none) ∧
      (a.1 ≤ 8 → a.2 ≤ 1439 →
        (let bs := (s.tariff.staged.take a.1).filterMap id
         let good := 1 ≤ a.1 ∧ s.tariff.staged.take a.1 = bs.map some ∧ (∀ b ∈ bs, 1 ≤ b.limit ∧ b.limit ≤ 1440) ∧
           (bs.map (·.limit)).Pairwise (· < ·)
         (good → t.tariff.live = { dayStart := some a.2, bands := bs } ∧ s.answered t m .tariffCommit .done .none) ∧
         (¬ good → t.tariff = s.tariff ∧ s.answered t m .tariffCommit (.refused .tariffOrder) .none)))) ∧
  ∀ (t : LiveTariff) (second : Nat), second < 86400 → ∀ d, t.dayStart = some d → d < 1440 →
    ∀ b bs, t.bands = b :: bs →
    ∃ i x, t.lookup second = some (i, x) ∧ t.bands[i]? = some x ∧
      (∀ j y, j < i → t.bands[j]? = some y → y.limit ≤ (second / 60 + 1440 - d) % 1440) ∧
      (i + 1 < t.bands.length → (second / 60 + 1440 - d) % 1440 < x.limit)

/-- The reports are answered from the state as it stands and change nothing but the queue (R181): LANE_STATUS with the
sequencer's part, the return state, the meter and the sessions of the lane (R25, R101, R122); the parts 0 to 6 of
STATION_STATUS (R101, R138, R149, R167); SESSION with its head and a part for each bowler entry (R84); GAME with its head,
its frames and five balls a part (R63, R193); the parts 0 to 4 of CALIBRATION (R39); JOURNAL with an entry or up to three
items of its list (R132); ARCHIVE with its head and twelve balls a part (R136, R193); RESET_CAUSE (R188). A part beyond the
last is refused RANGE. MODEL'S CHOICE (log entry 19): a CALIBRATION that names a lane other than A or B is refused RANGE,
which R39 does not say. MODEL'S CHOICE (log entry 53): a JOURNAL's sequence is tested before its part. MODEL'S CHOICE (log
entry 55): of two sessions current on one lane, the one that stands first in the table. -/
def Obligations.ReportsAnswered : Prop :=
  ∀ (m : Msg) (s : State), s.room 1 →
    (let gives := fun (c : Instr) (n : ReqName) (r : Result) (d : ReplyData) =>
       ∃ t, exec c s = .next t ∧ s.answered t m n r d ∧ t = { s with link := t.link }
     let shows := fun (c : Instr) (n : ReqName) (why : RefuseReason) (o : Option Report) =>
       (∀ r, o = some r → gives c n .done (.report r)) ∧ (o = none → gives c n (.refused why) .none)
     let state : SeqState → SeqName × Option HoldPoint × Option NextPhase × Option FaultView := fun q => match q with
       | .standby => (.standby, none, none, none)
       | .armed => (.armed, none, none, none)
       | .settling => (.settling, none, none, none)
       | .spacing n => (.spacing, none, some n, none)
       | .reading => (.reading, none, none, none)
       | .clearing => (.clearing, none, none, none)
       | .setting => (.setting, none, none, none)
       | .held p => (.held, some p, none, none)
       | .calibrating => (.calibrating, none, none, none)
       | .fault f => (.fault, none, none, some { phase := f.phase, repeated := f.repeated
                                                 retained := f.retained.map fun c => (c.origin, c.restart) })
     let onLane := fun (l : LaneId) (x : Session) => decide (x.home = l ∧ x.state ≠ .parked ∨
       x.frameLane = some l ∧ (x.state = .playing ∨ x.state = .waitMove ∨ x.state = .moving .sending ∨
         x.state = .moving .committed))
     let lane := fun l : LaneId =>
       let q := s.seq l
       let mt := s.meter l
       Report.lane
         { state := (state q.state).1, point := (state q.state).2.1, next := (state q.state).2.2.1
           fault := (state q.state).2.2.2, holds := q.holds, mode := q.mode
           cycle := q.cycle.map fun c =>
             { kind := c.kind, read := c.read, origin := c.origin, restart := c.restart, frameEnd := c.frameEnd
               ball := c.ball.map fun b => (b.bowler.isSome, b.foul) }
           foul := q.foul, stray := q.stray, pend := q.pend.map fun p => p.req.name, ret := s.ret.state, meter := mt
           runs := if mt.isOpen = true ∧ mt.mode = .time then
               some ((state q.state).1 != .fault && !q.holds.credit && !q.holds.journal && !q.holds.ret)
             else none
           sessions := (s.sessions.filter (onLane l)).map fun x => (x.id, x.state)
           current := (s.sessions.find? fun x =>
               decide ((x.turn = .active ∨ x.turn = .ended) ∧ x.frameLane = some l)).bind fun x =>
             x.current.map fun i => (x.id, i)
           outstanding := (s.sessions.filter fun x =>
             decide (x.turn = .outstanding ∧ x.frameLane = some l)).map fun x => x.id }
     let sto := s.store
     let oldest := sto.journal.head?.map fun e => e.seq
     let newest := sto.journal.getLast?.map fun e => e.seq
     let station : Nat → Option StationPart := fun part => match part with
       | 0 => some (.control s.ctl.pair s.ctl.source s.ctl.source.isSome s.ctl.clock s.ctl.supplyLow s.link.group
           s.link.groupOn s.silent s.link.queue.length)
       | 1 => some (.ret s.ret.state s.ret.rackFull s.ret.strain
           (decide ((∃ l ∈ [LaneId.A, .B], (s.meter l).isOpen = true) ∨ s.ret.transit ≠ [] ∨ s.ret.state = .running ∨
             s.ret.state = .purging))
           s.ret.purgeCount s.ret.pend.isSome s.ret.transit)
       | 2 => some (.live s.tariff.live)
       | 3 => some (.staged s.tariff.staged)
       | 4 => some (.store sto.share sto.layoutHeld (8 * sto.share) sto.journal.length
           (min (8 * sto.share - sto.journal.length) (4294967295 - sto.lastSeq)) oldest newest sto.lastSeq
           (4 * (64 - sto.share)) sto.archive.length (sto.archive.getLast?.map fun g => g.serial))
       | 5 => some (.spacing (s.spacing.window.map fun e => (e.station, e.lane, e.life - e.age))
           (s.spacing.waiting.map fun r => (r.lane, r.next, r.urgent)) (s.spacing.passed && s.spacing.slot.isSome)
           s.spacing.quiet s.spacing.isLocal)
       | 6 => some (.transfer (match s.transfer.record with
           | .target got tag peer o parts bad n =>
             { record := .target got tag peer o [] bad n
               received := parts.map fun p => (p.ident.isSome, p.balls.isSome), lastTag := s.transfer.lastTag }
           | r => { record := r, received := [], lastTag := s.transfer.lastTag }))
       | _ => none
     let named := fun (id k : Nat) => if id = 0 then
         (laneOf k).bind fun l => s.sessions.find? fun x => decide (x.home = l ∧ x.state ≠ .parked)
       else s.session? id
     let known := fun g : Game => (g.frames.filterMap fun o => o.bind fun r => r.cum).getLastD 0
     let sessionPart : Session → Nat → Option SessionPart := fun x part => if part = 0 then
         some (.head x.id x.home x.cross
           (if x.cross then
             (s.sessions.find? fun y => decide (y.id ≠ x.id ∧ y.home = other x.home ∧ y.state ≠ .parked)).map fun y => y.id
           else none)
           x.state x.size x.bowlers.length x.pos x.turn x.current x.limit x.discount)
       else (x.bowlers[part - 1]?).map fun b => .bowler b.name b.handicap b.absent b.completed b.first
         (b.game.map fun g => (g.number, g.status, g.charged, known g, g.total))
     let run := fun {α : Type} (n k : Nat) (xs : List α) =>
       if n * k < xs.length then some ((xs.drop (n * k)).take n) else none
     let balls := fun g : Game => g.frames.flatMap fun o => (o.map fun r => r.balls).getD []
     let gamePart : Nat → Nat → Game → Nat → Option GameBody := fun sid i g part => match part with
       | 0 => some (.head sid i g.name g.handicap g.number g.status g.charged g.scratch g.total)
       | 1 => some (.frames (g.frames.map fun o => o.map fun r => (r.mark, r.score, r.cum)))
       | k + 2 => (run 5 k (balls g)).map .balls
     let calPart : Deck → Nat → Option CalPart := fun d part => match part with
       | 0 => some (.head d.thresholds d.unreadable d.rack d.cal.mode d.cal.result d.cal.steps d.cal.stray)
       | 1 => some (.last d.last)
       | 2 => some (.first d.cal.before d.cal.firstMiss)
       | 3 => some (.all d.cal.allMiss d.cal.missCount)
       | 4 => some (.outcome d.cal.outcome)
       | _ => none
     let journalPart : JournalEntry → Nat → Nat → Option JournalPart := fun e part first => match part, e.body with
       | 0, _ => some (.entry e (oldest.getD 0) (newest.getD 0))
       | 1, .closing _ _ _ _ (some list) =>
         if 0 < first ∧ list.length ≤ first then none else some (.items e.seq list.length ((list.drop first).take 3))
       | _, _ => none
     let archivePart : ArchivedGame → Nat → Option ArchivePart := fun g part => match part with
       | 0 => some (.head g sto.archive.length)
       | k + 1 => (run 12 k g.balls).map (.balls g.serial)
     (s.reaches m .laneStatus → ∀ a, parse1 m.args = some a →
       shows (.laneStatus m) .laneStatus .range ((laneOf a).map lane)) ∧
     (s.reaches m .stationStatus → ∀ a, parse1 m.args = some a →
       shows (.stationStatus m) .stationStatus .range ((station a).map .station)) ∧
     (s.reaches m .session → ∀ a, parse3 m.args = some a →
       (named a.1 a.2.1 = none → gives (.session m) .session (.refused .noSession) .none) ∧
       ∀ x, named a.1 a.2.1 = some x → shows (.session m) .session .range ((sessionPart x a.2.2).map .session)) ∧
     (s.reaches m .game → ∀ a, parse3 m.args = some a →
       (s.session? a.1 = none → gives (.game m) .game (.refused .noSession) .none) ∧
       ∀ x, s.session? a.1 = some x →
         (x.bowler? a.2.1 = none → gives (.game m) .game (.refused .range) .none) ∧
         ∀ b, x.bowler? a.2.1 = some b →
           (b.game = none → gives (.game m) .game (.refused .notFound) .none) ∧
           ∀ g, b.game = some g → shows (.game m) .game .range
             ((gamePart x.id a.2.1 g a.2.2).map (.game g.revision (balls g).length))) ∧
     (s.reaches m .calibration → ∀ a, parse2 m.args = some a → shows (.calibration m) .calibration .range
       ((laneOf a.1).bind fun l => (calPart (s.deck l) a.2).map .calibration)) ∧
     (s.reaches m .journal → ∀ a, parseJournal m.args = some a →
       ((∀ e ∈ sto.journal, e.seq ≠ a.1) → gives (.journal m) .journal (.refused .notFound) (.held oldest newest)) ∧
       ∀ e, sto.journal.find? (fun e => e.seq == a.1) = some e →
         shows (.journal m) .journal .range ((journalPart e a.2.1 a.2.2).map .journal)) ∧
     (s.reaches m .archive → ∀ a, parse2 m.args = some a →
       (sto.archive.length ≤ a.1 → gives (.archive m) .archive (.refused .notFound) .none) ∧
       ∀ g, sto.archive.reverse[a.1]? = some g →
         shows (.archive m) .archive .range ((archivePart g a.2).map .archive)) ∧
     (s.reaches m .resetCause →
       gives (.resetCause m) .resetCause .done
         (.report (.resetCause s.ctl.cause s.ctl.warmCount s.ctl.source s.ctl.clock.isSome))))

/-! ## Layouts -/

/-- The layouts of R192 lose nothing: the payload fields of an OFFER, an IDENT, a BALLS and a setup answer, written by the
sender for values in range, are read back whole by the receiver; and a display update is 32 bytes long. Every frame built
fits 32 payload bytes (R194), a BALLS with the at most 21 balls of a game among them. MODEL'S CHOICE (log entry 20): a reply
carries the first 29 bytes of its result data. -/
def Obligations.LayoutsRoundTrip : Prop :=
  (∀ o : OfferFields, 1 ≤ o.size → o.size ≤ 6 → 1 ≤ o.number → o.number ≤ 99 → 1 ≤ o.frame → o.frame ≤ 10 →
    o.current ≤ o.size → o.limit ≤ 99 → o.discount ≤ 100 → parseOffer (TransferMsg.offer o).fields.2 = some o) ∧
  (∀ (i : Nat) (f : IdentFields), i ≤ 255 → f.name.length ≤ 12 → (∀ b ∈ f.name, b ≠ 0#8) → f.handicap ≤ 255 →
    f.completed ≤ 255 → parseIdent (TransferMsg.ident i f).fields.2 = some (i, f)) ∧
  (∀ (i : Nat) (f : BallsFields), i ≤ 255 → f.counts.length ≤ 10 → (∀ c ∈ f.counts, c ≤ 3) → f.balls.length ≤ 255 →
    (∀ b ∈ f.balls, b.pins ≤ 15) → parseBalls (TransferMsg.balls i f).fields.2 = some (i, f.counts.length, f)) ∧
  (∀ u : Setup, setupSound u → parseSetup u.bytes = some u) ∧
  (∀ p : Payload, (∀ d, p ≠ .display d) → (∀ tag i f, p = .transfer tag (.balls i f) → f.balls.length ≤ 21) →
    p.bytes.length ≤ 32) ∧
  ∀ (h : DisplayHead) (n pins : Nat) (foul split estimated : Bool) (mark : Mark) (a : Admission), h.scores.length = 10 →
    (Display.ball h n pins foul split estimated mark).bytes.length = 32 ∧ (Display.turn h a).bytes.length = 32
end

