-- ==== Sys2Proof/Laws/State.lean ====
section
/-! SUPPORT. One lemma for each field under each write of one block, and the lemmas of the per-lane blocks. All are true by
`rfl` or by cases on the lanes; no later proof unfolds a record update. -/

namespace Sys2Proof.Machine

/-! ## Pairs -/

variable {α : Type}

@[simp] theorem Pair.get_set_same (p : Pair α) (l : LaneId) (x : α) : (p.set l x).get l = x := by cases l <;> rfl

theorem Pair.get_set (p : Pair α) (l k : LaneId) (x : α) : (p.set l x).get k = if k = l then x else p.get k := by
  cases l <;> cases k <;> rfl

@[simp] theorem Pair.get_set_other (p : Pair α) (l : LaneId) (x : α) : (p.set l x).get (other l) = p.get (other l) := by
  cases l <;> rfl

@[simp] theorem Pair.get_other_set (p : Pair α) (l : LaneId) (x : α) : (p.set (other l) x).get l = p.get l := by
  cases l <;> rfl

@[simp] theorem Pair.set_get (p : Pair α) (l : LaneId) : p.set l (p.get l) = p := by cases l <;> rfl

@[simp] theorem Pair.set_set (p : Pair α) (l : LaneId) (x y : α) : (p.set l x).set l y = p.set l y := by cases l <;> rfl

theorem Pair.ext_get {p q : Pair α} (h : ∀ l, p.get l = q.get l) : p = q := by
  cases p; cases q; have a := h .A; have b := h .B; simp_all [Pair.get]

theorem Pair.a_eq_get (p : Pair α) : p.a = p.get .A := rfl

theorem Pair.b_eq_get (p : Pair α) : p.b = p.get .B := rfl

@[simp] theorem other_other (l : LaneId) : other (other l) = l := by cases l <;> rfl

@[simp] theorem other_ne (l : LaneId) : other l ≠ l := by cases l <;> decide

@[simp] theorem ne_other (l : LaneId) : l ≠ other l := by cases l <;> decide

theorem eq_or_eq_other (l k : LaneId) : k = l ∨ k = other l := by cases l <;> cases k <;> simp [other]

/-! ## Writes of one block -/

variable (s : State) (l k : LaneId)

@[simp] theorem State.setSessions_pending (x : List Session) : (s.setSessions x).pending = s.pending := rfl
@[simp] theorem State.setSessions_seqs (x : List Session) : (s.setSessions x).seqs = s.seqs := rfl
@[simp] theorem State.setSessions_decks (x : List Session) : (s.setSessions x).decks = s.decks := rfl
@[simp] theorem State.setSessions_meters (x : List Session) : (s.setSessions x).meters = s.meters := rfl
@[simp] theorem State.setSessions_sessions (x : List Session) : (s.setSessions x).sessions = x := rfl
@[simp] theorem State.setSessions_nextId (x : List Session) : (s.setSessions x).nextId = s.nextId := rfl
@[simp] theorem State.setSessions_ret (x : List Session) : (s.setSessions x).ret = s.ret := rfl
@[simp] theorem State.setSessions_tariff (x : List Session) : (s.setSessions x).tariff = s.tariff := rfl
@[simp] theorem State.setSessions_store (x : List Session) : (s.setSessions x).store = s.store := rfl
@[simp] theorem State.setSessions_spacing (x : List Session) : (s.setSessions x).spacing = s.spacing := rfl
@[simp] theorem State.setSessions_silent (x : List Session) : (s.setSessions x).silent = s.silent := rfl
@[simp] theorem State.setSessions_transfer (x : List Session) : (s.setSessions x).transfer = s.transfer := rfl
@[simp] theorem State.setSessions_link (x : List Session) : (s.setSessions x).link = s.link := rfl
@[simp] theorem State.setSessions_ctl (x : List Session) : (s.setSessions x).ctl = s.ctl := rfl
@[simp] theorem State.setSessions_free (x : List Session) : (s.setSessions x).free = s.free := rfl
@[simp] theorem State.setSessions_seq (x : List Session) : (s.setSessions x).seq l = s.seq l := rfl
@[simp] theorem State.setSessions_deck (x : List Session) : (s.setSessions x).deck l = s.deck l := rfl
@[simp] theorem State.setSessions_meter (x : List Session) : (s.setSessions x).meter l = s.meter l := rfl
@[simp] theorem State.setSessions_running (x : List Session) : (s.setSessions x).running = s.running := rfl
@[simp] theorem State.setSessions_windowMs (x : List Session) : (s.setSessions x).windowMs = s.windowMs := rfl

@[simp] theorem State.setNextId_pending (x : Nat) : (s.setNextId x).pending = s.pending := rfl
@[simp] theorem State.setNextId_seqs (x : Nat) : (s.setNextId x).seqs = s.seqs := rfl
@[simp] theorem State.setNextId_decks (x : Nat) : (s.setNextId x).decks = s.decks := rfl
@[simp] theorem State.setNextId_meters (x : Nat) : (s.setNextId x).meters = s.meters := rfl
@[simp] theorem State.setNextId_sessions (x : Nat) : (s.setNextId x).sessions = s.sessions := rfl
@[simp] theorem State.setNextId_nextId (x : Nat) : (s.setNextId x).nextId = x := rfl
@[simp] theorem State.setNextId_ret (x : Nat) : (s.setNextId x).ret = s.ret := rfl
@[simp] theorem State.setNextId_tariff (x : Nat) : (s.setNextId x).tariff = s.tariff := rfl
@[simp] theorem State.setNextId_store (x : Nat) : (s.setNextId x).store = s.store := rfl
@[simp] theorem State.setNextId_spacing (x : Nat) : (s.setNextId x).spacing = s.spacing := rfl
@[simp] theorem State.setNextId_silent (x : Nat) : (s.setNextId x).silent = s.silent := rfl
@[simp] theorem State.setNextId_transfer (x : Nat) : (s.setNextId x).transfer = s.transfer := rfl
@[simp] theorem State.setNextId_link (x : Nat) : (s.setNextId x).link = s.link := rfl
@[simp] theorem State.setNextId_ctl (x : Nat) : (s.setNextId x).ctl = s.ctl := rfl
@[simp] theorem State.setNextId_free (x : Nat) : (s.setNextId x).free = s.free := rfl
@[simp] theorem State.setNextId_seq (x : Nat) : (s.setNextId x).seq l = s.seq l := rfl
@[simp] theorem State.setNextId_deck (x : Nat) : (s.setNextId x).deck l = s.deck l := rfl
@[simp] theorem State.setNextId_meter (x : Nat) : (s.setNextId x).meter l = s.meter l := rfl
@[simp] theorem State.setNextId_running (x : Nat) : (s.setNextId x).running = s.running := rfl
@[simp] theorem State.setNextId_windowMs (x : Nat) : (s.setNextId x).windowMs = s.windowMs := rfl

@[simp] theorem State.setRet_pending (x : Return) : (s.setRet x).pending = s.pending := rfl
@[simp] theorem State.setRet_seqs (x : Return) : (s.setRet x).seqs = s.seqs := rfl
@[simp] theorem State.setRet_decks (x : Return) : (s.setRet x).decks = s.decks := rfl
@[simp] theorem State.setRet_meters (x : Return) : (s.setRet x).meters = s.meters := rfl
@[simp] theorem State.setRet_sessions (x : Return) : (s.setRet x).sessions = s.sessions := rfl
@[simp] theorem State.setRet_nextId (x : Return) : (s.setRet x).nextId = s.nextId := rfl
@[simp] theorem State.setRet_ret (x : Return) : (s.setRet x).ret = x := rfl
@[simp] theorem State.setRet_tariff (x : Return) : (s.setRet x).tariff = s.tariff := rfl
@[simp] theorem State.setRet_store (x : Return) : (s.setRet x).store = s.store := rfl
@[simp] theorem State.setRet_spacing (x : Return) : (s.setRet x).spacing = s.spacing := rfl
@[simp] theorem State.setRet_silent (x : Return) : (s.setRet x).silent = s.silent := rfl
@[simp] theorem State.setRet_transfer (x : Return) : (s.setRet x).transfer = s.transfer := rfl
@[simp] theorem State.setRet_link (x : Return) : (s.setRet x).link = s.link := rfl
@[simp] theorem State.setRet_ctl (x : Return) : (s.setRet x).ctl = s.ctl := rfl
@[simp] theorem State.setRet_free (x : Return) : (s.setRet x).free = s.free := rfl
@[simp] theorem State.setRet_seq (x : Return) : (s.setRet x).seq l = s.seq l := rfl
@[simp] theorem State.setRet_deck (x : Return) : (s.setRet x).deck l = s.deck l := rfl
@[simp] theorem State.setRet_meter (x : Return) : (s.setRet x).meter l = s.meter l := rfl
@[simp] theorem State.setRet_running (x : Return) : (s.setRet x).running = s.running := rfl
@[simp] theorem State.setRet_windowMs (x : Return) : (s.setRet x).windowMs = s.windowMs := rfl

@[simp] theorem State.setTariff_pending (x : Tariff) : (s.setTariff x).pending = s.pending := rfl
@[simp] theorem State.setTariff_seqs (x : Tariff) : (s.setTariff x).seqs = s.seqs := rfl
@[simp] theorem State.setTariff_decks (x : Tariff) : (s.setTariff x).decks = s.decks := rfl
@[simp] theorem State.setTariff_meters (x : Tariff) : (s.setTariff x).meters = s.meters := rfl
@[simp] theorem State.setTariff_sessions (x : Tariff) : (s.setTariff x).sessions = s.sessions := rfl
@[simp] theorem State.setTariff_nextId (x : Tariff) : (s.setTariff x).nextId = s.nextId := rfl
@[simp] theorem State.setTariff_ret (x : Tariff) : (s.setTariff x).ret = s.ret := rfl
@[simp] theorem State.setTariff_tariff (x : Tariff) : (s.setTariff x).tariff = x := rfl
@[simp] theorem State.setTariff_store (x : Tariff) : (s.setTariff x).store = s.store := rfl
@[simp] theorem State.setTariff_spacing (x : Tariff) : (s.setTariff x).spacing = s.spacing := rfl
@[simp] theorem State.setTariff_silent (x : Tariff) : (s.setTariff x).silent = s.silent := rfl
@[simp] theorem State.setTariff_transfer (x : Tariff) : (s.setTariff x).transfer = s.transfer := rfl
@[simp] theorem State.setTariff_link (x : Tariff) : (s.setTariff x).link = s.link := rfl
@[simp] theorem State.setTariff_ctl (x : Tariff) : (s.setTariff x).ctl = s.ctl := rfl
@[simp] theorem State.setTariff_free (x : Tariff) : (s.setTariff x).free = s.free := rfl
@[simp] theorem State.setTariff_seq (x : Tariff) : (s.setTariff x).seq l = s.seq l := rfl
@[simp] theorem State.setTariff_deck (x : Tariff) : (s.setTariff x).deck l = s.deck l := rfl
@[simp] theorem State.setTariff_meter (x : Tariff) : (s.setTariff x).meter l = s.meter l := rfl
@[simp] theorem State.setTariff_running (x : Tariff) : (s.setTariff x).running = s.running := rfl
@[simp] theorem State.setTariff_windowMs (x : Tariff) : (s.setTariff x).windowMs = s.windowMs := rfl

@[simp] theorem State.setStore_pending (x : Store) : (s.setStore x).pending = s.pending := rfl
@[simp] theorem State.setStore_seqs (x : Store) : (s.setStore x).seqs = s.seqs := rfl
@[simp] theorem State.setStore_decks (x : Store) : (s.setStore x).decks = s.decks := rfl
@[simp] theorem State.setStore_meters (x : Store) : (s.setStore x).meters = s.meters := rfl
@[simp] theorem State.setStore_sessions (x : Store) : (s.setStore x).sessions = s.sessions := rfl
@[simp] theorem State.setStore_nextId (x : Store) : (s.setStore x).nextId = s.nextId := rfl
@[simp] theorem State.setStore_ret (x : Store) : (s.setStore x).ret = s.ret := rfl
@[simp] theorem State.setStore_tariff (x : Store) : (s.setStore x).tariff = s.tariff := rfl
@[simp] theorem State.setStore_store (x : Store) : (s.setStore x).store = x := rfl
@[simp] theorem State.setStore_spacing (x : Store) : (s.setStore x).spacing = s.spacing := rfl
@[simp] theorem State.setStore_silent (x : Store) : (s.setStore x).silent = s.silent := rfl
@[simp] theorem State.setStore_transfer (x : Store) : (s.setStore x).transfer = s.transfer := rfl
@[simp] theorem State.setStore_link (x : Store) : (s.setStore x).link = s.link := rfl
@[simp] theorem State.setStore_ctl (x : Store) : (s.setStore x).ctl = s.ctl := rfl
@[simp] theorem State.setStore_free (x : Store) : (s.setStore x).free = s.free := rfl
@[simp] theorem State.setStore_seq (x : Store) : (s.setStore x).seq l = s.seq l := rfl
@[simp] theorem State.setStore_deck (x : Store) : (s.setStore x).deck l = s.deck l := rfl
@[simp] theorem State.setStore_meter (x : Store) : (s.setStore x).meter l = s.meter l := rfl
@[simp] theorem State.setStore_running (x : Store) : (s.setStore x).running = s.running := rfl
@[simp] theorem State.setStore_windowMs (x : Store) : (s.setStore x).windowMs = s.windowMs := rfl

@[simp] theorem State.setSpacing_pending (x : Spacing) : (s.setSpacing x).pending = s.pending := rfl
@[simp] theorem State.setSpacing_seqs (x : Spacing) : (s.setSpacing x).seqs = s.seqs := rfl
@[simp] theorem State.setSpacing_decks (x : Spacing) : (s.setSpacing x).decks = s.decks := rfl
@[simp] theorem State.setSpacing_meters (x : Spacing) : (s.setSpacing x).meters = s.meters := rfl
@[simp] theorem State.setSpacing_sessions (x : Spacing) : (s.setSpacing x).sessions = s.sessions := rfl
@[simp] theorem State.setSpacing_nextId (x : Spacing) : (s.setSpacing x).nextId = s.nextId := rfl
@[simp] theorem State.setSpacing_ret (x : Spacing) : (s.setSpacing x).ret = s.ret := rfl
@[simp] theorem State.setSpacing_tariff (x : Spacing) : (s.setSpacing x).tariff = s.tariff := rfl
@[simp] theorem State.setSpacing_store (x : Spacing) : (s.setSpacing x).store = s.store := rfl
@[simp] theorem State.setSpacing_spacing (x : Spacing) : (s.setSpacing x).spacing = x := rfl
@[simp] theorem State.setSpacing_silent (x : Spacing) : (s.setSpacing x).silent = s.silent := rfl
@[simp] theorem State.setSpacing_transfer (x : Spacing) : (s.setSpacing x).transfer = s.transfer := rfl
@[simp] theorem State.setSpacing_link (x : Spacing) : (s.setSpacing x).link = s.link := rfl
@[simp] theorem State.setSpacing_ctl (x : Spacing) : (s.setSpacing x).ctl = s.ctl := rfl
@[simp] theorem State.setSpacing_free (x : Spacing) : (s.setSpacing x).free = s.free := rfl
@[simp] theorem State.setSpacing_seq (x : Spacing) : (s.setSpacing x).seq l = s.seq l := rfl
@[simp] theorem State.setSpacing_deck (x : Spacing) : (s.setSpacing x).deck l = s.deck l := rfl
@[simp] theorem State.setSpacing_meter (x : Spacing) : (s.setSpacing x).meter l = s.meter l := rfl
@[simp] theorem State.setSpacing_running (x : Spacing) : (s.setSpacing x).running = s.running := rfl
@[simp] theorem State.setSpacing_windowMs (x : Spacing) : (s.setSpacing x).windowMs = s.windowMs := rfl

@[simp] theorem State.setSilent_pending (x : Bool) : (s.setSilent x).pending = s.pending := rfl
@[simp] theorem State.setSilent_seqs (x : Bool) : (s.setSilent x).seqs = s.seqs := rfl
@[simp] theorem State.setSilent_decks (x : Bool) : (s.setSilent x).decks = s.decks := rfl
@[simp] theorem State.setSilent_meters (x : Bool) : (s.setSilent x).meters = s.meters := rfl
@[simp] theorem State.setSilent_sessions (x : Bool) : (s.setSilent x).sessions = s.sessions := rfl
@[simp] theorem State.setSilent_nextId (x : Bool) : (s.setSilent x).nextId = s.nextId := rfl
@[simp] theorem State.setSilent_ret (x : Bool) : (s.setSilent x).ret = s.ret := rfl
@[simp] theorem State.setSilent_tariff (x : Bool) : (s.setSilent x).tariff = s.tariff := rfl
@[simp] theorem State.setSilent_store (x : Bool) : (s.setSilent x).store = s.store := rfl
@[simp] theorem State.setSilent_spacing (x : Bool) : (s.setSilent x).spacing = s.spacing := rfl
@[simp] theorem State.setSilent_silent (x : Bool) : (s.setSilent x).silent = x := rfl
@[simp] theorem State.setSilent_transfer (x : Bool) : (s.setSilent x).transfer = s.transfer := rfl
@[simp] theorem State.setSilent_link (x : Bool) : (s.setSilent x).link = s.link := rfl
@[simp] theorem State.setSilent_ctl (x : Bool) : (s.setSilent x).ctl = s.ctl := rfl
@[simp] theorem State.setSilent_free (x : Bool) : (s.setSilent x).free = s.free := rfl
@[simp] theorem State.setSilent_seq (x : Bool) : (s.setSilent x).seq l = s.seq l := rfl
@[simp] theorem State.setSilent_deck (x : Bool) : (s.setSilent x).deck l = s.deck l := rfl
@[simp] theorem State.setSilent_meter (x : Bool) : (s.setSilent x).meter l = s.meter l := rfl
@[simp] theorem State.setSilent_running (x : Bool) : (s.setSilent x).running = s.running := rfl
@[simp] theorem State.setSilent_windowMs (x : Bool) : (s.setSilent x).windowMs = s.windowMs := rfl

@[simp] theorem State.setTransfer_pending (x : Transfer) : (s.setTransfer x).pending = s.pending := rfl
@[simp] theorem State.setTransfer_seqs (x : Transfer) : (s.setTransfer x).seqs = s.seqs := rfl
@[simp] theorem State.setTransfer_decks (x : Transfer) : (s.setTransfer x).decks = s.decks := rfl
@[simp] theorem State.setTransfer_meters (x : Transfer) : (s.setTransfer x).meters = s.meters := rfl
@[simp] theorem State.setTransfer_sessions (x : Transfer) : (s.setTransfer x).sessions = s.sessions := rfl
@[simp] theorem State.setTransfer_nextId (x : Transfer) : (s.setTransfer x).nextId = s.nextId := rfl
@[simp] theorem State.setTransfer_ret (x : Transfer) : (s.setTransfer x).ret = s.ret := rfl
@[simp] theorem State.setTransfer_tariff (x : Transfer) : (s.setTransfer x).tariff = s.tariff := rfl
@[simp] theorem State.setTransfer_store (x : Transfer) : (s.setTransfer x).store = s.store := rfl
@[simp] theorem State.setTransfer_spacing (x : Transfer) : (s.setTransfer x).spacing = s.spacing := rfl
@[simp] theorem State.setTransfer_silent (x : Transfer) : (s.setTransfer x).silent = s.silent := rfl
@[simp] theorem State.setTransfer_transfer (x : Transfer) : (s.setTransfer x).transfer = x := rfl
@[simp] theorem State.setTransfer_link (x : Transfer) : (s.setTransfer x).link = s.link := rfl
@[simp] theorem State.setTransfer_ctl (x : Transfer) : (s.setTransfer x).ctl = s.ctl := rfl
@[simp] theorem State.setTransfer_free (x : Transfer) : (s.setTransfer x).free = s.free := rfl
@[simp] theorem State.setTransfer_seq (x : Transfer) : (s.setTransfer x).seq l = s.seq l := rfl
@[simp] theorem State.setTransfer_deck (x : Transfer) : (s.setTransfer x).deck l = s.deck l := rfl
@[simp] theorem State.setTransfer_meter (x : Transfer) : (s.setTransfer x).meter l = s.meter l := rfl
@[simp] theorem State.setTransfer_running (x : Transfer) : (s.setTransfer x).running = s.running := rfl
@[simp] theorem State.setTransfer_windowMs (x : Transfer) : (s.setTransfer x).windowMs = s.windowMs := rfl

@[simp] theorem State.setLink_pending (x : Link) : (s.setLink x).pending = s.pending := rfl
@[simp] theorem State.setLink_seqs (x : Link) : (s.setLink x).seqs = s.seqs := rfl
@[simp] theorem State.setLink_decks (x : Link) : (s.setLink x).decks = s.decks := rfl
@[simp] theorem State.setLink_meters (x : Link) : (s.setLink x).meters = s.meters := rfl
@[simp] theorem State.setLink_sessions (x : Link) : (s.setLink x).sessions = s.sessions := rfl
@[simp] theorem State.setLink_nextId (x : Link) : (s.setLink x).nextId = s.nextId := rfl
@[simp] theorem State.setLink_ret (x : Link) : (s.setLink x).ret = s.ret := rfl
@[simp] theorem State.setLink_tariff (x : Link) : (s.setLink x).tariff = s.tariff := rfl
@[simp] theorem State.setLink_store (x : Link) : (s.setLink x).store = s.store := rfl
@[simp] theorem State.setLink_spacing (x : Link) : (s.setLink x).spacing = s.spacing := rfl
@[simp] theorem State.setLink_silent (x : Link) : (s.setLink x).silent = s.silent := rfl
@[simp] theorem State.setLink_transfer (x : Link) : (s.setLink x).transfer = s.transfer := rfl
@[simp] theorem State.setLink_link (x : Link) : (s.setLink x).link = x := rfl
@[simp] theorem State.setLink_ctl (x : Link) : (s.setLink x).ctl = s.ctl := rfl
@[simp] theorem State.setLink_free (x : Link) : (s.setLink x).free = s.free := rfl
@[simp] theorem State.setLink_seq (x : Link) : (s.setLink x).seq l = s.seq l := rfl
@[simp] theorem State.setLink_deck (x : Link) : (s.setLink x).deck l = s.deck l := rfl
@[simp] theorem State.setLink_meter (x : Link) : (s.setLink x).meter l = s.meter l := rfl
@[simp] theorem State.setLink_running (x : Link) : (s.setLink x).running = s.running := rfl
@[simp] theorem State.setLink_windowMs (x : Link) : (s.setLink x).windowMs = s.windowMs := rfl

@[simp] theorem State.setCtl_pending (x : Control) : (s.setCtl x).pending = s.pending := rfl
@[simp] theorem State.setCtl_seqs (x : Control) : (s.setCtl x).seqs = s.seqs := rfl
@[simp] theorem State.setCtl_decks (x : Control) : (s.setCtl x).decks = s.decks := rfl
@[simp] theorem State.setCtl_meters (x : Control) : (s.setCtl x).meters = s.meters := rfl
@[simp] theorem State.setCtl_sessions (x : Control) : (s.setCtl x).sessions = s.sessions := rfl
@[simp] theorem State.setCtl_nextId (x : Control) : (s.setCtl x).nextId = s.nextId := rfl
@[simp] theorem State.setCtl_ret (x : Control) : (s.setCtl x).ret = s.ret := rfl
@[simp] theorem State.setCtl_tariff (x : Control) : (s.setCtl x).tariff = s.tariff := rfl
@[simp] theorem State.setCtl_store (x : Control) : (s.setCtl x).store = s.store := rfl
@[simp] theorem State.setCtl_spacing (x : Control) : (s.setCtl x).spacing = s.spacing := rfl
@[simp] theorem State.setCtl_silent (x : Control) : (s.setCtl x).silent = s.silent := rfl
@[simp] theorem State.setCtl_transfer (x : Control) : (s.setCtl x).transfer = s.transfer := rfl
@[simp] theorem State.setCtl_link (x : Control) : (s.setCtl x).link = s.link := rfl
@[simp] theorem State.setCtl_ctl (x : Control) : (s.setCtl x).ctl = x := rfl
@[simp] theorem State.setCtl_free (x : Control) : (s.setCtl x).free = s.free := rfl
@[simp] theorem State.setCtl_seq (x : Control) : (s.setCtl x).seq l = s.seq l := rfl
@[simp] theorem State.setCtl_deck (x : Control) : (s.setCtl x).deck l = s.deck l := rfl
@[simp] theorem State.setCtl_meter (x : Control) : (s.setCtl x).meter l = s.meter l := rfl

@[simp] theorem State.setFree_pending (x : Nat) : (s.setFree x).pending = s.pending := rfl
@[simp] theorem State.setFree_seqs (x : Nat) : (s.setFree x).seqs = s.seqs := rfl
@[simp] theorem State.setFree_decks (x : Nat) : (s.setFree x).decks = s.decks := rfl
@[simp] theorem State.setFree_meters (x : Nat) : (s.setFree x).meters = s.meters := rfl
@[simp] theorem State.setFree_sessions (x : Nat) : (s.setFree x).sessions = s.sessions := rfl
@[simp] theorem State.setFree_nextId (x : Nat) : (s.setFree x).nextId = s.nextId := rfl
@[simp] theorem State.setFree_ret (x : Nat) : (s.setFree x).ret = s.ret := rfl
@[simp] theorem State.setFree_tariff (x : Nat) : (s.setFree x).tariff = s.tariff := rfl
@[simp] theorem State.setFree_store (x : Nat) : (s.setFree x).store = s.store := rfl
@[simp] theorem State.setFree_spacing (x : Nat) : (s.setFree x).spacing = s.spacing := rfl
@[simp] theorem State.setFree_silent (x : Nat) : (s.setFree x).silent = s.silent := rfl
@[simp] theorem State.setFree_transfer (x : Nat) : (s.setFree x).transfer = s.transfer := rfl
@[simp] theorem State.setFree_link (x : Nat) : (s.setFree x).link = s.link := rfl
@[simp] theorem State.setFree_ctl (x : Nat) : (s.setFree x).ctl = s.ctl := rfl
@[simp] theorem State.setFree_free (x : Nat) : (s.setFree x).free = x := rfl
@[simp] theorem State.setFree_seq (x : Nat) : (s.setFree x).seq l = s.seq l := rfl
@[simp] theorem State.setFree_deck (x : Nat) : (s.setFree x).deck l = s.deck l := rfl
@[simp] theorem State.setFree_meter (x : Nat) : (s.setFree x).meter l = s.meter l := rfl
@[simp] theorem State.setFree_running (x : Nat) : (s.setFree x).running = s.running := rfl
@[simp] theorem State.setFree_windowMs (x : Nat) : (s.setFree x).windowMs = s.windowMs := rfl

@[simp] theorem State.setPending_pending (x : List Instr) : (s.setPending x).pending = x := rfl
@[simp] theorem State.setPending_seqs (x : List Instr) : (s.setPending x).seqs = s.seqs := rfl
@[simp] theorem State.setPending_decks (x : List Instr) : (s.setPending x).decks = s.decks := rfl
@[simp] theorem State.setPending_meters (x : List Instr) : (s.setPending x).meters = s.meters := rfl
@[simp] theorem State.setPending_sessions (x : List Instr) : (s.setPending x).sessions = s.sessions := rfl
@[simp] theorem State.setPending_nextId (x : List Instr) : (s.setPending x).nextId = s.nextId := rfl
@[simp] theorem State.setPending_ret (x : List Instr) : (s.setPending x).ret = s.ret := rfl
@[simp] theorem State.setPending_tariff (x : List Instr) : (s.setPending x).tariff = s.tariff := rfl
@[simp] theorem State.setPending_store (x : List Instr) : (s.setPending x).store = s.store := rfl
@[simp] theorem State.setPending_spacing (x : List Instr) : (s.setPending x).spacing = s.spacing := rfl
@[simp] theorem State.setPending_silent (x : List Instr) : (s.setPending x).silent = s.silent := rfl
@[simp] theorem State.setPending_transfer (x : List Instr) : (s.setPending x).transfer = s.transfer := rfl
@[simp] theorem State.setPending_link (x : List Instr) : (s.setPending x).link = s.link := rfl
@[simp] theorem State.setPending_ctl (x : List Instr) : (s.setPending x).ctl = s.ctl := rfl
@[simp] theorem State.setPending_free (x : List Instr) : (s.setPending x).free = s.free := rfl
@[simp] theorem State.setPending_seq (x : List Instr) : (s.setPending x).seq l = s.seq l := rfl
@[simp] theorem State.setPending_deck (x : List Instr) : (s.setPending x).deck l = s.deck l := rfl
@[simp] theorem State.setPending_meter (x : List Instr) : (s.setPending x).meter l = s.meter l := rfl
@[simp] theorem State.setPending_running (x : List Instr) : (s.setPending x).running = s.running := rfl
@[simp] theorem State.setPending_windowMs (x : List Instr) : (s.setPending x).windowMs = s.windowMs := rfl

@[simp] theorem State.setSeq_pending (x : Sequencer) : (s.setSeq l x).pending = s.pending := rfl
@[simp] theorem State.setSeq_seqs (x : Sequencer) : (s.setSeq l x).seqs = s.seqs.set l x := rfl
@[simp] theorem State.setSeq_decks (x : Sequencer) : (s.setSeq l x).decks = s.decks := rfl
@[simp] theorem State.setSeq_meters (x : Sequencer) : (s.setSeq l x).meters = s.meters := rfl
@[simp] theorem State.setSeq_sessions (x : Sequencer) : (s.setSeq l x).sessions = s.sessions := rfl
@[simp] theorem State.setSeq_nextId (x : Sequencer) : (s.setSeq l x).nextId = s.nextId := rfl
@[simp] theorem State.setSeq_ret (x : Sequencer) : (s.setSeq l x).ret = s.ret := rfl
@[simp] theorem State.setSeq_tariff (x : Sequencer) : (s.setSeq l x).tariff = s.tariff := rfl
@[simp] theorem State.setSeq_store (x : Sequencer) : (s.setSeq l x).store = s.store := rfl
@[simp] theorem State.setSeq_spacing (x : Sequencer) : (s.setSeq l x).spacing = s.spacing := rfl
@[simp] theorem State.setSeq_silent (x : Sequencer) : (s.setSeq l x).silent = s.silent := rfl
@[simp] theorem State.setSeq_transfer (x : Sequencer) : (s.setSeq l x).transfer = s.transfer := rfl
@[simp] theorem State.setSeq_link (x : Sequencer) : (s.setSeq l x).link = s.link := rfl
@[simp] theorem State.setSeq_ctl (x : Sequencer) : (s.setSeq l x).ctl = s.ctl := rfl
@[simp] theorem State.setSeq_free (x : Sequencer) : (s.setSeq l x).free = s.free := rfl
@[simp] theorem State.setSeq_seq_same (x : Sequencer) : (s.setSeq l x).seq l = x := Pair.get_set_same _ _ _
@[simp] theorem State.setSeq_seq_other (x : Sequencer) : (s.setSeq l x).seq (other l) = s.seq (other l) :=
  Pair.get_set_other _ _ _
theorem State.setSeq_seq (x : Sequencer) : (s.setSeq l x).seq k = if k = l then x else s.seq k := Pair.get_set _ _ _ _
@[simp] theorem State.setSeq_deck (x : Sequencer) : (s.setSeq l x).deck k = s.deck k := rfl
@[simp] theorem State.setSeq_meter (x : Sequencer) : (s.setSeq l x).meter k = s.meter k := rfl
@[simp] theorem State.setSeq_running (x : Sequencer) : (s.setSeq l x).running = s.running := rfl
@[simp] theorem State.setSeq_windowMs (x : Sequencer) : (s.setSeq l x).windowMs = s.windowMs := rfl

@[simp] theorem State.setDeck_pending (x : Deck) : (s.setDeck l x).pending = s.pending := rfl
@[simp] theorem State.setDeck_seqs (x : Deck) : (s.setDeck l x).seqs = s.seqs := rfl
@[simp] theorem State.setDeck_decks (x : Deck) : (s.setDeck l x).decks = s.decks.set l x := rfl
@[simp] theorem State.setDeck_meters (x : Deck) : (s.setDeck l x).meters = s.meters := rfl
@[simp] theorem State.setDeck_sessions (x : Deck) : (s.setDeck l x).sessions = s.sessions := rfl
@[simp] theorem State.setDeck_nextId (x : Deck) : (s.setDeck l x).nextId = s.nextId := rfl
@[simp] theorem State.setDeck_ret (x : Deck) : (s.setDeck l x).ret = s.ret := rfl
@[simp] theorem State.setDeck_tariff (x : Deck) : (s.setDeck l x).tariff = s.tariff := rfl
@[simp] theorem State.setDeck_store (x : Deck) : (s.setDeck l x).store = s.store := rfl
@[simp] theorem State.setDeck_spacing (x : Deck) : (s.setDeck l x).spacing = s.spacing := rfl
@[simp] theorem State.setDeck_silent (x : Deck) : (s.setDeck l x).silent = s.silent := rfl
@[simp] theorem State.setDeck_transfer (x : Deck) : (s.setDeck l x).transfer = s.transfer := rfl
@[simp] theorem State.setDeck_link (x : Deck) : (s.setDeck l x).link = s.link := rfl
@[simp] theorem State.setDeck_ctl (x : Deck) : (s.setDeck l x).ctl = s.ctl := rfl
@[simp] theorem State.setDeck_free (x : Deck) : (s.setDeck l x).free = s.free := rfl
@[simp] theorem State.setDeck_seq (x : Deck) : (s.setDeck l x).seq k = s.seq k := rfl
@[simp] theorem State.setDeck_deck_same (x : Deck) : (s.setDeck l x).deck l = x := Pair.get_set_same _ _ _
@[simp] theorem State.setDeck_deck_other (x : Deck) : (s.setDeck l x).deck (other l) = s.deck (other l) :=
  Pair.get_set_other _ _ _
theorem State.setDeck_deck (x : Deck) : (s.setDeck l x).deck k = if k = l then x else s.deck k := Pair.get_set _ _ _ _
@[simp] theorem State.setDeck_meter (x : Deck) : (s.setDeck l x).meter k = s.meter k := rfl
@[simp] theorem State.setDeck_running (x : Deck) : (s.setDeck l x).running = s.running := rfl
@[simp] theorem State.setDeck_windowMs (x : Deck) : (s.setDeck l x).windowMs = s.windowMs := rfl

@[simp] theorem State.setMeter_pending (x : Meter) : (s.setMeter l x).pending = s.pending := rfl
@[simp] theorem State.setMeter_seqs (x : Meter) : (s.setMeter l x).seqs = s.seqs := rfl
@[simp] theorem State.setMeter_decks (x : Meter) : (s.setMeter l x).decks = s.decks := rfl
@[simp] theorem State.setMeter_meters (x : Meter) : (s.setMeter l x).meters = s.meters.set l x := rfl
@[simp] theorem State.setMeter_sessions (x : Meter) : (s.setMeter l x).sessions = s.sessions := rfl
@[simp] theorem State.setMeter_nextId (x : Meter) : (s.setMeter l x).nextId = s.nextId := rfl
@[simp] theorem State.setMeter_ret (x : Meter) : (s.setMeter l x).ret = s.ret := rfl
@[simp] theorem State.setMeter_tariff (x : Meter) : (s.setMeter l x).tariff = s.tariff := rfl
@[simp] theorem State.setMeter_store (x : Meter) : (s.setMeter l x).store = s.store := rfl
@[simp] theorem State.setMeter_spacing (x : Meter) : (s.setMeter l x).spacing = s.spacing := rfl
@[simp] theorem State.setMeter_silent (x : Meter) : (s.setMeter l x).silent = s.silent := rfl
@[simp] theorem State.setMeter_transfer (x : Meter) : (s.setMeter l x).transfer = s.transfer := rfl
@[simp] theorem State.setMeter_link (x : Meter) : (s.setMeter l x).link = s.link := rfl
@[simp] theorem State.setMeter_ctl (x : Meter) : (s.setMeter l x).ctl = s.ctl := rfl
@[simp] theorem State.setMeter_free (x : Meter) : (s.setMeter l x).free = s.free := rfl
@[simp] theorem State.setMeter_seq (x : Meter) : (s.setMeter l x).seq k = s.seq k := rfl
@[simp] theorem State.setMeter_deck (x : Meter) : (s.setMeter l x).deck k = s.deck k := rfl
@[simp] theorem State.setMeter_meter_same (x : Meter) : (s.setMeter l x).meter l = x := Pair.get_set_same _ _ _
@[simp] theorem State.setMeter_meter_other (x : Meter) : (s.setMeter l x).meter (other l) = s.meter (other l) :=
  Pair.get_set_other _ _ _
theorem State.setMeter_meter (x : Meter) : (s.setMeter l x).meter k = if k = l then x else s.meter k := Pair.get_set _ _ _ _
@[simp] theorem State.setMeter_running (x : Meter) : (s.setMeter l x).running = s.running := rfl
@[simp] theorem State.setMeter_windowMs (x : Meter) : (s.setMeter l x).windowMs = s.windowMs := rfl

theorem State.seqs_get : s.seqs.get l = s.seq l := rfl

theorem State.decks_get : s.decks.get l = s.deck l := rfl

theorem State.meters_get : s.meters.get l = s.meter l := rfl

end Sys2Proof.Machine
end

