-- ==== Sys2Proof/Laws/LinkFrames.lean ====
section
/-! SUPPORT. Frames: what the operations of the link controller leave alone: sending a frame, taking a frame, beginning a transmission. One lemma for each operation and each block it never writes. -/

namespace Sys2Proof.Machine

variable (s : State)

@[simp] theorem takeFrame_frame (d : Byte) :
    (takeFrame d s).pending = s.pending ∧ (takeFrame d s).seqs = s.seqs ∧
    (takeFrame d s).decks = s.decks ∧ (takeFrame d s).meters = s.meters ∧
    (takeFrame d s).sessions = s.sessions ∧ (takeFrame d s).nextId = s.nextId ∧
    (takeFrame d s).ret = s.ret ∧ (takeFrame d s).tariff = s.tariff ∧
    (takeFrame d s).store = s.store ∧ (takeFrame d s).spacing = s.spacing ∧
    (takeFrame d s).silent = s.silent ∧ (takeFrame d s).transfer = s.transfer ∧
    (takeFrame d s).ctl = s.ctl ∧ (takeFrame d s).free = s.free := by
  unfold takeFrame; simp

@[simp] theorem send_frame (d : Nat) (k : FrameMark) (p : Payload) :
    (send d k p s).pending = s.pending ∧ (send d k p s).seqs = s.seqs ∧
    (send d k p s).decks = s.decks ∧ (send d k p s).meters = s.meters ∧
    (send d k p s).sessions = s.sessions ∧ (send d k p s).nextId = s.nextId ∧
    (send d k p s).ret = s.ret ∧ (send d k p s).tariff = s.tariff ∧
    (send d k p s).store = s.store ∧ (send d k p s).spacing = s.spacing ∧
    (send d k p s).silent = s.silent ∧ (send d k p s).transfer = s.transfer ∧
    (send d k p s).ctl = s.ctl ∧ (send d k p s).free = s.free := by
  unfold send; (repeat' split) <;> simp

@[simp] theorem notice_frame (n : FaultNotice) :
    (notice n s).pending = s.pending ∧ (notice n s).seqs = s.seqs ∧
    (notice n s).decks = s.decks ∧ (notice n s).meters = s.meters ∧
    (notice n s).sessions = s.sessions ∧ (notice n s).nextId = s.nextId ∧
    (notice n s).ret = s.ret ∧ (notice n s).tariff = s.tariff ∧
    (notice n s).store = s.store ∧ (notice n s).spacing = s.spacing ∧
    (notice n s).silent = s.silent ∧ (notice n s).transfer = s.transfer ∧
    (notice n s).ctl = s.ctl ∧ (notice n s).free = s.free := by
  unfold notice; simp

@[simp] theorem reply_frame (m : Msg) (n : ReqName) (r : Result) (d : ReplyData) :
    (reply m n r d s).pending = s.pending ∧ (reply m n r d s).seqs = s.seqs ∧
    (reply m n r d s).decks = s.decks ∧ (reply m n r d s).meters = s.meters ∧
    (reply m n r d s).sessions = s.sessions ∧ (reply m n r d s).nextId = s.nextId ∧
    (reply m n r d s).ret = s.ret ∧ (reply m n r d s).tariff = s.tariff ∧
    (reply m n r d s).store = s.store ∧ (reply m n r d s).spacing = s.spacing ∧
    (reply m n r d s).silent = s.silent ∧ (reply m n r d s).transfer = s.transfer ∧
    (reply m n r d s).ctl = s.ctl ∧ (reply m n r d s).free = s.free := by
  unfold reply; simp

@[simp] theorem refuse_frame (m : Msg) (n : ReqName) (r : RefuseReason) :
    (refuse m n r s).pending = s.pending ∧ (refuse m n r s).seqs = s.seqs ∧
    (refuse m n r s).decks = s.decks ∧ (refuse m n r s).meters = s.meters ∧
    (refuse m n r s).sessions = s.sessions ∧ (refuse m n r s).nextId = s.nextId ∧
    (refuse m n r s).ret = s.ret ∧ (refuse m n r s).tariff = s.tariff ∧
    (refuse m n r s).store = s.store ∧ (refuse m n r s).spacing = s.spacing ∧
    (refuse m n r s).silent = s.silent ∧ (refuse m n r s).transfer = s.transfer ∧
    (refuse m n r s).ctl = s.ctl ∧ (refuse m n r s).free = s.free := by
  unfold refuse; simp

@[simp] theorem deferredReply_frame (a t : Nat) (n : ReqName) (r : Result) (d : ReplyData) :
    (deferredReply a t n r d s).pending = s.pending ∧ (deferredReply a t n r d s).seqs = s.seqs ∧
    (deferredReply a t n r d s).decks = s.decks ∧ (deferredReply a t n r d s).meters = s.meters ∧
    (deferredReply a t n r d s).sessions = s.sessions ∧ (deferredReply a t n r d s).nextId = s.nextId ∧
    (deferredReply a t n r d s).ret = s.ret ∧ (deferredReply a t n r d s).tariff = s.tariff ∧
    (deferredReply a t n r d s).store = s.store ∧ (deferredReply a t n r d s).spacing = s.spacing ∧
    (deferredReply a t n r d s).silent = s.silent ∧ (deferredReply a t n r d s).transfer = s.transfer ∧
    (deferredReply a t n r d s).ctl = s.ctl ∧ (deferredReply a t n r d s).free = s.free := by
  unfold deferredReply; simp

@[simp] theorem display_frame (d : Display) :
    (display d s).pending = s.pending ∧ (display d s).seqs = s.seqs ∧
    (display d s).decks = s.decks ∧ (display d s).meters = s.meters ∧
    (display d s).sessions = s.sessions ∧ (display d s).nextId = s.nextId ∧
    (display d s).ret = s.ret ∧ (display d s).tariff = s.tariff ∧
    (display d s).store = s.store ∧ (display d s).spacing = s.spacing ∧
    (display d s).silent = s.silent ∧ (display d s).transfer = s.transfer ∧
    (display d s).ctl = s.ctl ∧ (display d s).free = s.free := by
  unfold display; simp

@[simp] theorem sendTransfer_frame (d t : Nat) (m : TransferMsg) :
    (sendTransfer d t m s).pending = s.pending ∧ (sendTransfer d t m s).seqs = s.seqs ∧
    (sendTransfer d t m s).decks = s.decks ∧ (sendTransfer d t m s).meters = s.meters ∧
    (sendTransfer d t m s).sessions = s.sessions ∧ (sendTransfer d t m s).nextId = s.nextId ∧
    (sendTransfer d t m s).ret = s.ret ∧ (sendTransfer d t m s).tariff = s.tariff ∧
    (sendTransfer d t m s).store = s.store ∧ (sendTransfer d t m s).spacing = s.spacing ∧
    (sendTransfer d t m s).silent = s.silent ∧ (sendTransfer d t m s).transfer = s.transfer ∧
    (sendTransfer d t m s).ctl = s.ctl ∧ (sendTransfer d t m s).free = s.free := by
  unfold sendTransfer; simp

@[simp] theorem sendSetupRequest_frame :
    (sendSetupRequest s).pending = s.pending ∧ (sendSetupRequest s).seqs = s.seqs ∧
    (sendSetupRequest s).decks = s.decks ∧ (sendSetupRequest s).meters = s.meters ∧
    (sendSetupRequest s).sessions = s.sessions ∧ (sendSetupRequest s).nextId = s.nextId ∧
    (sendSetupRequest s).ret = s.ret ∧ (sendSetupRequest s).tariff = s.tariff ∧
    (sendSetupRequest s).store = s.store ∧ (sendSetupRequest s).spacing = s.spacing ∧
    (sendSetupRequest s).silent = s.silent ∧ (sendSetupRequest s).transfer = s.transfer ∧
    (sendSetupRequest s).ctl = s.ctl ∧ (sendSetupRequest s).free = s.free := by
  unfold sendSetupRequest; simp

@[simp] theorem beginTx_frame :
    (beginTx s).pending = s.pending ∧ (beginTx s).seqs = s.seqs ∧
    (beginTx s).decks = s.decks ∧ (beginTx s).meters = s.meters ∧
    (beginTx s).sessions = s.sessions ∧ (beginTx s).nextId = s.nextId ∧
    (beginTx s).ret = s.ret ∧ (beginTx s).tariff = s.tariff ∧
    (beginTx s).store = s.store ∧ (beginTx s).silent = s.silent ∧
    (beginTx s).transfer = s.transfer ∧ (beginTx s).ctl = s.ctl ∧
    (beginTx s).free = s.free := by
  unfold beginTx; dsimp only; (repeat' split) <;> simp

end Sys2Proof.Machine
end

