-- ==== Sys2Proof/Laws/SpacingFrames.lean ====
section
/-! SUPPORT. Frames: what the operations of the spacing unit leave alone. One lemma for each operation and each block it never writes. -/

namespace Sys2Proof.Machine

variable (s : State)

@[simp] theorem grant_frame (l : LaneId) :
    (grant l s).pending = s.pending ∧ (grant l s).decks = s.decks ∧
    (grant l s).meters = s.meters ∧ (grant l s).sessions = s.sessions ∧
    (grant l s).nextId = s.nextId ∧ (grant l s).ret = s.ret ∧
    (grant l s).tariff = s.tariff ∧ (grant l s).store = s.store ∧
    (grant l s).spacing = s.spacing ∧ (grant l s).silent = s.silent ∧
    (grant l s).transfer = s.transfer ∧ (grant l s).link = s.link ∧
    (grant l s).ctl = s.ctl ∧ (grant l s).free = s.free := by
  unfold grant; (repeat' split) <;> simp

@[simp] theorem madeStart_frame (n : Notice) :
    (madeStart n s).pending = s.pending ∧ (madeStart n s).decks = s.decks ∧
    (madeStart n s).meters = s.meters ∧ (madeStart n s).sessions = s.sessions ∧
    (madeStart n s).nextId = s.nextId ∧ (madeStart n s).ret = s.ret ∧
    (madeStart n s).tariff = s.tariff ∧ (madeStart n s).store = s.store ∧
    (madeStart n s).silent = s.silent ∧ (madeStart n s).transfer = s.transfer ∧
    (madeStart n s).link = s.link ∧ (madeStart n s).ctl = s.ctl ∧
    (madeStart n s).free = s.free := by
  unfold madeStart; simp

@[simp] theorem localStart_frame (r : StartRequest) :
    (localStart r s).pending = s.pending ∧ (localStart r s).decks = s.decks ∧
    (localStart r s).meters = s.meters ∧ (localStart r s).sessions = s.sessions ∧
    (localStart r s).nextId = s.nextId ∧ (localStart r s).ret = s.ret ∧
    (localStart r s).tariff = s.tariff ∧ (localStart r s).store = s.store ∧
    (localStart r s).silent = s.silent ∧ (localStart r s).transfer = s.transfer ∧
    (localStart r s).link = s.link ∧ (localStart r s).ctl = s.ctl ∧
    (localStart r s).free = s.free := by
  unfold localStart; simp

@[simp] theorem localGrants_frame (k : Nat) :
    (localGrants k s).pending = s.pending ∧ (localGrants k s).decks = s.decks ∧
    (localGrants k s).meters = s.meters ∧ (localGrants k s).sessions = s.sessions ∧
    (localGrants k s).nextId = s.nextId ∧ (localGrants k s).ret = s.ret ∧
    (localGrants k s).tariff = s.tariff ∧ (localGrants k s).store = s.store ∧
    (localGrants k s).silent = s.silent ∧ (localGrants k s).transfer = s.transfer ∧
    (localGrants k s).link = s.link ∧ (localGrants k s).ctl = s.ctl ∧
    (localGrants k s).free = s.free := by
  induction k generalizing s with
  | zero => simp [localGrants]
  | succ k ih => unfold localGrants; (repeat' split) <;> simp [ih]

@[simp] theorem recheck_frame :
    (recheck s).pending = s.pending ∧ (recheck s).decks = s.decks ∧
    (recheck s).meters = s.meters ∧ (recheck s).sessions = s.sessions ∧
    (recheck s).nextId = s.nextId ∧ (recheck s).ret = s.ret ∧
    (recheck s).tariff = s.tariff ∧ (recheck s).store = s.store ∧
    (recheck s).silent = s.silent ∧ (recheck s).transfer = s.transfer ∧
    (recheck s).link = s.link ∧ (recheck s).ctl = s.ctl ∧
    (recheck s).free = s.free := by
  unfold recheck; dsimp only; (repeat' split) <;> simp

@[simp] theorem requestStart_frame (l : LaneId) (n : NextPhase) :
    (requestStart l n s).pending = s.pending ∧ (requestStart l n s).decks = s.decks ∧
    (requestStart l n s).meters = s.meters ∧ (requestStart l n s).sessions = s.sessions ∧
    (requestStart l n s).nextId = s.nextId ∧ (requestStart l n s).ret = s.ret ∧
    (requestStart l n s).tariff = s.tariff ∧ (requestStart l n s).store = s.store ∧
    (requestStart l n s).silent = s.silent ∧ (requestStart l n s).transfer = s.transfer ∧
    (requestStart l n s).link = s.link ∧ (requestStart l n s).ctl = s.ctl ∧
    (requestStart l n s).free = s.free := by
  unfold requestStart; dsimp only; (repeat' split) <;> simp

@[simp] theorem enterSpacing_frame (l : LaneId) (n : NextPhase) :
    (enterSpacing l n s).pending = s.pending ∧ (enterSpacing l n s).decks = s.decks ∧
    (enterSpacing l n s).meters = s.meters ∧ (enterSpacing l n s).sessions = s.sessions ∧
    (enterSpacing l n s).nextId = s.nextId ∧ (enterSpacing l n s).ret = s.ret ∧
    (enterSpacing l n s).tariff = s.tariff ∧ (enterSpacing l n s).store = s.store ∧
    (enterSpacing l n s).silent = s.silent ∧ (enterSpacing l n s).transfer = s.transfer ∧
    (enterSpacing l n s).link = s.link ∧ (enterSpacing l n s).ctl = s.ctl ∧
    (enterSpacing l n s).free = s.free := by
  unfold enterSpacing; simp

@[simp] theorem withdrawStart_frame (l : LaneId) :
    (withdrawStart l s).pending = s.pending ∧ (withdrawStart l s).decks = s.decks ∧
    (withdrawStart l s).meters = s.meters ∧ (withdrawStart l s).sessions = s.sessions ∧
    (withdrawStart l s).nextId = s.nextId ∧ (withdrawStart l s).ret = s.ret ∧
    (withdrawStart l s).tariff = s.tariff ∧ (withdrawStart l s).store = s.store ∧
    (withdrawStart l s).silent = s.silent ∧ (withdrawStart l s).transfer = s.transfer ∧
    (withdrawStart l s).link = s.link ∧ (withdrawStart l s).ctl = s.ctl ∧
    (withdrawStart l s).free = s.free := by
  unfold withdrawStart; dsimp only; (repeat' split) <;> simp

@[simp] theorem leaveSpacing_frame (l : LaneId) :
    (leaveSpacing l s).pending = s.pending ∧ (leaveSpacing l s).decks = s.decks ∧
    (leaveSpacing l s).meters = s.meters ∧ (leaveSpacing l s).sessions = s.sessions ∧
    (leaveSpacing l s).nextId = s.nextId ∧ (leaveSpacing l s).ret = s.ret ∧
    (leaveSpacing l s).tariff = s.tariff ∧ (leaveSpacing l s).store = s.store ∧
    (leaveSpacing l s).silent = s.silent ∧ (leaveSpacing l s).transfer = s.transfer ∧
    (leaveSpacing l s).link = s.link ∧ (leaveSpacing l s).ctl = s.ctl ∧
    (leaveSpacing l s).free = s.free := by
  unfold leaveSpacing; (repeat' split) <;> simp

@[simp] theorem nextNotice_frame :
    (nextNotice s).pending = s.pending ∧ (nextNotice s).decks = s.decks ∧
    (nextNotice s).meters = s.meters ∧ (nextNotice s).sessions = s.sessions ∧
    (nextNotice s).nextId = s.nextId ∧ (nextNotice s).ret = s.ret ∧
    (nextNotice s).tariff = s.tariff ∧ (nextNotice s).store = s.store ∧
    (nextNotice s).silent = s.silent ∧ (nextNotice s).transfer = s.transfer ∧
    (nextNotice s).link = s.link ∧ (nextNotice s).ctl = s.ctl ∧
    (nextNotice s).free = s.free := by
  unfold nextNotice; simp

@[simp] theorem noticeSent_frame :
    (noticeSent s).pending = s.pending ∧ (noticeSent s).decks = s.decks ∧
    (noticeSent s).meters = s.meters ∧ (noticeSent s).sessions = s.sessions ∧
    (noticeSent s).nextId = s.nextId ∧ (noticeSent s).ret = s.ret ∧
    (noticeSent s).tariff = s.tariff ∧ (noticeSent s).store = s.store ∧
    (noticeSent s).silent = s.silent ∧ (noticeSent s).transfer = s.transfer ∧
    (noticeSent s).link = s.link ∧ (noticeSent s).ctl = s.ctl ∧
    (noticeSent s).free = s.free := by
  unfold noticeSent; (repeat' split) <;> simp

@[simp] theorem noticeLost_frame :
    (noticeLost s).pending = s.pending ∧ (noticeLost s).decks = s.decks ∧
    (noticeLost s).meters = s.meters ∧ (noticeLost s).sessions = s.sessions ∧
    (noticeLost s).nextId = s.nextId ∧ (noticeLost s).ret = s.ret ∧
    (noticeLost s).tariff = s.tariff ∧ (noticeLost s).store = s.store ∧
    (noticeLost s).silent = s.silent ∧ (noticeLost s).transfer = s.transfer ∧
    (noticeLost s).link = s.link ∧ (noticeLost s).ctl = s.ctl ∧
    (noticeLost s).free = s.free := by
  unfold noticeLost; dsimp only; (repeat' split) <;> simp

@[simp] theorem markUrgent_frame (l : LaneId) :
    (markUrgent l s).pending = s.pending ∧ (markUrgent l s).seqs = s.seqs ∧
    (markUrgent l s).decks = s.decks ∧ (markUrgent l s).meters = s.meters ∧
    (markUrgent l s).sessions = s.sessions ∧ (markUrgent l s).nextId = s.nextId ∧
    (markUrgent l s).ret = s.ret ∧ (markUrgent l s).tariff = s.tariff ∧
    (markUrgent l s).store = s.store ∧ (markUrgent l s).silent = s.silent ∧
    (markUrgent l s).transfer = s.transfer ∧ (markUrgent l s).link = s.link ∧
    (markUrgent l s).ctl = s.ctl ∧ (markUrgent l s).free = s.free := by
  unfold markUrgent; dsimp only; (repeat' split) <;> simp

end Sys2Proof.Machine
end

