-- ==== Sys2Proof/Laws/MoneyFrames.lean ====
section
/-! SUPPORT. Frames: what the operations of the meters and the record store leave alone. One lemma for each operation and each block it never writes. -/

namespace Sys2Proof.Machine

variable (s : State)

/-- A fold keeps what every step keeps. -/
theorem foldl_keeps {α β γ : Type} (g : α → γ) (f : α → β → α) (h : ∀ a b, g (f a b) = g a) (bs : List β) (a : α) :
    g (bs.foldl f a) = g a := by
  induction bs generalizing a with
  | nil => rfl
  | cons b bs ih => exact (ih _).trans (h a b)

@[simp] theorem writeMeter_frame (l : LaneId) (m : Meter) :
    (writeMeter l m s).pending = s.pending ∧ (writeMeter l m s).seqs = s.seqs ∧
    (writeMeter l m s).decks = s.decks ∧ (writeMeter l m s).sessions = s.sessions ∧
    (writeMeter l m s).nextId = s.nextId ∧ (writeMeter l m s).ret = s.ret ∧
    (writeMeter l m s).tariff = s.tariff ∧ (writeMeter l m s).store = s.store ∧
    (writeMeter l m s).spacing = s.spacing ∧ (writeMeter l m s).silent = s.silent ∧
    (writeMeter l m s).transfer = s.transfer ∧ (writeMeter l m s).ctl = s.ctl ∧
    (writeMeter l m s).free = s.free := by
  unfold writeMeter; dsimp only; (repeat' split) <;> simp

@[simp] theorem meterSecond_frame (n : Nat) (l : LaneId) :
    (meterSecond n l s).pending = s.pending ∧ (meterSecond n l s).seqs = s.seqs ∧
    (meterSecond n l s).decks = s.decks ∧ (meterSecond n l s).sessions = s.sessions ∧
    (meterSecond n l s).nextId = s.nextId ∧ (meterSecond n l s).ret = s.ret ∧
    (meterSecond n l s).tariff = s.tariff ∧ (meterSecond n l s).store = s.store ∧
    (meterSecond n l s).spacing = s.spacing ∧ (meterSecond n l s).silent = s.silent ∧
    (meterSecond n l s).transfer = s.transfer ∧ (meterSecond n l s).ctl = s.ctl ∧
    (meterSecond n l s).free = s.free := by
  unfold meterSecond; dsimp only; (repeat' split) <;> simp

@[simp] theorem meterTick_frame (n : Nat) :
    (meterTick n s).pending = s.pending ∧ (meterTick n s).seqs = s.seqs ∧
    (meterTick n s).decks = s.decks ∧ (meterTick n s).sessions = s.sessions ∧
    (meterTick n s).nextId = s.nextId ∧ (meterTick n s).ret = s.ret ∧
    (meterTick n s).tariff = s.tariff ∧ (meterTick n s).store = s.store ∧
    (meterTick n s).spacing = s.spacing ∧ (meterTick n s).silent = s.silent ∧
    (meterTick n s).transfer = s.transfer ∧ (meterTick n s).ctl = s.ctl ∧
    (meterTick n s).free = s.free := by
  unfold meterTick; simp

@[simp] theorem appendEntry_frame (l : LaneId) (b : JournalBody) :
    (appendEntry l b s).pending = s.pending ∧ (appendEntry l b s).seqs = s.seqs ∧
    (appendEntry l b s).decks = s.decks ∧ (appendEntry l b s).meters = s.meters ∧
    (appendEntry l b s).sessions = s.sessions ∧ (appendEntry l b s).nextId = s.nextId ∧
    (appendEntry l b s).ret = s.ret ∧ (appendEntry l b s).tariff = s.tariff ∧
    (appendEntry l b s).spacing = s.spacing ∧ (appendEntry l b s).silent = s.silent ∧
    (appendEntry l b s).transfer = s.transfer ∧ (appendEntry l b s).link = s.link ∧
    (appendEntry l b s).ctl = s.ctl ∧ (appendEntry l b s).free = s.free := by
  unfold appendEntry; simp

@[simp] theorem closeMeter_frame (l : LaneId) (r : CloseReason) :
    (closeMeter l r s).pending = s.pending ∧ (closeMeter l r s).seqs = s.seqs ∧
    (closeMeter l r s).decks = s.decks ∧ (closeMeter l r s).sessions = s.sessions ∧
    (closeMeter l r s).nextId = s.nextId ∧ (closeMeter l r s).ret = s.ret ∧
    (closeMeter l r s).tariff = s.tariff ∧ (closeMeter l r s).spacing = s.spacing ∧
    (closeMeter l r s).silent = s.silent ∧ (closeMeter l r s).transfer = s.transfer ∧
    (closeMeter l r s).ctl = s.ctl ∧ (closeMeter l r s).free = s.free := by
  unfold closeMeter; simp

@[simp] theorem archiveGame_frame (i : Nat) (b : BallLane) (g : Game) (c : Bool) :
    (archiveGame i b g c s).pending = s.pending ∧ (archiveGame i b g c s).seqs = s.seqs ∧
    (archiveGame i b g c s).decks = s.decks ∧ (archiveGame i b g c s).meters = s.meters ∧
    (archiveGame i b g c s).sessions = s.sessions ∧ (archiveGame i b g c s).nextId = s.nextId ∧
    (archiveGame i b g c s).ret = s.ret ∧ (archiveGame i b g c s).tariff = s.tariff ∧
    (archiveGame i b g c s).spacing = s.spacing ∧ (archiveGame i b g c s).silent = s.silent ∧
    (archiveGame i b g c s).transfer = s.transfer ∧ (archiveGame i b g c s).link = s.link ∧
    (archiveGame i b g c s).ctl = s.ctl ∧ (archiveGame i b g c s).free = s.free := by
  unfold archiveGame; dsimp only; (repeat' split) <;> simp

@[simp] theorem handOver_frame (i : Nat) (b : Bowler) :
    (handOver i b s).pending = s.pending ∧ (handOver i b s).seqs = s.seqs ∧
    (handOver i b s).decks = s.decks ∧ (handOver i b s).meters = s.meters ∧
    (handOver i b s).sessions = s.sessions ∧ (handOver i b s).nextId = s.nextId ∧
    (handOver i b s).ret = s.ret ∧ (handOver i b s).tariff = s.tariff ∧
    (handOver i b s).spacing = s.spacing ∧ (handOver i b s).silent = s.silent ∧
    (handOver i b s).transfer = s.transfer ∧ (handOver i b s).link = s.link ∧
    (handOver i b s).ctl = s.ctl ∧ (handOver i b s).free = s.free := by
  unfold handOver; (repeat' split) <;> simp

@[simp] theorem handOverAll_frame (i : Nat) (bs : List Bowler) :
    (handOverAll i bs s).pending = s.pending ∧ (handOverAll i bs s).seqs = s.seqs ∧
    (handOverAll i bs s).decks = s.decks ∧ (handOverAll i bs s).meters = s.meters ∧
    (handOverAll i bs s).sessions = s.sessions ∧ (handOverAll i bs s).nextId = s.nextId ∧
    (handOverAll i bs s).ret = s.ret ∧ (handOverAll i bs s).tariff = s.tariff ∧
    (handOverAll i bs s).spacing = s.spacing ∧ (handOverAll i bs s).silent = s.silent ∧
    (handOverAll i bs s).transfer = s.transfer ∧ (handOverAll i bs s).link = s.link ∧
    (handOverAll i bs s).ctl = s.ctl ∧ (handOverAll i bs s).free = s.free := by
  refine ⟨?_, ?_, ?_, ?_, ?_, ?_, ?_, ?_, ?_, ?_, ?_, ?_, ?_, ?_⟩ <;>
    exact foldl_keeps _ _ (fun s b => by simp) _ _

@[simp] theorem archiveAll_frame (i : Nat) (bs : List Bowler) :
    (archiveAll i bs s).pending = s.pending ∧ (archiveAll i bs s).seqs = s.seqs ∧
    (archiveAll i bs s).decks = s.decks ∧ (archiveAll i bs s).meters = s.meters ∧
    (archiveAll i bs s).sessions = s.sessions ∧ (archiveAll i bs s).nextId = s.nextId ∧
    (archiveAll i bs s).ret = s.ret ∧ (archiveAll i bs s).tariff = s.tariff ∧
    (archiveAll i bs s).spacing = s.spacing ∧ (archiveAll i bs s).silent = s.silent ∧
    (archiveAll i bs s).transfer = s.transfer ∧ (archiveAll i bs s).link = s.link ∧
    (archiveAll i bs s).ctl = s.ctl ∧ (archiveAll i bs s).free = s.free := by
  refine ⟨?_, ?_, ?_, ?_, ?_, ?_, ?_, ?_, ?_, ?_, ?_, ?_, ?_, ?_⟩ <;>
    exact foldl_keeps _ _ (fun s b => by split <;> simp) _ _

end Sys2Proof.Machine
end

