-- ==== Sys2Proof/Laws/Queue.lean ====
section
/-! SUPPORT. The outbound queue and the beginning of a transmission: what placing, sending and `beginTx` can do. -/

namespace Sys2Proof.Machine

/-! ## Placing a frame (R173) -/

theorem placeFrame_length (f : QueuedFrame) (q : List QueuedFrame) : (placeFrame f q).length = q.length + 1 := by
  induction q with
  | nil => rfl
  | cons g q ih => unfold placeFrame; split <;> simp_all

theorem placeFrame_mem (f g : QueuedFrame) (q : List QueuedFrame) : g ∈ placeFrame f q ↔ g = f ∨ g ∈ q := by
  induction q with
  | nil => simp [placeFrame]
  | cons h q ih => unfold placeFrame; split <;> simp [ih, or_left_comm]

theorem placeFrame_sorted (f : QueuedFrame) (q : List QueuedFrame)
    (h : q.Pairwise fun a b => a.payload.cls ≤ b.payload.cls) :
    (placeFrame f q).Pairwise fun a b => a.payload.cls ≤ b.payload.cls := by
  induction q with
  | nil => simp [placeFrame]
  | cons g q ih =>
    obtain ⟨h1, h2⟩ := List.pairwise_cons.1 h
    unfold placeFrame; split
    · refine List.pairwise_cons.2 ⟨fun x hx => ?_, ih h2⟩
      rcases (placeFrame_mem f x q).1 hx with rfl | hx
      · assumption
      · exact h1 x hx
    · refine List.pairwise_cons.2 ⟨fun x hx => ?_, h⟩
      rcases List.mem_cons.1 hx with rfl | hx
      · omega
      · have := h1 x hx; omega

theorem placed_placeFrame (f : QueuedFrame) (h : f.onLine = false) (q : List QueuedFrame) : placed f q (placeFrame f q) := by
  have hf : f.still = f := by unfold QueuedFrame.still; rw [← h]
  induction q with
  | nil => exact ⟨[], [], rfl, by simp [placeFrame, hf], by simp, by simp⟩
  | cons g q ih =>
    unfold placeFrame; split
    · obtain ⟨a, b, h1, h2, h3, h4⟩ := ih
      refine ⟨g.still :: a, b, by simp [h1], by simp [h2], ?_, h4⟩
      intro x hx
      rcases List.mem_cons.1 hx with rfl | hx
      · assumption
      · exact h3 x hx
    · refine ⟨[], (g :: q).map QueuedFrame.still, rfl, by simp [hf], by simp, ?_⟩
      intro x hx
      simp only [List.map_cons, List.head?_cons, Option.mem_some] at hx
      subst hx
      simp only [QueuedFrame.still]
      omega

theorem dropDisplay_spec {q q' : List QueuedFrame} (h : dropDisplay q = some q') :
    q'.Sublist q ∧ q'.length + 1 = q.length := by
  induction q generalizing q' with
  | nil => simp [dropDisplay] at h
  | cons g q ih =>
    unfold dropDisplay at h; split at h
    · cases h; exact ⟨List.sublist_cons_self _ _, rfl⟩
    · obtain ⟨r, hr, rfl⟩ := Option.map_eq_some_iff.1 h
      obtain ⟨h1, h2⟩ := ih hr
      exact ⟨h1.cons_cons g, by simp [h2]⟩

/-- A queue that a frame joined: sound when it was sound. -/
theorem joinQueue_sound {q q' : List QueuedFrame} {f : QueuedFrame} (h : joinQueue q f = some q') (hq : queueSound q) :
    queueSound q' := by
  unfold joinQueue at h
  split at h
  · rename_i hl
    cases h
    exact ⟨by rw [placeFrame_length]; exact hl, placeFrame_sorted f q hq.2⟩
  · split at h
    · cases h
    · obtain ⟨r, hr, rfl⟩ := Option.map_eq_some_iff.1 h
      obtain ⟨h1, h2⟩ := dropDisplay_spec hr
      exact ⟨by rw [placeFrame_length, h2]; exact hq.1, placeFrame_sorted f r (hq.2.sublist h1)⟩

/-! ## Sending -/

/-- Sending a frame keeps the link controller but for its queue. -/
@[simp] theorem send_link (s : State) (d : Nat) (k : FrameMark) (p : Payload) :
    (send d k p s).link = { s.link with queue := (send d k p s).link.queue } := by
  unfold send; (repeat' split) <;> simp

/-- A sound queue stays sound when a frame is sent. -/
theorem send_sound (s : State) (d : Nat) (k : FrameMark) (p : Payload) (h : queueSound s.link.queue) :
    queueSound (send d k p s).link.queue := by
  unfold send
  split
  · exact h
  · split
    · rename_i q hq; simpa using joinQueue_sound hq h
    · exact h

/-- A frame sent by a station that is not mute, with room in the queue, is placed. -/
theorem send_room {s : State} (d : Nat) (k : FrameMark) (p : Payload) (h : s.sends 1) :
    (send d k p s).link.queue = placeFrame { dest := d, payload := p, mark := k, onLine := false } s.link.queue := by
  obtain ⟨h1, h2⟩ := h
  unfold send joinQueue
  have : s.ctl.pair.isNone = false := by cases h : s.ctl.pair <;> simp_all
  have h3 : s.link.queue.length < Config.queueCap := by unfold State.room at h2; omega
  simp [this, h3]

/-! ## Beginning a transmission (R142, R174) -/

/-- Nothing begins on a line that is not idle. -/
theorem beginTx_busy {s : State} (h : s.link.lineIdle = false) : beginTx s = s := by simp [beginTx, h]

/-- What `beginTx` leaves as it is: every queued frame and the slot's notice, transmissions apart, and the line's side. -/
theorem beginTx_quiet (s : State) : s.quiet (beginTx s) := by
  unfold beginTx
  split
  · split
    · rename_i n hn
      have hn' : s.spacing.slot = some n := by
        unfold State.offered at hn; split at hn
        · exact hn
        · cases hn
      simp [State.quiet, State.sameFrames, State.sameStarts, State.sameLine, hn', Notice.still]
    · split
      · simp [State.quiet, State.sameFrames, State.sameStarts, State.sameLine]
      · rename_i f q hq
        simp [State.quiet, State.sameFrames, State.sameStarts, State.sameLine, hq, QueuedFrame.still]
  · simp [State.quiet, State.sameFrames, State.sameStarts, State.sameLine]

/-- `beginTx` writes the spacing unit and the link controller only. -/
theorem beginTx_eq (s : State) : beginTx s = { s with spacing := (beginTx s).spacing, link := (beginTx s).link } := by
  unfold beginTx; (repeat' split) <;> rfl

/-- An event that writes neither the link controller nor the spacing unit is quiet. -/
theorem quiet_of {s u : State} (h1 : u.link = s.link) (h2 : u.spacing = s.spacing) : s.quiet (beginTx u) := by
  have h := beginTx_quiet u
  simp only [State.quiet, State.sameFrames, State.sameStarts, State.sameLine, h1, h2] at *
  exact h

/-- The classes of the queue, and so its soundness, do not depend on transmissions. -/
theorem queueSound_still {q q' : List QueuedFrame} (h : q.map QueuedFrame.still = q'.map QueuedFrame.still)
    (hq : queueSound q') : queueSound q := by
  have hl : q.length = q'.length := by simpa using congrArg List.length h
  refine ⟨hl ▸ hq.1, ?_⟩
  have e : ∀ l : List QueuedFrame, (l.Pairwise fun f g => f.payload.cls ≤ g.payload.cls) ↔
      (l.map QueuedFrame.still).Pairwise fun f g => f.payload.cls ≤ g.payload.cls := fun l => by
    rw [List.pairwise_map]; rfl
  rw [e, h, ← e]; exact hq.2

theorem beginTx_sound {s : State} (h : queueSound s.link.queue) : queueSound (beginTx s).link.queue :=
  queueSound_still (beginTx_quiet s).1 h

/-! ## Taking an event -/

/-- An event taken while the station runs. -/
theorem live_running {s : State} (h : s.running = true) (e : State → State) : live s e = .next (beginTx (e s)) := by
  simp [live, h]

/-- A command whose meaning takes an event, in a station that runs. -/
theorem live_next {s : State} (h : s.running = true) {o : Host.Outcome State Fault Refusal} {e : State → State}
    (ho : o = live s e) : o = .next (beginTx (e s)) := ho.trans (live_running h e)

/-- A frame leaves the line taken. -/
@[simp] theorem takeFrame_link (s : State) (d : Byte) :
    (takeFrame d s).link =
      { s.link with lineIdle := false, ack := s.ctl.pair.isSome && s.acceptsDest d, response := none } := rfl

/-- A request that reaches its owner with its fields (R176, R177). -/
theorem request_taken {α : Type} {name : ReqName} {parse : List Byte → Option α} {owner : α → State → State} {m : Msg}
    {s : State} {a : α} (h : s.reaches m name) (hp : parse m.args = some a) :
    request name parse owner m s = owner a (takeFrame m.dest s) := by
  obtain ⟨_, h2, h3⟩ := h
  simp [request, h2, h3, hp]

/-- A reply to a request frame of the pair address, with room in the queue (R178). -/
theorem answered_reply {m : Msg} {n0 : ReqName} {s : State} (h : s.reaches m n0) (hr : s.room 1) (n : ReqName) (r : Result)
    (d : ReplyData) : s.answered (reply m n r d (takeFrame m.dest s)) m n r d := by
  obtain ⟨_, h2, _⟩ := h
  have hs : (takeFrame m.dest s).sends 1 := ⟨by simp [h2], by simpa [State.room] using hr⟩
  have ha : (s.ctl.pair.isSome && s.acceptsDest m.dest) = true := by simp [h2, State.acceptsDest, accepts]
  refine ⟨?_, ?_⟩
  · unfold reply; rw [send_room _ _ _ hs]; exact placed_placeFrame _ rfl _
  · unfold State.acked reply
    rw [send_link, takeFrame_link]
    simp only [ha]

end Sys2Proof.Machine
end

