-- ==== Sys2Proof/Laws/SessionsFrames.lean ====
section
/-! SUPPORT. Frames: what the operations of the session table leave alone. One lemma for each operation and each block it never writes. -/

namespace Sys2Proof.Machine

variable (s : State)

@[simp] theorem putSession_frame (x : Session) :
    (putSession x s).pending = s.pending ∧ (putSession x s).seqs = s.seqs ∧
    (putSession x s).decks = s.decks ∧ (putSession x s).meters = s.meters ∧
    (putSession x s).nextId = s.nextId ∧ (putSession x s).ret = s.ret ∧
    (putSession x s).tariff = s.tariff ∧ (putSession x s).store = s.store ∧
    (putSession x s).spacing = s.spacing ∧ (putSession x s).silent = s.silent ∧
    (putSession x s).transfer = s.transfer ∧ (putSession x s).link = s.link ∧
    (putSession x s).ctl = s.ctl ∧ (putSession x s).free = s.free := by
  unfold putSession; simp

@[simp] theorem dropSession_frame (i : Nat) :
    (dropSession i s).pending = s.pending ∧ (dropSession i s).seqs = s.seqs ∧
    (dropSession i s).decks = s.decks ∧ (dropSession i s).meters = s.meters ∧
    (dropSession i s).nextId = s.nextId ∧ (dropSession i s).ret = s.ret ∧
    (dropSession i s).tariff = s.tariff ∧ (dropSession i s).store = s.store ∧
    (dropSession i s).spacing = s.spacing ∧ (dropSession i s).silent = s.silent ∧
    (dropSession i s).transfer = s.transfer ∧ (dropSession i s).link = s.link ∧
    (dropSession i s).ctl = s.ctl ∧ (dropSession i s).free = s.free := by
  unfold dropSession; simp

@[simp] theorem addSession_frame (x : Session) :
    (addSession x s).pending = s.pending ∧ (addSession x s).seqs = s.seqs ∧
    (addSession x s).decks = s.decks ∧ (addSession x s).meters = s.meters ∧
    (addSession x s).ret = s.ret ∧ (addSession x s).tariff = s.tariff ∧
    (addSession x s).store = s.store ∧ (addSession x s).spacing = s.spacing ∧
    (addSession x s).silent = s.silent ∧ (addSession x s).transfer = s.transfer ∧
    (addSession x s).link = s.link ∧ (addSession x s).ctl = s.ctl ∧
    (addSession x s).free = s.free := by
  unfold addSession; simp

@[simp] theorem gameEnd_frame (i : Nat) :
    (gameEnd i s).pending = s.pending ∧ (gameEnd i s).seqs = s.seqs ∧
    (gameEnd i s).decks = s.decks ∧ (gameEnd i s).meters = s.meters ∧
    (gameEnd i s).nextId = s.nextId ∧ (gameEnd i s).ret = s.ret ∧
    (gameEnd i s).tariff = s.tariff ∧ (gameEnd i s).spacing = s.spacing ∧
    (gameEnd i s).silent = s.silent ∧ (gameEnd i s).transfer = s.transfer ∧
    (gameEnd i s).link = s.link ∧ (gameEnd i s).ctl = s.ctl ∧
    (gameEnd i s).free = s.free := by
  unfold gameEnd; dsimp only; (repeat' split) <;> simp

@[simp] theorem selectFresh_frame (i : Nat) :
    (selectFresh i s).1.pending = s.pending ∧ (selectFresh i s).1.seqs = s.seqs ∧
    (selectFresh i s).1.decks = s.decks ∧ (selectFresh i s).1.meters = s.meters ∧
    (selectFresh i s).1.nextId = s.nextId ∧ (selectFresh i s).1.ret = s.ret ∧
    (selectFresh i s).1.tariff = s.tariff ∧ (selectFresh i s).1.store = s.store ∧
    (selectFresh i s).1.spacing = s.spacing ∧ (selectFresh i s).1.silent = s.silent ∧
    (selectFresh i s).1.transfer = s.transfer ∧ (selectFresh i s).1.link = s.link ∧
    (selectFresh i s).1.ctl = s.ctl ∧ (selectFresh i s).1.free = s.free := by
  unfold selectFresh; (repeat' split) <;> simp

@[simp] theorem nextFrame_frame (i f : Nat) :
    (nextFrame i f s).1.pending = s.pending ∧ (nextFrame i f s).1.seqs = s.seqs ∧
    (nextFrame i f s).1.decks = s.decks ∧ (nextFrame i f s).1.meters = s.meters ∧
    (nextFrame i f s).1.nextId = s.nextId ∧ (nextFrame i f s).1.ret = s.ret ∧
    (nextFrame i f s).1.tariff = s.tariff ∧ (nextFrame i f s).1.spacing = s.spacing ∧
    (nextFrame i f s).1.silent = s.silent ∧ (nextFrame i f s).1.transfer = s.transfer ∧
    (nextFrame i f s).1.link = s.link ∧ (nextFrame i f s).1.ctl = s.ctl ∧
    (nextFrame i f s).1.free = s.free := by
  unfold nextFrame; (repeat' split) <;> simp

@[simp] theorem selectBoth_frame (i j : Nat) :
    (selectBoth i j s).1.pending = s.pending ∧ (selectBoth i j s).1.seqs = s.seqs ∧
    (selectBoth i j s).1.decks = s.decks ∧ (selectBoth i j s).1.meters = s.meters ∧
    (selectBoth i j s).1.nextId = s.nextId ∧ (selectBoth i j s).1.ret = s.ret ∧
    (selectBoth i j s).1.tariff = s.tariff ∧ (selectBoth i j s).1.store = s.store ∧
    (selectBoth i j s).1.spacing = s.spacing ∧ (selectBoth i j s).1.silent = s.silent ∧
    (selectBoth i j s).1.transfer = s.transfer ∧ (selectBoth i j s).1.link = s.link ∧
    (selectBoth i j s).1.ctl = s.ctl ∧ (selectBoth i j s).1.free = s.free := by
  unfold selectBoth; simp

@[simp] theorem clearCross_frame (i : Nat) :
    (clearCross i s).pending = s.pending ∧ (clearCross i s).seqs = s.seqs ∧
    (clearCross i s).decks = s.decks ∧ (clearCross i s).meters = s.meters ∧
    (clearCross i s).nextId = s.nextId ∧ (clearCross i s).ret = s.ret ∧
    (clearCross i s).tariff = s.tariff ∧ (clearCross i s).store = s.store ∧
    (clearCross i s).spacing = s.spacing ∧ (clearCross i s).silent = s.silent ∧
    (clearCross i s).transfer = s.transfer ∧ (clearCross i s).link = s.link ∧
    (clearCross i s).ctl = s.ctl ∧ (clearCross i s).free = s.free := by
  unfold clearCross; (repeat' split) <;> simp

@[simp] theorem bothGameEnds_frame (i j : Nat) :
    (bothGameEnds i j s).pending = s.pending ∧ (bothGameEnds i j s).seqs = s.seqs ∧
    (bothGameEnds i j s).decks = s.decks ∧ (bothGameEnds i j s).meters = s.meters ∧
    (bothGameEnds i j s).nextId = s.nextId ∧ (bothGameEnds i j s).ret = s.ret ∧
    (bothGameEnds i j s).tariff = s.tariff ∧ (bothGameEnds i j s).spacing = s.spacing ∧
    (bothGameEnds i j s).silent = s.silent ∧ (bothGameEnds i j s).transfer = s.transfer ∧
    (bothGameEnds i j s).link = s.link ∧ (bothGameEnds i j s).ctl = s.ctl := by
  unfold bothGameEnds; dsimp only; (repeat' split) <;> simp

@[simp] theorem passBarrier_frame (x y : Session) (b : Barrier) :
    (passBarrier x y b s).1.pending = s.pending ∧ (passBarrier x y b s).1.seqs = s.seqs ∧
    (passBarrier x y b s).1.decks = s.decks ∧ (passBarrier x y b s).1.meters = s.meters ∧
    (passBarrier x y b s).1.nextId = s.nextId ∧ (passBarrier x y b s).1.ret = s.ret ∧
    (passBarrier x y b s).1.tariff = s.tariff ∧ (passBarrier x y b s).1.spacing = s.spacing ∧
    (passBarrier x y b s).1.silent = s.silent ∧ (passBarrier x y b s).1.transfer = s.transfer ∧
    (passBarrier x y b s).1.link = s.link ∧ (passBarrier x y b s).1.ctl = s.ctl := by
  unfold passBarrier; (repeat' split) <;> simp

@[simp] theorem barrierTest_frame (i : Nat) :
    (barrierTest i s).1.pending = s.pending ∧ (barrierTest i s).1.seqs = s.seqs ∧
    (barrierTest i s).1.decks = s.decks ∧ (barrierTest i s).1.meters = s.meters ∧
    (barrierTest i s).1.nextId = s.nextId ∧ (barrierTest i s).1.ret = s.ret ∧
    (barrierTest i s).1.tariff = s.tariff ∧ (barrierTest i s).1.spacing = s.spacing ∧
    (barrierTest i s).1.silent = s.silent ∧ (barrierTest i s).1.transfer = s.transfer ∧
    (barrierTest i s).1.link = s.link ∧ (barrierTest i s).1.ctl = s.ctl := by
  unfold barrierTest; (repeat' split) <;> simp

@[simp] theorem selectTurn_frame (i : Nat) :
    (selectTurn i s).1.pending = s.pending ∧ (selectTurn i s).1.seqs = s.seqs ∧
    (selectTurn i s).1.decks = s.decks ∧ (selectTurn i s).1.meters = s.meters ∧
    (selectTurn i s).1.nextId = s.nextId ∧ (selectTurn i s).1.ret = s.ret ∧
    (selectTurn i s).1.tariff = s.tariff ∧ (selectTurn i s).1.spacing = s.spacing ∧
    (selectTurn i s).1.silent = s.silent ∧ (selectTurn i s).1.transfer = s.transfer ∧
    (selectTurn i s).1.link = s.link ∧ (selectTurn i s).1.ctl = s.ctl := by
  unfold selectTurn; dsimp only; (repeat' split) <;> simp

@[simp] theorem uncross_frame (i : Nat) :
    (uncross i s).1.pending = s.pending ∧ (uncross i s).1.seqs = s.seqs ∧
    (uncross i s).1.decks = s.decks ∧ (uncross i s).1.meters = s.meters ∧
    (uncross i s).1.nextId = s.nextId ∧ (uncross i s).1.ret = s.ret ∧
    (uncross i s).1.tariff = s.tariff ∧ (uncross i s).1.spacing = s.spacing ∧
    (uncross i s).1.silent = s.silent ∧ (uncross i s).1.transfer = s.transfer ∧
    (uncross i s).1.link = s.link ∧ (uncross i s).1.ctl = s.ctl := by
  unfold uncross; dsimp only; (repeat' split) <;> simp

@[simp] theorem addReason_frame (r : HoldReason) (l : LaneId) :
    (addReason r l s).pending = s.pending ∧ (addReason r l s).decks = s.decks ∧
    (addReason r l s).meters = s.meters ∧ (addReason r l s).sessions = s.sessions ∧
    (addReason r l s).nextId = s.nextId ∧ (addReason r l s).ret = s.ret ∧
    (addReason r l s).tariff = s.tariff ∧ (addReason r l s).store = s.store ∧
    (addReason r l s).spacing = s.spacing ∧ (addReason r l s).silent = s.silent ∧
    (addReason r l s).transfer = s.transfer ∧ (addReason r l s).link = s.link ∧
    (addReason r l s).ctl = s.ctl ∧ (addReason r l s).free = s.free := by
  unfold addReason; dsimp only; (repeat' split) <;> simp

@[simp] theorem makeCharge_frame (l : LaneId) (x : Session) (i n b p c : Nat) :
    (makeCharge l x i n b p c s).pending = s.pending ∧ (makeCharge l x i n b p c s).seqs = s.seqs ∧
    (makeCharge l x i n b p c s).decks = s.decks ∧ (makeCharge l x i n b p c s).nextId = s.nextId ∧
    (makeCharge l x i n b p c s).ret = s.ret ∧ (makeCharge l x i n b p c s).tariff = s.tariff ∧
    (makeCharge l x i n b p c s).spacing = s.spacing ∧ (makeCharge l x i n b p c s).silent = s.silent ∧
    (makeCharge l x i n b p c s).transfer = s.transfer ∧ (makeCharge l x i n b p c s).ctl = s.ctl ∧
    (makeCharge l x i n b p c s).free = s.free := by
  unfold makeCharge; dsimp only; (repeat' split) <;> simp

@[simp] theorem holdTurn_frame (l : LaneId) (w : AdmissionWait) :
    (holdTurn l w s).pending = s.pending ∧ (holdTurn l w s).decks = s.decks ∧
    (holdTurn l w s).sessions = s.sessions ∧ (holdTurn l w s).nextId = s.nextId ∧
    (holdTurn l w s).ret = s.ret ∧ (holdTurn l w s).tariff = s.tariff ∧
    (holdTurn l w s).store = s.store ∧ (holdTurn l w s).spacing = s.spacing ∧
    (holdTurn l w s).silent = s.silent ∧ (holdTurn l w s).transfer = s.transfer ∧
    (holdTurn l w s).link = s.link ∧ (holdTurn l w s).ctl = s.ctl ∧
    (holdTurn l w s).free = s.free := by
  unfold holdTurn; dsimp only; (repeat' split) <;> simp

@[simp] theorem admission_frame (l : LaneId) (x : Session) (i : Nat) (g : Game) (p : GamePos) :
    (admission l x i g p s).2.pending = s.pending ∧ (admission l x i g p s).2.decks = s.decks ∧
    (admission l x i g p s).2.nextId = s.nextId ∧ (admission l x i g p s).2.ret = s.ret ∧
    (admission l x i g p s).2.tariff = s.tariff ∧ (admission l x i g p s).2.spacing = s.spacing ∧
    (admission l x i g p s).2.silent = s.silent ∧ (admission l x i g p s).2.transfer = s.transfer ∧
    (admission l x i g p s).2.ctl = s.ctl ∧ (admission l x i g p s).2.free = s.free := by
  unfold admission; dsimp only; (repeat' split) <;> simp

@[simp] theorem startTurn_frame (l : LaneId) (i : Nat) :
    (startTurn l i s).pending = s.pending ∧ (startTurn l i s).decks = s.decks ∧
    (startTurn l i s).nextId = s.nextId ∧ (startTurn l i s).ret = s.ret ∧
    (startTurn l i s).tariff = s.tariff ∧ (startTurn l i s).spacing = s.spacing ∧
    (startTurn l i s).silent = s.silent ∧ (startTurn l i s).transfer = s.transfer ∧
    (startTurn l i s).ctl = s.ctl ∧ (startTurn l i s).free = s.free := by
  unfold startTurn; dsimp only; (repeat' split) <;> simp

@[simp] theorem startTurns_frame (r : State × List Nat) :
    (startTurns r).pending = r.1.pending ∧ (startTurns r).decks = r.1.decks ∧
    (startTurns r).nextId = r.1.nextId ∧ (startTurns r).ret = r.1.ret ∧
    (startTurns r).tariff = r.1.tariff ∧ (startTurns r).spacing = r.1.spacing ∧
    (startTurns r).silent = r.1.silent ∧ (startTurns r).transfer = r.1.transfer ∧
    (startTurns r).ctl = r.1.ctl ∧ (startTurns r).free = r.1.free := by
  refine ⟨?_, ?_, ?_, ?_, ?_, ?_, ?_, ?_, ?_, ?_⟩ <;>
    exact (foldl_keeps _ _ (fun s i => by simp) _ _).trans
      (foldl_keeps _ _ (fun s i => by simp) _ _)

@[simp] theorem truncateCurrent_frame (i : Nat) :
    (truncateCurrent i s).pending = s.pending ∧ (truncateCurrent i s).seqs = s.seqs ∧
    (truncateCurrent i s).decks = s.decks ∧ (truncateCurrent i s).meters = s.meters ∧
    (truncateCurrent i s).nextId = s.nextId ∧ (truncateCurrent i s).ret = s.ret ∧
    (truncateCurrent i s).tariff = s.tariff ∧ (truncateCurrent i s).store = s.store ∧
    (truncateCurrent i s).spacing = s.spacing ∧ (truncateCurrent i s).silent = s.silent ∧
    (truncateCurrent i s).transfer = s.transfer ∧ (truncateCurrent i s).link = s.link ∧
    (truncateCurrent i s).ctl = s.ctl ∧ (truncateCurrent i s).free = s.free := by
  unfold truncateCurrent; (repeat' split) <;> simp

@[simp] theorem scoreRead_frame (l : LaneId) (x i : Nat) (m : SpotMap) (e f : Bool) :
    (scoreRead l x i m e f s).1.pending = s.pending ∧ (scoreRead l x i m e f s).1.seqs = s.seqs ∧
    (scoreRead l x i m e f s).1.decks = s.decks ∧ (scoreRead l x i m e f s).1.meters = s.meters ∧
    (scoreRead l x i m e f s).1.nextId = s.nextId ∧ (scoreRead l x i m e f s).1.ret = s.ret ∧
    (scoreRead l x i m e f s).1.tariff = s.tariff ∧ (scoreRead l x i m e f s).1.store = s.store ∧
    (scoreRead l x i m e f s).1.spacing = s.spacing ∧ (scoreRead l x i m e f s).1.silent = s.silent ∧
    (scoreRead l x i m e f s).1.transfer = s.transfer ∧ (scoreRead l x i m e f s).1.ctl = s.ctl ∧
    (scoreRead l x i m e f s).1.free = s.free := by
  unfold scoreRead; dsimp only; (repeat' split) <;> simp

@[simp] theorem startOffer_frame (i : Nat) :
    (startOffer i s).pending = s.pending ∧ (startOffer i s).seqs = s.seqs ∧
    (startOffer i s).decks = s.decks ∧ (startOffer i s).meters = s.meters ∧
    (startOffer i s).nextId = s.nextId ∧ (startOffer i s).ret = s.ret ∧
    (startOffer i s).tariff = s.tariff ∧ (startOffer i s).store = s.store ∧
    (startOffer i s).spacing = s.spacing ∧ (startOffer i s).silent = s.silent ∧
    (startOffer i s).ctl = s.ctl ∧ (startOffer i s).free = s.free := by
  unfold startOffer; dsimp only; (repeat' split) <;> simp

/-- Outside the session's frame lane nothing of the sequencers changes, and there only the foul-pending flag (R9). -/
theorem freshBowler_seq (x : Session) (k : LaneId) :
    (freshBowler x s).seq k =
      { s.seq k with foul := (s.seq k).foul && decide (x.frameLane ≠ some k) } := by
  unfold freshBowler
  cases h : x.frameLane with
  | none => simp
  | some l => cases l <;> cases k <;> simp [State.seq, State.setSeq, Pair.get, Pair.set]

@[simp] theorem freshBowler_frame (x : Session) :
    (freshBowler x s).pending = s.pending ∧ (freshBowler x s).decks = s.decks ∧
    (freshBowler x s).meters = s.meters ∧ (freshBowler x s).sessions = s.sessions ∧
    (freshBowler x s).nextId = s.nextId ∧ (freshBowler x s).ret = s.ret ∧
    (freshBowler x s).tariff = s.tariff ∧ (freshBowler x s).store = s.store ∧
    (freshBowler x s).spacing = s.spacing ∧ (freshBowler x s).silent = s.silent ∧
    (freshBowler x s).transfer = s.transfer ∧ (freshBowler x s).link = s.link ∧
    (freshBowler x s).ctl = s.ctl ∧ (freshBowler x s).free = s.free := by
  unfold freshBowler; split <;> simp

@[simp] theorem resumeOn_frame (l : LaneId) :
    (resumeOn l s).1.1.pending = s.pending ∧
    (resumeOn l s).1.1.decks = s.decks ∧ (resumeOn l s).1.1.meters = s.meters ∧
    (resumeOn l s).1.1.nextId = s.nextId ∧ (resumeOn l s).1.1.ret = s.ret ∧
    (resumeOn l s).1.1.tariff = s.tariff ∧ (resumeOn l s).1.1.spacing = s.spacing ∧
    (resumeOn l s).1.1.silent = s.silent ∧ (resumeOn l s).1.1.transfer = s.transfer ∧
    (resumeOn l s).1.1.link = s.link ∧ (resumeOn l s).1.1.ctl = s.ctl := by
  unfold resumeOn; dsimp only; (repeat' split) <;> simp

@[simp] theorem armedTurn_frame (l : LaneId) (i : Nat) :
    (armedTurn l s i).pending = s.pending ∧ (armedTurn l s i).decks = s.decks ∧
    (armedTurn l s i).nextId = s.nextId ∧ (armedTurn l s i).ret = s.ret ∧
    (armedTurn l s i).tariff = s.tariff ∧ (armedTurn l s i).spacing = s.spacing ∧
    (armedTurn l s i).silent = s.silent ∧ (armedTurn l s i).ctl = s.ctl := by
  unfold armedTurn; (repeat' split) <;> simp

@[simp] theorem armedReport_frame (l : LaneId) :
    (armedReport l s).pending = s.pending ∧ (armedReport l s).decks = s.decks ∧
    (armedReport l s).nextId = s.nextId ∧ (armedReport l s).ret = s.ret ∧
    (armedReport l s).tariff = s.tariff ∧ (armedReport l s).spacing = s.spacing ∧
    (armedReport l s).silent = s.silent ∧ (armedReport l s).ctl = s.ctl := by
  have h (s : State) (is : List Nat) :
      (is.foldl (armedTurn l) s).pending = s.pending ∧
      (is.foldl (armedTurn l) s).decks = s.decks ∧
      (is.foldl (armedTurn l) s).nextId = s.nextId ∧
      (is.foldl (armedTurn l) s).ret = s.ret ∧
      (is.foldl (armedTurn l) s).tariff = s.tariff ∧
      (is.foldl (armedTurn l) s).spacing = s.spacing ∧
      (is.foldl (armedTurn l) s).silent = s.silent ∧
      (is.foldl (armedTurn l) s).ctl = s.ctl := by
    refine ⟨?_, ?_, ?_, ?_, ?_, ?_, ?_, ?_⟩ <;> exact foldl_keeps _ _ (fun s i => by simp) _ _
  unfold armedReport; dsimp only; split <;> simp [h]

end Sys2Proof.Machine
end

