-- ==== Sys2Proof/Laws/SequencingFrames.lean ====
section
/-! SUPPORT. Frames: what the shared operations of the lane sequencer leave alone. One lemma for each operation and each block it never writes. -/

namespace Sys2Proof.Machine

variable (s : State)

@[simp] theorem setHolds_frame (l : LaneId) (h : HoldSet) :
    (setHolds l h s).pending = s.pending ∧ (setHolds l h s).decks = s.decks ∧
    (setHolds l h s).meters = s.meters ∧ (setHolds l h s).sessions = s.sessions ∧
    (setHolds l h s).nextId = s.nextId ∧ (setHolds l h s).ret = s.ret ∧
    (setHolds l h s).tariff = s.tariff ∧ (setHolds l h s).store = s.store ∧
    (setHolds l h s).spacing = s.spacing ∧ (setHolds l h s).silent = s.silent ∧
    (setHolds l h s).transfer = s.transfer ∧ (setHolds l h s).link = s.link ∧
    (setHolds l h s).ctl = s.ctl ∧ (setHolds l h s).free = s.free := by
  unfold setHolds; simp

@[simp] theorem enterArmed_frame (l : LaneId) :
    (enterArmed l s).pending = s.pending ∧ (enterArmed l s).decks = s.decks ∧
    (enterArmed l s).nextId = s.nextId ∧ (enterArmed l s).ret = s.ret ∧
    (enterArmed l s).tariff = s.tariff ∧ (enterArmed l s).spacing = s.spacing ∧
    (enterArmed l s).silent = s.silent ∧ (enterArmed l s).ctl = s.ctl := by
  unfold enterArmed; simp

@[simp] theorem testHeld_frame (l : LaneId) :
    (testHeld l s).pending = s.pending ∧ (testHeld l s).decks = s.decks ∧
    (testHeld l s).nextId = s.nextId ∧ (testHeld l s).ret = s.ret ∧
    (testHeld l s).tariff = s.tariff ∧ (testHeld l s).silent = s.silent ∧
    (testHeld l s).ctl = s.ctl := by
  unfold testHeld; (repeat' split) <;> simp

@[simp] theorem dropReasons_frame (l : LaneId) (f : HoldSet → HoldSet) :
    (dropReasons l f s).pending = s.pending ∧ (dropReasons l f s).decks = s.decks ∧
    (dropReasons l f s).nextId = s.nextId ∧ (dropReasons l f s).ret = s.ret ∧
    (dropReasons l f s).tariff = s.tariff ∧ (dropReasons l f s).silent = s.silent ∧
    (dropReasons l f s).ctl = s.ctl := by
  unfold dropReasons; simp

@[simp] theorem rackTest_frame (l : LaneId) (e : Bool) :
    (rackTest l e s).pending = s.pending ∧ (rackTest l e s).decks = s.decks ∧
    (rackTest l e s).nextId = s.nextId ∧ (rackTest l e s).ret = s.ret ∧
    (rackTest l e s).tariff = s.tariff ∧ (rackTest l e s).spacing = s.spacing ∧
    (rackTest l e s).silent = s.silent ∧ (rackTest l e s).ctl = s.ctl := by
  unfold rackTest; (repeat' split) <;> simp

@[simp] theorem answerPending_frame (l : LaneId) (r : Result) (d : ReplyData) :
    (answerPending l r d s).pending = s.pending ∧ (answerPending l r d s).decks = s.decks ∧
    (answerPending l r d s).meters = s.meters ∧ (answerPending l r d s).sessions = s.sessions ∧
    (answerPending l r d s).nextId = s.nextId ∧ (answerPending l r d s).ret = s.ret ∧
    (answerPending l r d s).tariff = s.tariff ∧ (answerPending l r d s).store = s.store ∧
    (answerPending l r d s).spacing = s.spacing ∧ (answerPending l r d s).silent = s.silent ∧
    (answerPending l r d s).transfer = s.transfer ∧ (answerPending l r d s).ctl = s.ctl ∧
    (answerPending l r d s).free = s.free := by
  unfold answerPending; (repeat' split) <;> simp

@[simp] theorem setPendingReq_frame (l : LaneId) (m : Msg) (q : DeferredReq) :
    (setPendingReq l m q s).pending = s.pending ∧ (setPendingReq l m q s).decks = s.decks ∧
    (setPendingReq l m q s).meters = s.meters ∧ (setPendingReq l m q s).sessions = s.sessions ∧
    (setPendingReq l m q s).nextId = s.nextId ∧ (setPendingReq l m q s).ret = s.ret ∧
    (setPendingReq l m q s).tariff = s.tariff ∧ (setPendingReq l m q s).store = s.store ∧
    (setPendingReq l m q s).spacing = s.spacing ∧ (setPendingReq l m q s).silent = s.silent ∧
    (setPendingReq l m q s).transfer = s.transfer ∧ (setPendingReq l m q s).link = s.link ∧
    (setPendingReq l m q s).ctl = s.ctl ∧ (setPendingReq l m q s).free = s.free := by
  unfold setPendingReq; simp

@[simp] theorem enterStandby_frame (l : LaneId) :
    (enterStandby l s).pending = s.pending ∧ (enterStandby l s).meters = s.meters ∧
    (enterStandby l s).sessions = s.sessions ∧ (enterStandby l s).nextId = s.nextId ∧
    (enterStandby l s).ret = s.ret ∧ (enterStandby l s).tariff = s.tariff ∧
    (enterStandby l s).store = s.store ∧ (enterStandby l s).spacing = s.spacing ∧
    (enterStandby l s).silent = s.silent ∧ (enterStandby l s).transfer = s.transfer ∧
    (enterStandby l s).ctl = s.ctl ∧ (enterStandby l s).free = s.free := by
  unfold enterStandby; dsimp only; (repeat' split) <;> simp

@[simp] theorem abortCalibration_frame (l : LaneId) (r : CalResult) :
    (abortCalibration l r s).pending = s.pending ∧ (abortCalibration l r s).meters = s.meters ∧
    (abortCalibration l r s).sessions = s.sessions ∧ (abortCalibration l r s).nextId = s.nextId ∧
    (abortCalibration l r s).ret = s.ret ∧ (abortCalibration l r s).tariff = s.tariff ∧
    (abortCalibration l r s).store = s.store ∧ (abortCalibration l r s).spacing = s.spacing ∧
    (abortCalibration l r s).silent = s.silent ∧ (abortCalibration l r s).transfer = s.transfer ∧
    (abortCalibration l r s).ctl = s.ctl ∧ (abortCalibration l r s).free = s.free := by
  unfold abortCalibration; dsimp only; (repeat' split) <;> simp

@[simp] theorem beginCycle_frame (l : LaneId) (c : Cycle) :
    (beginCycle l c s).pending = s.pending ∧ (beginCycle l c s).decks = s.decks ∧
    (beginCycle l c s).meters = s.meters ∧ (beginCycle l c s).sessions = s.sessions ∧
    (beginCycle l c s).nextId = s.nextId ∧ (beginCycle l c s).ret = s.ret ∧
    (beginCycle l c s).tariff = s.tariff ∧ (beginCycle l c s).store = s.store ∧
    (beginCycle l c s).silent = s.silent ∧ (beginCycle l c s).transfer = s.transfer ∧
    (beginCycle l c s).link = s.link ∧ (beginCycle l c s).ctl = s.ctl ∧
    (beginCycle l c s).free = s.free := by
  unfold beginCycle; simp

@[simp] theorem overrun_frame (l : LaneId) (p : Phase) :
    (overrun l p s).pending = s.pending ∧ (overrun l p s).meters = s.meters ∧
    (overrun l p s).sessions = s.sessions ∧ (overrun l p s).nextId = s.nextId ∧
    (overrun l p s).ret = s.ret ∧ (overrun l p s).tariff = s.tariff ∧
    (overrun l p s).store = s.store ∧ (overrun l p s).spacing = s.spacing ∧
    (overrun l p s).silent = s.silent ∧ (overrun l p s).transfer = s.transfer ∧
    (overrun l p s).ctl = s.ctl ∧ (overrun l p s).free = s.free := by
  unfold overrun; dsimp only; (repeat' split) <;> simp

@[simp] theorem meterTold_frame (l : LaneId) :
    (meterTold l s).pending = s.pending ∧ (meterTold l s).decks = s.decks ∧
    (meterTold l s).nextId = s.nextId ∧ (meterTold l s).ret = s.ret ∧
    (meterTold l s).tariff = s.tariff ∧ (meterTold l s).silent = s.silent ∧
    (meterTold l s).ctl = s.ctl := by
  unfold meterTold; simp

@[simp] theorem withdrawTurn_frame (x : Session) :
    (withdrawTurn x s).pending = s.pending ∧ (withdrawTurn x s).decks = s.decks ∧
    (withdrawTurn x s).nextId = s.nextId ∧ (withdrawTurn x s).ret = s.ret ∧
    (withdrawTurn x s).tariff = s.tariff ∧ (withdrawTurn x s).silent = s.silent ∧
    (withdrawTurn x s).ctl = s.ctl := by
  unfold withdrawTurn; (repeat' split) <;> simp

@[simp] theorem takeOut_frame (x : Session) :
    (takeOut x s).pending = s.pending ∧ (takeOut x s).seqs = s.seqs ∧
    (takeOut x s).decks = s.decks ∧ (takeOut x s).meters = s.meters ∧
    (takeOut x s).nextId = s.nextId ∧ (takeOut x s).ret = s.ret ∧
    (takeOut x s).tariff = s.tariff ∧ (takeOut x s).spacing = s.spacing ∧
    (takeOut x s).silent = s.silent ∧ (takeOut x s).transfer = s.transfer ∧
    (takeOut x s).link = s.link ∧ (takeOut x s).ctl = s.ctl ∧
    (takeOut x s).free = s.free := by
  unfold takeOut; simp

@[simp] theorem removeSession_frame (i : Nat) :
    (removeSession i s).pending = s.pending ∧ (removeSession i s).decks = s.decks ∧
    (removeSession i s).nextId = s.nextId ∧ (removeSession i s).ret = s.ret ∧
    (removeSession i s).tariff = s.tariff ∧ (removeSession i s).silent = s.silent ∧
    (removeSession i s).ctl = s.ctl := by
  unfold removeSession; dsimp only; (repeat' split) <;> simp

@[simp] theorem removeUsers_frame (l : LaneId) :
    (removeUsers l s).pending = s.pending ∧ (removeUsers l s).decks = s.decks ∧
    (removeUsers l s).nextId = s.nextId ∧ (removeUsers l s).ret = s.ret ∧
    (removeUsers l s).tariff = s.tariff ∧ (removeUsers l s).silent = s.silent ∧
    (removeUsers l s).ctl = s.ctl := by
  unfold removeUsers; dsimp only; (repeat' split) <;> simp

@[simp] theorem passRetry_frame (l : LaneId) (r : WaitReason) :
    (passRetry l r s).pending = s.pending ∧ (passRetry l r s).decks = s.decks ∧
    (passRetry l r s).nextId = s.nextId ∧ (passRetry l r s).ret = s.ret ∧
    (passRetry l r s).tariff = s.tariff ∧ (passRetry l r s).silent = s.silent ∧
    (passRetry l r s).ctl = s.ctl := by
  unfold passRetry; simp

end Sys2Proof.Machine
end

