-- ==== Sys2Proof/Laws/ReturnFrames.lean ====
section
/-! SUPPORT. Frames: what the operations of the return controller leave alone. One lemma for each operation and each block it never writes. -/

namespace Sys2Proof.Machine

variable (s : State)

@[simp] theorem enterJammed_frame (j : JamReason) :
    (enterJammed j s).pending = s.pending ∧ (enterJammed j s).decks = s.decks ∧
    (enterJammed j s).meters = s.meters ∧ (enterJammed j s).sessions = s.sessions ∧
    (enterJammed j s).nextId = s.nextId ∧ (enterJammed j s).tariff = s.tariff ∧
    (enterJammed j s).store = s.store ∧ (enterJammed j s).spacing = s.spacing ∧
    (enterJammed j s).silent = s.silent ∧ (enterJammed j s).transfer = s.transfer ∧
    (enterJammed j s).ctl = s.ctl ∧ (enterJammed j s).free = s.free := by
  unfold enterJammed; simp

@[simp] theorem purgeFails_frame (j : JamReason) :
    (purgeFails j s).pending = s.pending ∧ (purgeFails j s).decks = s.decks ∧
    (purgeFails j s).meters = s.meters ∧ (purgeFails j s).sessions = s.sessions ∧
    (purgeFails j s).nextId = s.nextId ∧ (purgeFails j s).tariff = s.tariff ∧
    (purgeFails j s).store = s.store ∧ (purgeFails j s).spacing = s.spacing ∧
    (purgeFails j s).silent = s.silent ∧ (purgeFails j s).transfer = s.transfer ∧
    (purgeFails j s).ctl = s.ctl ∧ (purgeFails j s).free = s.free := by
  unfold purgeFails; dsimp only; (repeat' split) <;> simp

@[simp] theorem ballIntoReturn_frame (l : LaneId) :
    (ballIntoReturn l s).pending = s.pending ∧ (ballIntoReturn l s).decks = s.decks ∧
    (ballIntoReturn l s).meters = s.meters ∧ (ballIntoReturn l s).sessions = s.sessions ∧
    (ballIntoReturn l s).nextId = s.nextId ∧ (ballIntoReturn l s).tariff = s.tariff ∧
    (ballIntoReturn l s).store = s.store ∧ (ballIntoReturn l s).spacing = s.spacing ∧
    (ballIntoReturn l s).silent = s.silent ∧ (ballIntoReturn l s).transfer = s.transfer ∧
    (ballIntoReturn l s).ctl = s.ctl ∧ (ballIntoReturn l s).free = s.free := by
  unfold ballIntoReturn; dsimp only; (repeat' split) <;> simp

@[simp] theorem liftSample_frame (v : Nat) :
    (liftSample v s).pending = s.pending ∧ (liftSample v s).decks = s.decks ∧
    (liftSample v s).meters = s.meters ∧ (liftSample v s).sessions = s.sessions ∧
    (liftSample v s).nextId = s.nextId ∧ (liftSample v s).tariff = s.tariff ∧
    (liftSample v s).store = s.store ∧ (liftSample v s).spacing = s.spacing ∧
    (liftSample v s).silent = s.silent ∧ (liftSample v s).transfer = s.transfer ∧
    (liftSample v s).ctl = s.ctl ∧ (liftSample v s).free = s.free := by
  unfold liftSample; dsimp only; (repeat' split) <;> simp

@[simp] theorem purgeEnds_frame :
    (purgeEnds s).pending = s.pending ∧ (purgeEnds s).seqs = s.seqs ∧
    (purgeEnds s).decks = s.decks ∧ (purgeEnds s).meters = s.meters ∧
    (purgeEnds s).sessions = s.sessions ∧ (purgeEnds s).nextId = s.nextId ∧
    (purgeEnds s).tariff = s.tariff ∧ (purgeEnds s).store = s.store ∧
    (purgeEnds s).spacing = s.spacing ∧ (purgeEnds s).silent = s.silent ∧
    (purgeEnds s).transfer = s.transfer ∧ (purgeEnds s).ctl = s.ctl ∧
    (purgeEnds s).free = s.free := by
  unfold purgeEnds; dsimp only; (repeat' split) <;> simp

end Sys2Proof.Machine
end

