-- ==== Sys2Proof/Laws/TransferFrames.lean ====
section
/-! SUPPORT. Frames: what the operations of the transfer unit and setup adoption leave alone. One lemma for each operation and each block it never writes. -/

namespace Sys2Proof.Machine

variable (s : State)

@[simp] theorem sendPart_frame (t p : Nat) (l : LaneId) (i : Nat) (r : Nat × Nat) (q : Part) :
    (sendPart t p l i r q s).pending = s.pending ∧ (sendPart t p l i r q s).seqs = s.seqs ∧
    (sendPart t p l i r q s).decks = s.decks ∧ (sendPart t p l i r q s).meters = s.meters ∧
    (sendPart t p l i r q s).sessions = s.sessions ∧ (sendPart t p l i r q s).nextId = s.nextId ∧
    (sendPart t p l i r q s).ret = s.ret ∧ (sendPart t p l i r q s).tariff = s.tariff ∧
    (sendPart t p l i r q s).store = s.store ∧ (sendPart t p l i r q s).spacing = s.spacing ∧
    (sendPart t p l i r q s).silent = s.silent ∧ (sendPart t p l i r q s).ctl = s.ctl ∧
    (sendPart t p l i r q s).free = s.free := by
  unfold sendPart; dsimp only; (repeat' split) <;> simp

@[simp] theorem sendCommit_frame (t p : Nat) (l : LaneId) (i : Nat) (r : Nat × Nat) :
    (sendCommit t p l i r s).pending = s.pending ∧ (sendCommit t p l i r s).seqs = s.seqs ∧
    (sendCommit t p l i r s).decks = s.decks ∧ (sendCommit t p l i r s).meters = s.meters ∧
    (sendCommit t p l i r s).nextId = s.nextId ∧ (sendCommit t p l i r s).ret = s.ret ∧
    (sendCommit t p l i r s).tariff = s.tariff ∧ (sendCommit t p l i r s).store = s.store ∧
    (sendCommit t p l i r s).spacing = s.spacing ∧ (sendCommit t p l i r s).silent = s.silent ∧
    (sendCommit t p l i r s).ctl = s.ctl ∧ (sendCommit t p l i r s).free = s.free := by
  unfold sendCommit; dsimp only; (repeat' split) <;> simp

@[simp] theorem partAcked_frame (t : Nat) (m : TransferMsg) :
    (partAcked t m s).pending = s.pending ∧ (partAcked t m s).seqs = s.seqs ∧
    (partAcked t m s).decks = s.decks ∧ (partAcked t m s).meters = s.meters ∧
    (partAcked t m s).nextId = s.nextId ∧ (partAcked t m s).ret = s.ret ∧
    (partAcked t m s).tariff = s.tariff ∧ (partAcked t m s).store = s.store ∧
    (partAcked t m s).spacing = s.spacing ∧ (partAcked t m s).silent = s.silent ∧
    (partAcked t m s).ctl = s.ctl ∧ (partAcked t m s).free = s.free := by
  unfold partAcked; (repeat' split) <;> simp

@[simp] theorem transferIdle_frame :
    (transferIdle s).pending = s.pending ∧ (transferIdle s).seqs = s.seqs ∧
    (transferIdle s).decks = s.decks ∧ (transferIdle s).meters = s.meters ∧
    (transferIdle s).sessions = s.sessions ∧ (transferIdle s).nextId = s.nextId ∧
    (transferIdle s).ret = s.ret ∧ (transferIdle s).tariff = s.tariff ∧
    (transferIdle s).store = s.store ∧ (transferIdle s).spacing = s.spacing ∧
    (transferIdle s).silent = s.silent ∧ (transferIdle s).link = s.link ∧
    (transferIdle s).ctl = s.ctl ∧ (transferIdle s).free = s.free := by
  unfold transferIdle; simp

@[simp] theorem backToPlaying_frame (i : Nat) :
    (backToPlaying i s).pending = s.pending ∧ (backToPlaying i s).decks = s.decks ∧
    (backToPlaying i s).nextId = s.nextId ∧ (backToPlaying i s).ret = s.ret ∧
    (backToPlaying i s).tariff = s.tariff ∧ (backToPlaying i s).spacing = s.spacing ∧
    (backToPlaying i s).silent = s.silent ∧ (backToPlaying i s).transfer = s.transfer ∧
    (backToPlaying i s).ctl = s.ctl := by
  unfold backToPlaying; (repeat' split) <;> simp

@[simp] theorem moveFails_frame (i : Nat) (r : Nat × Nat) (st : MoveStep) (w : Option AnswerReason) :
    (moveFails i r st w s).pending = s.pending ∧ (moveFails i r st w s).decks = s.decks ∧
    (moveFails i r st w s).nextId = s.nextId ∧ (moveFails i r st w s).ret = s.ret ∧
    (moveFails i r st w s).tariff = s.tariff ∧ (moveFails i r st w s).spacing = s.spacing ∧
    (moveFails i r st w s).silent = s.silent ∧ (moveFails i r st w s).ctl = s.ctl := by
  unfold moveFails; simp

@[simp] theorem park_frame (i : Nat) :
    (park i s).pending = s.pending ∧ (park i s).seqs = s.seqs ∧
    (park i s).decks = s.decks ∧ (park i s).meters = s.meters ∧
    (park i s).nextId = s.nextId ∧ (park i s).ret = s.ret ∧
    (park i s).tariff = s.tariff ∧ (park i s).store = s.store ∧
    (park i s).spacing = s.spacing ∧ (park i s).silent = s.silent ∧
    (park i s).transfer = s.transfer ∧ (park i s).ctl = s.ctl ∧
    (park i s).free = s.free := by
  unfold park; (repeat' split) <;> simp

@[simp] theorem moveDone_frame (i p : Nat) (r : Nat × Nat) :
    (moveDone i p r s).pending = s.pending ∧ (moveDone i p r s).seqs = s.seqs ∧
    (moveDone i p r s).decks = s.decks ∧ (moveDone i p r s).meters = s.meters ∧
    (moveDone i p r s).nextId = s.nextId ∧ (moveDone i p r s).ret = s.ret ∧
    (moveDone i p r s).tariff = s.tariff ∧ (moveDone i p r s).store = s.store ∧
    (moveDone i p r s).spacing = s.spacing ∧ (moveDone i p r s).silent = s.silent ∧
    (moveDone i p r s).ctl = s.ctl := by
  unfold moveDone; simp

@[simp] theorem startTransfer_frame (i : Nat) :
    (startTransfer i s).pending = s.pending ∧ (startTransfer i s).decks = s.decks ∧
    (startTransfer i s).nextId = s.nextId ∧ (startTransfer i s).ret = s.ret ∧
    (startTransfer i s).tariff = s.tariff ∧ (startTransfer i s).silent = s.silent ∧
    (startTransfer i s).ctl = s.ctl := by
  unfold startTransfer; dsimp only; (repeat' split) <;> simp

@[simp] theorem install_frame (t p : Nat) (o : OfferFields) (ps : List (IdentFields × BallsFields)) :
    (install t p o ps s).pending = s.pending ∧ (install t p o ps s).decks = s.decks ∧
    (install t p o ps s).ret = s.ret ∧ (install t p o ps s).tariff = s.tariff ∧
    (install t p o ps s).spacing = s.spacing ∧ (install t p o ps s).silent = s.silent ∧
    (install t p o ps s).ctl = s.ctl := by
  unfold install; dsimp only; (repeat' split) <;> simp

@[simp] theorem adopt_frame (u : Setup) (c : SetupSource) :
    (adopt u c s).pending = s.pending ∧ (adopt u c s).seqs = s.seqs ∧
    (adopt u c s).decks = s.decks ∧ (adopt u c s).meters = s.meters ∧
    (adopt u c s).sessions = s.sessions ∧ (adopt u c s).nextId = s.nextId ∧
    (adopt u c s).ret = s.ret ∧ (adopt u c s).tariff = s.tariff ∧
    (adopt u c s).spacing = s.spacing ∧ (adopt u c s).silent = s.silent ∧
    (adopt u c s).transfer = s.transfer ∧ (adopt u c s).link = s.link ∧
    (adopt u c s).free = s.free := by
  unfold adopt; simp

end Sys2Proof.Machine
end

