-- ==== Sys2Proof/Tests/Slice0.lean ====
section
/-! SUPPORT. Tests. The first part checks the model against what the manual works out itself, and the checks of WellFormed
against terms they refuse; the second shows, for each statement with hypotheses, a station and a command that meet them. -/

namespace Sys2Proof.Tests

open Sys2Proof Sys2Proof.Machine

set_option Elab.async false

/-! ## Stations -/

/-- A request of desk 240 to the pair address 1, tag 9. -/
def desk (args : List Byte) : Msg := { sender := 240#8, dest := 1#8, tag := 9#8, args := args }

/-- A transfer frame of pair controller 2 to the pair address 1, tag 7. -/
def peer (args : List Byte) : Msg := { sender := 2#8, dest := 1#8, tag := 7#8, args := args }

/-- R108's table: D 600, limits 420, 480, 840 and 960. -/
def bands : List Band := [⟨420, 450, 1200⟩, ⟨480, 500, 1500⟩, ⟨840, 650, 2400⟩, ⟨960, 550, 1800⟩]

/-- A configured station with an empty queue, a tariff, a clock that shows 17:59:59 and the quiet period over. -/
def ready : State :=
  { State.reset with
    link := { State.reset.link with queue := [] }
    spacing := { State.reset.spacing with quiet := none }
    tariff := { live := { dayStart := some 600, bands := bands }, staged := bands.map some ++ List.replicate 4 none }
    ctl := { State.reset.ctl with source := some .desk, setupWait := none, clock := some ⟨1, 64799⟩ } }

/-- A sequencer in a state. -/
def seqIn (q : SeqState) : Sequencer := { Sequencer.powerOn with state := q }

/-- A ball cycle. -/
def ballCycle (b : Option (Nat × Nat)) : Cycle :=
  { kind := .full, read := true, origin := .ball, restart := 0, frameEnd := false, ball := some ⟨b, false⟩ }

/-- An open meter. -/
def openMeter (k : BillMode) (prepaid : Bool) (balance : Int) : Meter :=
  { Meter.lost with isOpen := true, mode := k, prepaid := prepaid, balance := balance }

/-- A bowler with a new game. -/
def bowler (absent : Bool) : Bowler :=
  { name := [65#8], handicap := 10, absent := absent, completed := 0, game := some (Game.fresh [65#8] 10 1), first := .A }

/-- A session of lane A in frame 1 with a turn, discount 15. -/
def playing (t : Turn) : Session :=
  { id := 1, home := .A, cross := false, state := .playing, size := 1, bowlers := [bowler false]
    pos := some ⟨1, 1, .A⟩, turn := t, current := some 1, limit := 0, discount := 15 }

/-- The station with lane A, its meter and its sessions as given. -/
def onA (q : Sequencer) (m : Meter) (xs : List Session) : State :=
  { ready with seqs := ⟨q, Sequencer.powerOn⟩, meters := ⟨m, Meter.lost⟩, sessions := xs }

/-- The station after a command. -/
def after (c : Instr) (s : State) : State :=
  match exec c s with
  | .next t => t
  | _ => s

/-- The replies that wait, with their data. -/
def replies (s : State) : List (ReqName × Result × ReplyData) :=
  s.link.queue.filterMap fun f => match f.payload with
    | .reply r => some (r.req, r.result, r.data)
    | _ => none

/-- A standing map from the spots' numbers, counted from 1. -/
def leave (spots : List Nat) : SpotMap := spotsWhere fun i => spots.contains (i + 1)

/-- The levels of a read that finds the spots standing. -/
def read (spots : List Nat) : List Nat := (List.range 10).map fun i => if spots.contains (i + 1) then 40 else 2

/-! ## WellFormed refuses what cannot be sent -/

theorem test_wf_levels : (Instr.readDone .A [1, 2, 3]).wf = false := by decide
theorem test_wf_level_range : (Instr.readDone .A (List.replicate 10 64)).wf = false := by decide
theorem test_wf_window_index : (Instr.windowEntryExpiry 16).wf = false := by decide
theorem test_wf_request_length : (Instr.hold (desk (List.replicate 31 0#8))).wf = false := by decide
theorem test_wf_payload_length : (Instr.time ⟨240#8, 1#8, List.replicate 33 0#8⟩).wf = false := by decide
theorem test_wf_frame_length : (Instr.receiveFrame ⟨1#4, 240#8, 1#8, 2#8, [0#8], 0#16⟩).wf = false := by decide
theorem test_wf_setup_request : (Instr.setupRequest ⟨2#8, 255#8, [0#8]⟩).wf = false := by decide
theorem test_wf_setup_answer : (Instr.setupAnswer ⟨2#8, 255#8, []⟩).wf = false := by decide
theorem test_wf_requester : (Instr.setupAnswerDelayExpiry 61#8).wf = false := by decide
theorem test_wf_known_code : (Instr.unknownRequest .billing 7#8 (desk [])).wf = false := by decide

/-! ## The manual's own examples -/

/-- R48's leaves: {7, 10}, {2, 7} and {4, 7, 10} are splits, {3, 6, 9, 10} and {4, 5} are not. -/
theorem test_split_leaves :
    ([[7, 10], [2, 7], [4, 7, 10], [3, 6, 9, 10], [4, 5]].map fun l => isSplit fullRack (leave l) false) =
      [true, true, true, false, false] := by decide +kernel

/-- R45's anomaly: at the rack {7, 10} a read that gives {4, 7} has pinfall 1 and is marked estimated. -/
theorem test_anomaly :
    (let b1 := ballResult .A 1 [] (leave [7, 10]) false false
     let b2 := ballResult .A 1 [b1] (leave [4, 7]) false false
     (b1.pins, b2.before, b2.pins, b2.estimated)) = (8, some (leave [7, 10]), 1, true) := by decide +kernel

/-- R51 and R52: a strike, then 3 and 4: the frames score 17 and 7, and the cumulatives are 17 and 24. -/
theorem test_strike_bonus :
    (let ball := fun f n (p : Nat) => { ballResult .A f [] 0#10 false false with ball := n, pins := p }
     let g := (((Game.fresh [] 5 1).append 1 (ball 1 1 10)).append 2 (ball 2 1 3)).append 2 (ball 2 2 4)
     ((g.slot 1).map (·.score), (g.slot 2).map (·.cum), g.total)) = (some (some 17), some (some 24), 29) := by
  decide +kernel

/-- R108: 17:59:59 is in band 1, 18:00:00 in band 2, 03:15:00 in band 3. -/
theorem test_band_examples :
    ([64799, 64800, 11700].map fun s => (({ dayStart := some 600, bands := bands } : LiveTariff).lookup s).map (·.1)) =
      [some 1, some 2, some 3] := by decide +kernel

/-- R115: at a price of 650 and a discount of 15 the charge is 553, and without a discount 650. -/
theorem test_game_charge : (gameCharge 650 15, gameCharge 650 0) = (553, 650) := by decide

/-- R117: credit of 1,000 on a balance of −50,000 leaves −49,000. -/
theorem test_credit_below_zero :
    ((after (.addCredit (desk [0#8, 0#8, 3#8, 232#8])) (onA (seqIn .armed) (openMeter .game true (-50000)) [])).meter .A).balance =
      -49000 := by decide +kernel

/-- R120: a residue of 1,800 is rounded up, one of 1,799 is dropped. -/
theorem test_closing_rounding :
    ([1800, 1799].map fun r => ({ openMeter .time false 0 with residue := r, roundBand := some 1 } : Meter).round.total) =
      [1, 0] := by decide

/-- R112: at an hourly rate of 2,400 the second of two seconds carries 4,800 and charges 1, leaving 1,200. -/
theorem test_residue_carries :
    (let m := ((openMeter .time false 0).runSecond 2 2400).runSecond 2 2400
     (m.total, m.residue, m.subtotals.map (·.seconds))) = (1, 1200, [2]) := by decide

/-- R185: the delays lie in 20..1,260 ms: the next higher pair address waits longest. -/
theorem test_answer_delays :
    ((after (.setupRequest ⟨2#8, 255#8, []⟩) ready).ctl.answers,
      (after (.setupRequest ⟨60#8, 255#8, []⟩) ready).ctl.answers) = ([(2, 1260)], [(60, 100)]) := by decide +kernel

/-- R190: the check over the nine characters 1 to 9 is the polynomial's published one, 29B1. -/
theorem test_check_field : checkOf (sentBits [49, 50, 51, 52, 53, 54, 55, 56, 57]) = 0x29B1#16 := by decide +kernel

/-- R32, R33: the first sense pass is asked for at the grant, the second in the event of the first read. -/
theorem test_sense_passes :
    (let pass := fun s : State => sensePass (s.seq .A) (s.deck .A)
     let s := onA { seqIn (.spacing .calibrating) with pend := some ⟨240, 9, .calibrate⟩ } (openMeter .none false 0) []
     let s := { s with spacing := { s.spacing with
       waiting := [freshRequest .A .calibrating]
       slot := some { (freshRequest .A .calibrating).notice with onLine := true } } }
     let s1 := after (.startNoticeOutcome true) s
     (pass s, pass s1, pass (after (.readDone .A (read [])) s1))) = (none, some 1, some 2) := by decide +kernel

/-- R140, R145: a notice that was on the line when its request was marked is of class URGENT_START once it has lost. -/
theorem test_lost_notice_urgent :
    (let s := onA { seqIn (.spacing .reading) with cycle := some (ballCycle none) } (openMeter .none false 0) []
     let s := { s with spacing := { ready.spacing with
       waiting := [freshRequest .A .reading], passed := true
       slot := some { (freshRequest .A .reading).notice with onLine := true } } }
     let s := after (.spacingWait2W .A) s
     (s.spacing.slot.map (·.urgent), (after (.startNoticeOutcome false) s).spacing.slot.map (·.urgent))) =
      (some false, some true) := by decide +kernel

/-! ## One step of each family -/

/-- R3, R9: the foul before the ball is in the pending ball. -/
theorem test_ball_takes_foul :
    (((after (.ball .A) (after (.foul .A) (onA (seqIn .armed) (openMeter .none false 0) [playing .active]))).seq .A).cycle.bind
      (·.ball)) = some ⟨some (1, 1), true⟩ := by decide +kernel

/-- R53, R54, R48: a first ball that leaves {7, 10} scores 8, is a split, and respots both pins. -/
theorem test_read_scores :
    (let s := after (.readDone .A (read [7, 10]))
       (onA { seqIn .reading with cycle := some (ballCycle (some (1, 1))) } (openMeter .none false 0) [playing .active])
     ((s.seq .A).cycle.map (·.kind), (s.seq .A).state, (s.sessions.flatMap (·.bowlers)).map fun b => b.game.map (·.balls.map
       fun e => (e.pins, e.split)))) =
      (some (.respot (leave [7, 10])), .clearing, [some [(8, true)]]) := by decide +kernel

/-- R10, R153: a set limit that expires takes the lane to FAULT and queues the notice. -/
theorem test_overrun_faults :
    (let s := after (.phaseLimitExpiry .A)
       (onA { seqIn .setting with cycle := some (ballCycle none) } (openMeter .none false 0) [])
     ((s.seq .A).state, s.link.queue.map (·.payload))) =
      (.fault ⟨.setting, false, some (ballCycle none)⟩, [.notice (.fault .A .setting)]) := by decide +kernel

/-- R89: a seventh ball jams the return, and R96 holds the ARMED lane. -/
theorem test_seventh_ball_jams :
    (let s := after (.ball .A) { onA (seqIn .armed) (openMeter .none false 0) [] with
       ret := { State.reset.ret with state := .running, transit := List.replicate 6 ⟨.A, none, 0⟩ } }
     (s.ret.state, (s.seq .B).holds.ret)) = (.jammed .overfill, true) := by decide +kernel

/-- R111, R112: one running second at 1,500 an hour. -/
theorem test_clock_meters :
    (let s := after .clockTick (onA (seqIn .armed) (openMeter .time false 0) [])
     ((s.meter .A).residue, (s.meter .A).roundBand, s.ctl.clock)) = (1500, some 1, some ⟨1, 64800⟩) := by decide +kernel

/-- R141, R142, R143: a lane's notice goes out on the idle line and its outcome grants the start. -/
theorem test_start_granted :
    (let s := after (.settleExpiry .A) (onA { seqIn .settling with cycle := some (ballCycle none) } (openMeter .none false 0) [])
     ((after (.startNoticeOutcome true) (after .lineIdle s)).seq .A).state) = .reading := by decide +kernel

/-- R150, R151: question 0 with sense 1 is driven by a station with a free lane, at its own position. -/
theorem test_census : (after (.census ⟨240#8, 255#8, [0#8, 1#8, 0#8]⟩) ready).link.response = some 1 := by decide +kernel

/-- R157: an OFFER to an open, empty lane is accepted and reserves it. -/
theorem test_offer_accepted :
    (let s := after (.offer (peer [1#8, 1#8, 3#8, 0#8, 0#8, 0#8, 0#8])) (onA (seqIn .armed) (openMeter .none false 0) [])
     (s.reserved, s.link.queue.map (·.payload))) = (some .A, [.transfer 7 (.answer none)]) := by decide +kernel

/-- R105, R106: OPEN_LANE is answered ACCEPTED, appends its entry and begins the opening cycle. -/
theorem test_open_lane :
    (let s := after (.openLane (desk [0#8, 0#8, 1#8, 0#8, 0#8, 1#8, 244#8])) ready
     (replies s, s.store.lastSeq, (s.meter .A).balance, (s.seq .A).state)) =
      ([(.openLane, .accepted, .none)], 1, 500, .spacing .clearing) := by decide +kernel

/-- R68: START_SESSION on an open lane answers the id of its FORMING session. -/
theorem test_start_session :
    (let s := after (.startSession (desk [0#8, 2#8, 0#8, 0#8, 15#8])) (onA (seqIn .armed) (openMeter .none false 0) [])
     (replies s, s.sessions.map (·.state))) = ([(.startSession, .done, .sessionId 1)], [.forming]) := by decide +kernel

/-- R17, R14: HOLD(DESK) takes an ARMED lane to HELD. -/
theorem test_hold_armed :
    ((after (.hold (desk [0#8, 0#8])) (onA (seqIn .armed) (openMeter .none false 0) [])).seq .A).state =
      .held (.rack false) := by decide +kernel

/-- R177: a console may not open a lane. -/
theorem test_not_permitted :
    replies (after (.openLane { desk [0#8, 0#8, 0#8, 0#8, 0#8, 0#8, 0#8] with sender := 65#8 }) ready) =
      [(.openLane, .refused .notPermitted, .none)] := by decide +kernel

/-- R184: without an answer the built-in defaults are adopted when the setup wait expires. -/
theorem test_setup_wait : (after .setupWaitExpiry State.reset).ctl.source = some .builtIn := by decide +kernel

/-- R133: a lane found open at power-on is closed with reason POWER. -/
theorem test_power_closes :
    ((after (.powerOn true 1#6 false false) (onA (seqIn .armed) (openMeter .none false 0) [])).store.journal.map (·.body)) =
      [.closing .power 0 none 0 none] := by decide +kernel

/-! ## Stations that meet the statements' hypotheses -/

/-- Lane A ARMED and open, no session. -/
def armed : State := onA (seqIn .armed) (openMeter .none false 0) []

/-- Lane A in a state with a cycle, open, with one session whose turn is as given. -/
def cycling (q : SeqState) (t : Turn) : State :=
  onA { seqIn q with cycle := some (ballCycle (some (1, 1))) } (openMeter .none false 0) [playing t]

/-- The same with no session. -/
def cyclingEmpty (q : SeqState) : State :=
  onA { seqIn q with cycle := some (ballCycle none) } (openMeter .none false 0) []

/-- The return as given. -/
def withReturn (q : ReturnState) (n : Nat) : State :=
  { armed with ret := { State.reset.ret with state := q, transit := List.replicate n ⟨.A, none, 0⟩ } }

/-- A session in a state at the source of a transfer to station 2, tag 7. -/
def sourceIn (q : SourceState) (x : SessionState) : State :=
  { onA (seqIn .standby) (openMeter .none false 0) [{ playing .none with state := x }] with
    transfer := { record := .source q (some 7) 2 .A 1 (240, 9) (some 1500), lastTag := 7 } }

/-- The parts of bowler 1, in frame 1 with no ball. -/
def part1 : BowlerParts :=
  { ident := some { name := [65#8], handicap := 3, absent := false, charged := false, completed := 0 }
    balls := some { counts := [], balls := [] } }

/-- A target that takes a session of one bowler in frame 1, with the parts as given. -/
def targetWith (p : BowlerParts) : State :=
  { onA (seqIn .standby) (openMeter .none false 0) [] with
    transfer := { record := .target true 7 2 ⟨1, 1, 1, 0, 0, 0, .A⟩ [p] false 1500, lastTag := 0 } }

/-- The station out of local mode or in it, with a lane A request waiting and its notice in the slot. -/
def waitingNotice (onLine withdrawn : Bool) : State :=
  { cyclingEmpty (.spacing .reading) with spacing :=
    { ready.spacing with
      waiting := [freshRequest .A .reading], passed := true
      slot := some { (freshRequest .A .reading).notice with onLine := onLine, withdrawn := withdrawn } } }

/-- A queue whose head is on the line, with its mark. -/
def sendingFrame (mark : FrameMark) (p : Payload) (s : State) : State :=
  { s with link := { s.link with queue := [{ dest := 2, payload := p, mark := mark, onLine := true }] } }

/-- A station in local mode. -/
def inLocalMode (s : State) : State := { s with spacing := { s.spacing with isLocal := true } }

/-- Lane A held at its rack position for a reason of its meter, whose wait carries a charge of 500, with one session whose turn is
OUTSTANDING there. -/
def heldFor (r : WaitReason) (k : BillMode) (balance : Int) (t : Store) : State :=
  { onA { seqIn (.held (.rack false)) with holds := HoldSet.empty.put r.hold true }
      { openMeter k true balance with wait := some ⟨r, 1, 1, 1, 1, 15, some (500, 1)⟩ } [playing .outstanding] with
    store := t }

/-- What a turn start of lane A's one session asks. -/
abbrev oneTurn (s : State) : Prop :=
  s.sessions = [playing .outstanding] ∧ (playing .outstanding).state = .playing ∧
    (playing .outstanding).pos = some ⟨1, 1, .A⟩ ∧ (playing .outstanding).current = some 1 ∧
    (playing .outstanding).bowler? 1 = some (bowler false) ∧ (bowler false).game = some (Game.fresh [65#8] 10 1)

theorem witness_StepRunsFront : ({ ready with pending := [.lineIdle] } : State).pending = .lineIdle :: [] := rfl

theorem witness_TenthPasses :
    ready.pending = [] ∧ ready.running = true ∧ (withReturn .running 2).pending = [] ∧
      (withReturn .running 2).running = true ∧ (withReturn .running 2).ret.state = .running ∧
      (sourceIn .offered (.moving .sending)).pending = [] ∧ (sourceIn .offered (.moving .sending)).running = true := by decide

theorem witness_QueueKept : queueSound ready.link.queue ∧ ∃ t, step ready = .next t :=
  ⟨⟨by decide, List.Pairwise.nil⟩, _, rfl⟩

theorem witness_MoneyKept : moneySound armed ∧ ∃ t, step armed = .next t := by
  refine ⟨⟨?_, ?_, ?_, ?_, by decide⟩, _, rfl⟩
  · unfold meterSound; decide
  · unfold meterSound; decide
  · unfold journalSound; decide
  · unfold setupSound; decide

theorem witness_ListsKept : (listsSound ready ∧ numbersSound ready) ∧ ∃ t, step ready = .next t := by
  refine ⟨⟨⟨by decide, by decide, by decide, by decide, by decide, by decide, by decide, ?_⟩, ?_⟩, _, rfl⟩
  · unfold setupSound; decide
  · exact ⟨fun c h => by cases h; decide, by decide, by decide, fun p h => by cases h; decide, by decide, by decide,
      by decide, by decide, by decide⟩

theorem witness_TableKept : tableSound (cycling .setting .active) ∧ ∃ t, step (cycling .setting .active) = .next t := by
  refine ⟨⟨by decide, by decide, by decide, by decide, by decide, ?_⟩, _, rfl⟩
  intro r tag peer o parts bad n h
  cases h

/-- A cross session of one bowler in frame f of game 1. -/
def crossed (id : Nat) (l : LaneId) (q : SessionState) (f : Nat) (t : Turn) : Session :=
  { playing t with
    id := id, home := l, cross := true, state := q, pos := some ⟨1, f, if f % 2 = 0 then other l else l⟩
    current := if t = .none then none else some 1 }

/-- Two open NONE lanes with these sessions, lane A in a state with a cycle. -/
def lanesWith (q : SeqState) (xs : List Session) : State :=
  { cyclingEmpty q with meters := ⟨openMeter .none false 0, openMeter .none false 0⟩, sessions := xs }

/-- A crossed pair that bowls frame 1. -/
def bothPlay : State := lanesWith .setting [crossed 1 .A .playing 1 .active, crossed 2 .B .playing 1 .active]

theorem witness_PairsKept : pairsSound bothPlay ∧ ∃ t, step bothPlay = .next t := by
  refine ⟨⟨⟨by decide, by decide, by decide, by decide, by decide, ?_⟩, ?_, ?_, ?_⟩, _, rfl⟩
  · intro _ _ _ _ _ _ _ h
    cases h
  · intro x hx y hy
    simp [bothPlay, lanesWith, cyclingEmpty, onA] at hx hy
    rcases hx with rfl | rfl <;> rcases hy with rfl | rfl <;> simp [crossed, playing]
  · intro x hx
    simp [bothPlay, lanesWith, cyclingEmpty, onA] at hx
    rcases hx with rfl | rfl <;>
      simp [crossed, playing, bothPlay, lanesWith, cyclingEmpty, onA, Session.crossSound, Session.crossLane,
        SessionState.before, SessionState.waitsAt, State.reserved, ready, State.reset, other]
  · intro _ _ _ _ _ _ _ h
    cases h

/-- The game of a bowler who began with a strike, then 3 and 4. -/
def strikeGame : Game :=
  let ball := fun f n (p : Nat) => { ballResult .A f [] 0#10 false false with ball := n, pins := p }
  (((Game.fresh [] 5 1).append 1 (ball 1 1 10)).append 2 (ball 2 1 3)).append 2 (ball 2 2 4)

theorem witness_GamesKept :
    (let s := { armed with sessions := [{ playing .active with bowlers := [{ bowler false with game := some strikeGame }] }] }
     gamesSound s ∧ ∃ t, step s = .next t) := by
  refine ⟨⟨?_, fun _ _ _ _ _ _ _ h => by cases h⟩, _, rfl⟩
  intro x hx b hb g hg
  simp at hx
  subst hx
  simp at hb
  subst hb
  cases hg
  refine ⟨by decide +kernel, fun f h1 h2 r hr => ?_, by decide +kernel, by decide +kernel⟩
  interval_cases f <;> cases hr <;> decide +kernel

theorem witness_BallTaken :
    armed.running = true ∧ armed.ret.transit.length < 6 ∧ (armed.seq .A).state = .armed ∧ (armed.seq .B).state ≠ .armed ∧
      (withReturn .running 5).ret.transit.length < 6 ∧ (withReturn .purging 0).ret.transit.length < 6 ∧
      (∀ s ∈ [withReturn (.jammed .stall) 6, withReturn .running 6, withReturn .rackFull 6, withReturn .purging 6],
        s.running = true ∧ 6 ≤ s.ret.transit.length ∧ (s.seq .A).state = .armed ∧ (s.seq .B).state ≠ .armed ∧
          (s.ret.state = .jammed .stall ∨ (jamCause (.ball .A) s).isSome = true)) := by decide

theorem witness_LaneEvents :
    armed.running = true ∧
      ((cyclingEmpty .settling).running = true ∧ ((cyclingEmpty .settling).seq .A).state = .settling ∧
        (cyclingEmpty .settling).spacing.isLocal = false) ∧
      (∀ s ∈ [inLocalMode (cyclingEmpty .settling), inLocalMode { waitingNotice false false with
          seqs := ⟨(waitingNotice false false).seq .A, seqIn .settling⟩ }],
        s.running = true ∧ s.spacing.isLocal = true ∧ s.spacing.waiting.length ≤ 1 ∧ s.ctl.setup.spacing ≤ 8) ∧
      (cyclingEmpty .settling).spacing.slot = none ∧
      (waitingNotice false false).spacing.slot.isSome = true ∧
      (cyclingEmpty .clearing).running = true ∧ ((cyclingEmpty .clearing).seq .A).state = .clearing ∧
      (armed.seq .A).state ≠ .settling ∧ (armed.seq .A).state ≠ .clearing ∧ (armed.seq .A).state ≠ .reading ∧
      (armed.seq .A).state ≠ .calibrating ∧ (armed.seq .A).state ≠ .setting := by decide

theorem witness_ReadWithoutResult :
    (cyclingEmpty .reading).running = true ∧ ((cyclingEmpty .reading).seq .A).state = .reading ∧
      ((cyclingEmpty .reading).seq .A).cycle = some (ballCycle none) ∧ (ballCycle none).ball.bind (·.bowler) = none ∧
      ((cycling .reading .none).seq .A).state = .reading ∧
      (ballCycle (some (1, 1))).ball.bind (·.bowler) ≠ (cycling .reading .none).currentBowler .A := by decide

theorem witness_ReadScored :
    (let s := cycling .reading .active
     s.running = true ∧ (s.seq .A).state = .reading ∧ s.sends 1 ∧ (s.seq .A).cycle = some (ballCycle (some (1, 1))) ∧
       s.currentBowler .A = some (1, 1) ∧ s.session? 1 = some (playing .active) ∧
       (playing .active).pos = some ⟨1, 1, .A⟩ ∧ (playing .active).bowler? 1 = some (bowler false) ∧
       (bowler false).game = some (Game.fresh [65#8] 10 1) ∧ (Game.fresh [65#8] 10 1).slot 1 = none) := by decide

theorem witness_TruncationEndsFrame :
    (let g := Game.fresh [] 0 1
     let h := g.append 1 (ballResult .A 1 [] (leave [7, 10]) false false)
     (g.frames.length = 10 ∧ (∀ f ∈ (List.range 10).map (· + 1), (g.ballsOf f).length ≤ 3) ∧ g.frameInPlay = none) ∧
       h.frames.length = 10 ∧ (∀ f ∈ (List.range 10).map (· + 1), (h.ballsOf f).length ≤ 3) ∧
       h.frameInPlay = some 1) := by decide +kernel

/-- Lane A CALIBRATING in a single step, with the reads taken. -/
def calibrating (mode : CalMode) (reads : Nat) : State :=
  { armed with
    seqs := ⟨{ seqIn .calibrating with pend := some ⟨240, 9, .calibrate⟩ }, Sequencer.powerOn⟩
    decks := ⟨{ Deck.lost with rack := .full, cal := { CalRecord.empty with
      mode := some mode, result := .running, reads := reads
      allMiss := if mode = .sweep then List.replicate 10 (some 3) else List.replicate 10 none
      firstMiss := if mode = .sweep then List.replicate 10 (some 2) else List.replicate 10 none } }, Deck.lost⟩ }

theorem witness_CalibrationReads :
    (let s := calibrating (.single 4) 2
     s.running = true ∧ (s.seq .A).state = .calibrating ∧ (s.deck .A).cal.reads < 3) ∧
    (let s := calibrating (.single 4) 3
     s.running = true ∧ (s.seq .A).state = .calibrating ∧ 3 ≤ (s.deck .A).cal.reads ∧
       ((s.deck .A).calRead (read [])).2 = some (0, 0) ∧ s.sends 1 ∧ (s.seq .A).pend = some ⟨240, 9, .calibrate⟩ ∧
       s.sessions = []) ∧
    (let d := (calibrating .sweep 3).decks.a
     d.cal.mode = some .sweep ∧ d.thresholds.length = 10 ∧ d.cal.firstMiss.length = 10 ∧ d.cal.steps ≤ 14 ∧
       (d.calRead (read [])).2 = some (10, 0)) ∧
    (let d := (calibrating .sweep 3).decks.a
     let empty := List.replicate 10 none
     (({ d with cal := { d.cal with firstMiss := empty, allMiss := empty } } : Deck).calRead
       (read [1, 2, 3, 4, 5, 6, 7, 8, 9, 10])).2 = none) ∧
    (let four := fun d : Deck => ((((d.calRead (read [1])).1.calRead (read [])).1.calRead (read [])).1.calRead (read [])).2
     let start := fun (m : Option CalMode) (steps : Nat) => ({ Deck.lost with
       cal := { CalRecord.empty with mode := m, steps := steps } } : Deck)
     (∀ d ∈ [start (some (.single 4)) 0, start (some .sweep) 3, start (some .sweep) 14],
       d.cal.reads = 0 ∧ d.cal.misses = List.replicate 10 0 ∧ d.cal.firstMiss.length = 10 ∧ d.cal.allMiss.length = 10) ∧
     four (start (some (.single 4)) 0) = some (0, 9) ∧ four (start (some .sweep) 3) = none ∧
     four (start (some .sweep) 14) = some (10, 0)) := by decide +kernel

/-- Into ARMED: with no session, with a turn ACTIVE, with a turn of the other lane. Into HELD with a turn that ended; into
STANDBY. -/
theorem witness_SetDone :
    (∀ s ∈ [cyclingEmpty .setting, cycling .setting .active,
        { cyclingEmpty .setting with sessions := [{ playing .ended with home := .B, pos := some ⟨1, 1, .B⟩ }] }],
      s.running = true ∧ (s.seq .A).state = .setting ∧ (s.seq .A).cycle.isSome = true ∧ (s.meter .A).isOpen = true ∧
        s.sends 1 ∧ (s.seq .A).holds.appliesAt (.rack false) = false ∧ ∀ x ∈ s.sessions,
          (x.frameLane = some .A → x.turn ≠ .outstanding ∧ x.turn ≠ .ended) ∧ x.state = .playing) ∧
    (let s := cycling .setting .ended
     (s.seq .A).state = .setting ∧ (s.seq .A).cycle = some (ballCycle (some (1, 1))) ∧
       ({ (s.seq .A).holds with desk := true } : HoldSet).appliesAt (.rack (ballCycle (some (1, 1))).frameEnd) = true) ∧
    (let s := { cyclingEmpty .setting with meters := ⟨Meter.lost, Meter.lost⟩ }
     s.running = true ∧ (s.seq .A).state = .setting ∧ (s.meter .A).isOpen = false) := by decide +kernel

/-- A turn start on lane A with its meter and its store as given. -/
def starting (m : Meter) (t : Store) : State :=
  { cycling .setting .outstanding with meters := ⟨m, Meter.lost⟩, store := t }

theorem witness_TurnStartAdmission :
    (let x := playing .outstanding
     let full : Store := { ready.store with journal := List.replicate 192 ⟨1, .A, none, .opening .none false none⟩ }
     (∀ s ∈ [starting (openMeter .none false 0) ready.store, starting (openMeter .game true 425) ready.store,
         starting (openMeter .game true 424) ready.store, starting (openMeter .game true 500) ready.store, starting (openMeter .game true 425) full,
         starting (openMeter .time true 0) ready.store],
       s.running = true ∧ (s.seq .A).state = .setting ∧ (s.meter .A).isOpen = true ∧ (s.seq .A).pend = none ∧
       (s.seq .A).mode ≠ .frameEnd ∧ s.sends 2 ∧ (s.seq .A).cycle = some (ballCycle (some (1, 1))) ∧
       (s.seq .A).holds.appliesAt (.rack false) = false ∧ s.sessions = [x] ∧ (s.gameBand.2 * (100 - 15) + 50) / 100 = 425) ∧
     x.state = .playing ∧ x.turn = .outstanding ∧ x.pos = some ⟨1, 1, .A⟩ ∧ x.current = some 1 ∧ x.discount = 15 ∧
     x.bowler? 1 = some (bowler false) ∧ (bowler false).game.map (·.charged) = some false ∧
     (500 - 425 < ready.ctl.setup.low ∧ ready.ctl.setup.low ≤ 500) ∧
     ready.ctl.clock = some ⟨1, 64799⟩ ∧ ready.tariff.live.lookup 64799 = some (1, ⟨480, 500, 1500⟩) ∧
     openLanes (starting (openMeter .game true 425) full).meters + 1 > full.freeCount ∧
     openLanes (starting (openMeter .game true 425) full).meters + 1 ≤ ready.store.freeCount) := by decide +kernel

theorem witness_TurnsGoOn :
    (let two := [bowler true, bowler false]
     ∀ x ∈ [playing .ended, { playing .ended with bowlers := two }, { playing .ended with pos := some ⟨1, 10, .A⟩ },
         { playing .ended with pos := some ⟨98, 10, .A⟩ }, { playing .ended with pos := some ⟨99, 10, .A⟩ },
         { playing .ended with pos := some ⟨3, 10, .A⟩, limit := 3 }, { playing .ended with pos := some ⟨2, 10, .A⟩, limit := 3 }],
       let s := { cycling .setting .ended with sessions := [x] }
       s.running = true ∧ (s.seq .A).state = .setting ∧ (s.meter .A).isOpen = true ∧ (s.meter .A).mode = .none ∧
         (s.seq .A).pend = none ∧ (s.seq .A).mode ≠ .frameEnd ∧ s.sends 1 ∧
         (s.seq .A).cycle = some (ballCycle (some (1, 1))) ∧ (s.seq .A).holds.appliesAt (.rack false) = false ∧
         s.sessions = [x] ∧ x.state = .playing ∧ x.turn = .ended ∧ x.cross = false ∧ x.home = .A ∧
         x.pos.map (·.lane) = some .A ∧ (∀ b ∈ x.bowlers, b.game.isSome = true) ∧ x.current.getD 0 = 1 ∧
         s.store.archive.length + x.bowlers.length ≤ s.store.archiveCap ∧
         x.bowlers = (if x.bowlers.length = 1 then [bowler false] else two)) := by decide +kernel

theorem lanesWith_cycleArms (xs : List Session) : (lanesWith .setting xs).cycleArms .A := by
  refine ⟨rfl, rfl, rfl, fun h => ?_, _, rfl, rfl⟩
  cases h

/-- What BarriersPass asks of its two sessions. -/
abbrev crossPair (s : State) (x y : Session) : Prop :=
  (s.sessions = [x, y] ∨ s.sessions = [y, x]) ∧ x.id ≠ y.id ∧ x.home ≠ y.home ∧ y.cross = true ∧
    (s.meter .A).mode = .none ∧ (s.meter .B).mode = .none ∧
    ∀ z ∈ [x, y], z.state ≠ .waitMove ∧ (z.pos ≠ none → ∀ b ∈ z.bowlers, b.game.isSome = true)

theorem witness_BarriersPass_begin :
    (let x := { crossed 1 .A .forming 1 .none with pos := none }
     let y := { crossed 2 .B (.waitPartner .start) 1 .none with pos := none }
     let s := lanesWith .setting [x, y]
     let m := desk [1#8]
     crossPair s x y ∧ s.sends 3 ∧ s.reaches m .beginSession ∧ parse1 m.args = some x.id ∧ x.cross = true ∧
       x.state = .forming ∧ x.size ≤ x.bowlers.length ∧ y.state = .waitPartner .start ∧
       ∀ z ∈ [x, y], firstPresent 0 z.bowlers < z.bowlers.length) := by decide

/-- What its second clause asks of a SET_DONE of lane A: see `lanesWith_cycleArms` for the cycle. -/
abbrev lastTurn (s : State) (x y : Session) : Prop :=
  crossPair s x y ∧ x.cross = true ∧ x.state = .playing ∧ x.turn = .ended ∧ x.frameLane = some .A ∧
    x.bowlers.drop (x.current.getD 0) = [] ∧ ∀ z ∈ [x, y], firstPresent 0 z.bowlers < z.bowlers.length

/-- The last turn of frame 1, the partner at the barrier, at another, before its game, and still playing. -/
theorem witness_BarriersPass :
    (let x := crossed 1 .A .playing 1 .ended
     ∀ q ∈ [.waitPartner (.frame 1), .waitPartner .start, .forming, .playing],
       let y := crossed 2 .B q 1 .none
       lastTurn (lanesWith .setting [x, y]) x y ∧ y.frameLane ≠ some .A ∧ (x.allAbsent && y.allAbsent) = false) := by
  decide +kernel

/-- The last turn of frame 10, with no session, either one and both at the game limit. -/
theorem witness_BarriersPass_game :
    ∀ n ∈ [(0, 0), (1, 0), (0, 1), (1, 1)],
      (let x := { crossed 2 .B .playing 10 .ended with limit := n.1 }
       let y := { crossed 1 .A (.waitPartner (.frame 10)) 10 .none with limit := n.2 }
       let s := lanesWith .setting [y, x]
       lastTurn s x y ∧ x.pos.map (·.number) = some 1 ∧ y.pos.map (·.number) = some 1 ∧
         (∀ b ∈ x.bowlers ++ y.bowlers, b.game.map (·.number) = some 1) ∧
         s.store.archive.length + 2 ≤ s.store.archiveCap) := by
  decide +kernel

/-- A bowler of a waiting session made present, the partner at the same barrier, and still playing. -/
theorem witness_BarriersPass_present :
    (let x := { crossed 1 .A (.waitPartner (.frame 1)) 1 .none with bowlers := [bowler true] }
     let m := desk [1#8, 1#8, 0#8]
     ∀ q ∈ [.waitPartner (.frame 1), .playing],
       let y := crossed 2 .B q 1 .none
       let s := lanesWith .setting [x, y]
       crossPair s x y ∧ s.sends 3 ∧ s.reaches m .setAbsent ∧ parse3 m.args = some (1, 1, 0) ∧ x.id = 1 ∧ x.cross = true ∧
         y.state ≠ .parked ∧ x.bowler? 1 ≠ none ∧ x.state = .waitPartner (.frame 1) ∧ x.pos = some ⟨1, 1, .A⟩ ∧
         y.pos = some ⟨1, 1, .B⟩) := by decide +kernel

theorem witness_BarriersPass_uncross :
    (let y := crossed 2 .B (.waitPartner (.frame 3)) 3 .none
     let m := desk [1#8]
     (let x := crossed 1 .A .playing 1 .active
      let s := lanesWith .setting [x, y]
      crossPair s x y ∧ s.sends 2 ∧ parse1 m.args = some x.id ∧ s.reaches m .endSession ∧ x.turn ≠ .outstanding) ∧
     (let x := { crossed 1 .A .parked 1 .none with cross := false }
      let s := lanesWith .setting [x, y]
      crossPair s x y ∧ s.sends 2 ∧ parse1 m.args = some x.id ∧ s.reaches m .resumeParked ∧
        (s.meter x.home).isOpen = true ∧ s.occupied x.home = false ∧ s.reserved ≠ some x.home ∧
        (s.seq x.home).state ≠ .armed ∧ ({ x with state := .playing } : Session).choose.2 = .chosen)) := by decide +kernel

/-- Lane A's session with one ball in frame 1, suspended while PLAYING. -/
def suspended (t : Turn) (l : LaneId) (mid : Bool) : Session :=
  { playing t with
    state := .suspended .playing, pos := some ⟨1, 1, l⟩
    bowlers := [{ bowler false with game := some (if mid then
      (Game.fresh [] 10 1).append 1 (ballResult .A 1 [] (leave [7, 10]) false false) else Game.fresh [] 10 1) }] }

/-- Every station here meets SessionResumed's hypotheses by `lanesWith_cycleArms`. -/
theorem witness_SessionResumed :
    (let waits := crossed 1 .A (.suspended (.waitPartner (.frame 1))) 1 .none
     let alone := [{ suspended .none .A false with state := .suspended .forming }, waits, { waits with cross := false },
       { waits with cross := false, state := .suspended (.waitPartner .start), pos := none }, suspended .outstanding .B true,
       suspended .ended .B false, suspended .outstanding .A true, suspended .ended .A false, suspended .none .A false,
       suspended .outstanding .A false, suspended .outstanding .B false]
     let partners := [crossed 2 .B (.waitPartner (.frame 1)) 1 .none, crossed 2 .B (.suspended .playing) 1 .none,
       { crossed 2 .B .forming 1 .none with pos := none }]
     (∀ xs ∈ alone.map (fun x => [x]) ++ partners.map (fun y => [waits, y]),
       let s := lanesWith .setting xs
       (s.meter .A).mode = .none ∧ (s.meter .B).mode = .none ∧
       (∀ x ∈ s.sessions.head?, x.home = .A ∧ ∃ r ∈ [.forming, .playing, .waitPartner .start, .waitPartner (.frame 1)],
         x.state = .suspended r) ∧
       (∀ z ∈ s.sessions, z.state ≠ .waitMove ∧ (z.pos ≠ none → ∀ b ∈ z.bowlers, b.game.isSome = true))) ∧
     (suspended .outstanding .B true).midFrame = true ∧ (suspended .outstanding .A false).midFrame = false ∧
     (∀ y ∈ partners, y.home = other .A ∧ y.cross = true ∧ (waits.allAbsent && y.allAbsent) = false)) := by decide +kernel

theorem witness_PhaseOverruns :
    (cyclingEmpty .setting).running = true ∧ (cyclingEmpty .setting).sends 2 ∧
      ((cyclingEmpty .setting).seq .A).state.phase? = some .setting ∧ ((cyclingEmpty .setting).meter .A).isOpen = true ∧
      ((calibrating .sweep 0).seq .A).state.phase? = some .calibrating := by decide

theorem witness_LiftRackAndPurge :
    (withReturn .running 1).running = true ∧ (withReturn .running 1).ret.state = .running ∧
      (withReturn .purging 2).running = true ∧ (withReturn .purging 2).ret.state = .purging ∧
      (withReturn .purging 2).sends 1 := by decide

theorem witness_StrainAndJams :
    (withReturn .running 1).running = true ∧ (209#8).toNat < (withReturn .running 1).ctl.setup.stall ∧
      (withReturn .running 1).ret.state = .running ∧ (withReturn .running 1).sends 3 ∧
      jamCause (.liftCurrentSample 210#8) (withReturn .running 1) = some .stall ∧
      jamCause .transitOverdue (withReturn .running 1) = some .overdue ∧
      jamCause (.ball .A) (withReturn .rackFull 6) = some .overfill ∧ (withReturn .rackFull 6).sends 3 := by decide

theorem witness_ClockTicks :
    (let s := onA (seqIn .armed) (openMeter .time true 500) []
     s.running = true ∧ s.ctl.clock = some ⟨1, 64799⟩ ∧ (s.meter .A).isOpen = true ∧ (s.meter .A).mode = .time ∧
       s.tariff.live.lookup 64799 = some (1, ⟨480, 500, 1500⟩) ∧ (s.ctl.setup.low : Int) ≤ (s.meter .A).balance ∧
       s.sends 2) ∧ State.reset.ctl.clock = none := by decide

theorem witness_WindowAndWait :
    ready.running = true ∧ ready.spacing.isLocal = false ∧
      (let s := { ready with spacing := { ready.spacing with isLocal := true } }
       s.running = true ∧ s.spacing.isLocal = true) ∧
      (let s := inLocalMode (waitingNotice false false)
       let s := { s with spacing := { s.spacing with window := [⟨1, 0, 0, 2000⟩], quiet := some 100 } }
       s.running = true ∧ s.spacing.isLocal = true ∧ s.startsSound ∧ 0 < s.spacing.window.length ∧
         s.spacing.quiet.isSome = true) ∧
      ((waitingNotice false false).seq .A).state = .spacing .reading ∧
      ∀ n, ((waitingNotice false false).seq .B).state ≠ .spacing n := by
  refine ⟨by decide, by decide, by decide, ?_, by decide, fun n => ?_⟩
  · unfold State.startsSound
    decide
  · cases n <;> decide

theorem witness_LocalModeAndLineIdle :
    (let s := waitingNotice false false
     let two := { s with spacing := { s.spacing with waiting := s.spacing.waiting ++ [freshRequest .B .clearing] } }
     s.startsSound ∧ two.startsSound ∧ two.running = true) ∧
    (let s := waitingNotice false false
     s.running = true ∧ s.spacing.slot = some (freshRequest .A .reading).notice ∧
       (s.spacing.window.filter fun e => s.ctl.pair == some e.station).length < s.ctl.setup.spacing ∧
       s.ctl.supplyLow = false ∧ s.spacing.quiet = none ∧ s.spacing.waiting.length = 1 ∧
       s.ctl.pair.isSome = true ∧ s.transmitting = false ∧ s.startRoom = true) ∧ ready.spacing.slot = none ∧ ready.spacing.waiting = [] ∧
    (waitingNotice true false).startsSound ∧
    State.reset.transmitting = false ∧ State.reset.spacing.slot = none ∧ State.reset.link.queue = [setupRequestFrame] := by
  unfold State.startsSound
  decide

/-- R148: local mode grants the head at once, its notice on the line or not; the notice that runs on is withdrawn. -/
theorem test_local_mode_grants_at_once :
    ([false, true].map fun o =>
      let t := after .idleWatchExpiry (waitingNotice o false)
      ((t.seq .A).state, t.spacing.window.length, t.spacing.waiting, t.spacing.slot.map fun n => (n.onLine, n.withdrawn))) =
    [(.reading, 1, [], none), (.reading, 1, [], some (true, true))] := by decide

/-- R143, R148: a notice that loses arbitration in local mode leaves its request to the test. -/
theorem test_local_mode_lost :
    (let t := after (.startNoticeOutcome false) (inLocalMode (waitingNotice true false))
     ((t.seq .A).state, t.spacing.waiting, t.spacing.slot)) = (.reading, [], none) := by decide

theorem witness_TransmissionOutcomes :
    (∀ w ∈ [false, true], let s := waitingNotice true w
     s.running = true ∧ s.link.lineIdle = false ∧ s.spacing.isLocal = false ∧
       s.spacing.slot = some { (freshRequest .A .reading).notice with onLine := true, withdrawn := w }) ∧
    (waitingNotice false false).spacing.slot.map (·.onLine) = some false ∧
    (let s := waitingNotice true false
     let s := { s with spacing := { s.spacing with isLocal := true, waiting := [⟨.A, .reading, true, 0⟩] } }
     s.running = true ∧ s.spacing.waiting.drop 1 = [] ∧ s.spacing.waiting.any (·.urgent) = true) ∧
    (∀ w ∈ [false, true], let s := inLocalMode (waitingNotice true w)
     let s := { s with spacing := { s.spacing with waiting := s.spacing.waiting ++ [freshRequest .B .clearing] } }
     s.running = true ∧ s.link.lineIdle = false ∧ s.spacing.isLocal = true ∧ s.spacing.waiting.length ≤ 2 ∧
       s.ctl.setup.spacing ≤ 8 ∧ s.spacing.slot.map (fun n => (n.onLine, n.withdrawn)) = some (true, w)) ∧
    (ready.running = true ∧ ready.link.lineIdle = false ∧ ready.spacing.slot = none) ∧
    (let s := sendingFrame .transfer (.transfer 7 .done) ready
     s.running = true ∧ s.link.lineIdle = false ∧
       s.link.queue.find? (·.onLine) = some ⟨2, .transfer 7 .done, .transfer, true⟩) ∧
    ready.link.queue.find? (·.onLine) = none := by decide

theorem witness_CensusAnswered :
    ready.running = true ∧ ready.ctl.pair = some 1 ∧ ready.acceptsDest 255#8 = true ∧ ready.silent = false := by decide

theorem witness_FrameReceived :
    (let covered := coveredBits 0#4 2#8 255#8 2#8 [0#8, 1#8]
     let f : RawFrame := ⟨0#4, 2#8, 255#8, 2#8, [0#8, 1#8], checkOf covered⟩
     ready.running = true ∧ RawFrame.wellFormed f = true ∧
       commandOf f = some (.startNoticeReceived true ⟨2#8, 255#8, [0#8, 1#8]⟩) ∧
       RawFrame.wellFormed { f with check := 0#16 } = false) ∧
    (let covered := coveredBits 3#4 2#8 255#8 1#8 [4#8]
     RawFrame.wellFormed ⟨3#4, 2#8, 255#8, 1#8, [4#8], checkOf covered⟩ = true) := by decide +kernel

theorem witness_OfferTaken :
    armed.running = true ∧ armed.ctl.pair = some (peer []).dest.toNat ∧ armed.room 1 ∧
      parseOffer (peer [6#8, 99#8, 10#8, 6#8, 99#8, 100#8, 1#8]).args = some ⟨6, 99, 10, 6, 99, 100, .B⟩ ∧
      parseOffer (peer [7#8, 1#8, 1#8, 0#8, 0#8, 0#8, 0#8]).args = none := by decide

theorem witness_PartsTaken :
    (let s := targetWith ⟨none, none⟩
     s.running = true ∧ s.ctl.pair = some (peer []).dest.toNat ∧
       s.transfer.record = .target true 7 2 ⟨1, 1, 1, 0, 0, 0, .A⟩ [⟨none, none⟩] false 1500) ∧
    (peer []).sender.toNat = 2 ∧ (peer []).tag.toNat = 7 ∧
    parseIdent (1#8 :: List.replicate 15 0#8) = some (1, ⟨[], 0, false, false, 0⟩) ∧
    parseBalls (1#8 :: List.replicate 5 0#8) = some (1, 0, ⟨[], []⟩) := by decide +kernel

theorem witness_SourceSends :
    (let s := sourceIn .offered (.moving .sending)
     s.running = true ∧ s.sends 1 ∧ s.ctl.pair = some (peer []).dest.toNat ∧
       s.transfer.record = .source .offered (some 7) 2 .A 1 (240, 9) (some 1500) ∧
       s.session? 1 = some { playing .none with state := .moving .sending } ∧
       (peer [0#8, 0#8]).args[0]? = some 0#8 ∧ (peer [0#8, 0#8]).args[1]? = some 0#8 ∧
       ((playing .none).partMsg (.ident 1)).isSome = true ∧
       ([[0#8, 1#8], [1#8, 0#8], [1#8, 7#8], [1#8, 8#8]].map fun a => (parseAnswer (peer a).args).isSome) =
         [false, false, true, false] ∧ (8#8).toNat ≠ 7) ∧
    (let part := Part.balls 1
     let x := { playing .none with state := .moving .sending }
     let s := sourceIn (.sending part) (.moving .sending)
     ∀ p, x.partMsg part = some p →
       (sendingFrame .transfer (.transfer 7 p) s).link.queue.find? (·.onLine) =
         some ⟨2, .transfer 7 p, .transfer, true⟩ ∧ part.after x.size = none ∧ s.link.lineIdle = false) :=
  ⟨by decide +kernel, fun p _ => ⟨rfl, rfl, rfl⟩⟩

/-- R161's tests on the parts, as CommitTaken spells them. -/
def soundParts (o : OfferFields) (parts : List BowlerParts) : Bool :=
  let balls := fun (f : BallsFields) (j : Nat) => (f.balls.drop (f.counts.take j).sum).take (f.counts.getD j 0)
  (List.range parts.length).all fun i => ((parts[i]?).bind (·.balls)).all fun f =>
    f.counts.length == (if i < o.current then o.frame else o.frame - 1) && (List.range f.counts.length).all fun j =>
      ((balls f j).isEmpty || endedPins (j + 1) ((balls f j).map (·.pins))) && (balls f j).all fun e => !e.foul || e.pins == 0

theorem witness_CommitTaken :
    (let s := targetWith part1
     s.running = true ∧ s.ctl.pair = some (peer []).dest.toNat ∧ s.room 1 ∧ s.sessions = [] ∧
       s.transfer.record = .target true 7 2 ⟨1, 1, 1, 0, 0, 0, .A⟩ [part1] false 1500 ∧ (s.seq .A).state ≠ .armed) ∧
    part1.ident.map (·.absent) = some false ∧ ({ part1 with balls := none } : BowlerParts).balls.isSome = false ∧
    armed.reserved = none ∧ armed.ctl.pair = some (peer []).dest.toNat := by decide +kernel

/-- The lane of the offer ARMED; and a cross session of lane B that waits at barrier BEGIN. -/
theorem witness_CommitTaken_beside :
    (let s := { targetWith part1 with seqs := armed.seqs }
     s.sessions.length ≤ 1 ∧ (s.seq .A).state = .armed ∧ s.room 3 ∧ s.reserved = some .A) ∧
    (let y := { crossed 1 .B (.waitPartner .start) 1 .none with pos := none, bowlers := [bowler false, bowler true] }
     let s := { targetWith part1 with
       seqs := ⟨seqIn .armed, seqIn .armed⟩, meters := ⟨openMeter .none false 0, openMeter .none false 0⟩, sessions := [y] }
     y.cross = true ∧ y.home = other .A ∧ y.occupies (other .A) = true ∧ s.room 3 ∧ s.sessions.length ≤ 1 ∧
       (s.meter .A).mode = .none ∧ (s.meter .B).mode = .none ∧ s.newId = 2) := by decide +kernel

/-- The parts of bowler 1 with a frame shape and balls of these pinfalls. -/
def filledPart (counts pins : List Nat) : BowlerParts :=
  { part1 with balls := some { counts := counts, balls := pins.map fun p => ⟨p, false, false, false, false, false⟩ } }

/-- No frame; a strike and a blank frame; and two balls that sum to 11. -/
theorem witness_CommitTaken_sound :
    ([(⟨1, 1, 1, 0, 0, 0, .A⟩, part1), (⟨1, 1, 3, 0, 0, 0, .A⟩, filledPart [1, 0] [10]),
      (⟨1, 1, 2, 0, 0, 0, .A⟩, filledPart [2] [9, 2])].map fun c => soundParts c.1 [c.2]) = [true, true, false] := by
  decide +kernel

theorem witness_MovesEnd :
    (let s := sourceIn .offered (.moving .sending)
     let x := { playing .none with state := .moving .sending }
     s.running = true ∧ s.sends 1 ∧ moveFailure .sourceStepTimeout s = some (.offer, none) ∧
       moveFailure (.answer (peer [1#8, 2#8])) s = some (.offer, some .laneTaken) ∧ s.session? 1 = some x ∧
       x.frameLane = some .A ∧ (s.seq .A).state ≠ .armed) ∧
    (({ playing .none with current := none } : Session).choose).2 = .chosen ∧
    (sourceIn .committed (.moving .committed)).sends 2 ∧
    (sourceIn .committed (.moving .committed)).session? 1 = some { playing .none with state := .moving .committed } ∧
    (let s := sourceIn .committed (.moving .committed)
     s.running = true ∧ s.ctl.pair = some (peer []).dest.toNat ∧ s.room 1 ∧
       s.transfer.record = .source .committed (some 7) 2 .A 1 (240, 9) (some 1500)) ∧
    (armed.running = true ∧ armed.transfer.record = .idle) ∧ (targetWith part1).running = true ∧
    (targetWith part1).reserved ≠ none := by
  decide

theorem witness_TimeRequestsAndTimers :
    ready.running = true ∧ ready.ctl.pair = some 1 ∧ parseTime [6#8, 1#8, 81#8, 127#8] = some ⟨6, 86399⟩ ∧
      parseTime [7#8, 0#8, 0#8, 0#8] = none ∧ State.reset.running = true ∧ State.reset.sends 1 ∧
      State.reset.ctl.source = none ∧ ready.sends 1 := by decide

theorem witness_SetupAnswerTaken :
    State.reset.running = true ∧ State.reset.room 1 ∧ State.reset.ctl.source = none ∧
      State.reset.ctl.pair = some (1#8).toNat ∧ (parseSetup (List.replicate 9 255#8)).isSome = true ∧
      parseSetup [] = none ∧ ready.room 1 ∧ ready.ctl.source ≠ none := by decide

theorem witness_SupplyWarns :
    (ready.running = true ∧ ready.spacing.isLocal = false ∧ ready.sends 1 ∧ ready.ctl.supplyLow = false) ∧
    (let s := inLocalMode { waitingNotice false false with ctl := { ready.ctl with supplyLow := true } }
     s.running = true ∧ s.sends 1 ∧ s.spacing.isLocal = true ∧ s.ctl.supplyLow = true ∧ s.startsSound) := by
  unfold State.startsSound
  decide

theorem witness_WarmResetMade :
    ∀ s ∈ [cycling .setting .active, sourceIn .committed (.moving .committed), { sourceIn .waiting .waitMove with
        sessions := [{ playing .none with state := .waitMove, current := none }] }],
      (s.setCtl (s.ctl.letGo .brownout)).running = true ∧ (s.sessions.map (·.id)).Nodup ∧
        (∀ x ∈ s.sessions, x.returns = true → firstPresent (x.current.getD 0) x.bowlers < x.bowlers.length) ∧
        s.ctl.pair ≠ none ∧ s.sessions.length ≤ 2 := by decide

/-- A lane that loses a respot in the middle of a frame, and a session that returns from MOVING with a bowler left. -/
theorem witness_WarmResetMade_turns :
    (let s := after (.readDone .A (read [7, 10])) (cycling .reading .active)
     ((s.seq .A).lostCycle.any fun k => k.kind != .full) = true ∧ s.currentBowler .A = some (1, 1) ∧
       (s.sessions.map fun x => (x.id, x.frameLane, x.current, x.midFrame)) = [(1, some .A, some 1, true)]) ∧
    (let x := { playing .none with
       state := .moving .sending, size := 2, bowlers := [bowler false, bowler false], current := some 1 }
     x.returns = true ∧ firstPresent (x.current.getD 0) x.bowlers = 1 ∧ x.bowlers.length = 2) := by decide +kernel

theorem witness_PoweredOn :
    (cycling .setting .active).sessions.length ≤ 2 ∧ (1#6).toNat ≠ 0 ∧
      (sourceIn .committed (.moving .committed)).sessions.map (fun x => decide (x.state = .moving .committed)) = [true] ∧
      (let m := { openMeter .time true 500 with residue := 1800, roundBand := some 1 }
       ((Setup.builtIn.low : Nat) : Int) ≤ m.balance ∧ m.round.balance < ((Setup.builtIn.low : Nat) : Int)) := by decide

theorem witness_ResetsAndHolds :
    ready.running = true ∧ ready.reaches (desk []) .stationReset ∧ ready.room 1 ∧
    (sendingFrame .stationReset .setupRequest ready).link.queue.find? (·.onLine) =
      some ⟨2, .setupRequest, .stationReset, true⟩ ∧
    (let s := { ready with link := { ready.link with queue := List.replicate 12 ⟨2, .setupRequest, .none, false⟩ } }
     s.reaches (desk []) .stationReset ∧ s.ctl.resetDue = none ∧ 12 ≤ s.link.queue.length ∧
       ∀ f ∈ s.link.queue, f.payload.cls = 12 → f.onLine = true) ∧
    ({ ready.ctl with resetDue := some 1 } : Control).resetDue ≠ none ∧
    ({ ready.ctl with brownHeld := true, lineHeld := true } : Control).brownHeld = true := by decide

theorem witness_RequestsGated :
    ready.running = true ∧ ready.room 1 ∧ requestOf (.openLane (desk [])) = some (.openLane, desk []) ∧
      ready.ctl.pair = some (desk []).dest.toNat ∧ ReqName.openLane.access.permits (senderKind 1 65) = false ∧
      ready.ctl.pair ≠ some (255#8).toNat ∧ reqOf .billing (8#8).toNat = none ∧
      (let m := desk (List.replicate 6 0#8)
       ready.reaches m .openLane ∧ m.args.length < ReqName.openLane.needs m.args) ∧
      (let m := desk [0#8, 1#8]
       ready.reaches m .calibrate ∧ m.args.length < ReqName.calibrate.needs m.args) := by decide

theorem witness_SettingsWritten :
    ready.room 1 ∧ (ready.reaches (desk [0#8, 1#8]) .setHoldMode ∧ parse2 (desk [0#8, 1#8]).args = some (0, 1) ∧
        laneOf 0 = some .A ∧ holdModeOf 1 = some .eachBall) ∧
      (∀ a ∈ [[2#8, 0#8], [0#8, 3#8]], ready.reaches (desk a) .setHoldMode ∧
        (parse2 (desk a).args).any (fun p => decide (1 < p.1 ∨ 2 < p.2)) = true) ∧
      (ready.reaches (desk [32#8]) .setGroup ∧ parse1 (desk [32#8]).args = some 32 ∧ parse1 (desk [33#8]).args = some 33) ∧
      ready.reaches (desk [1#8]) .setCensusSilent ∧
      (ready.reaches (desk (List.replicate 7 7#8)) .tariffBand ∧ (parseBand (List.replicate 7 7#8)).map (·.slot) = some 7) ∧
      ready.reaches (desk []) .archiveClear := by decide

theorem witness_HoldsTaken :
    (armed.reaches (desk [0#8, 0#8]) .hold ∧ armed.room 1 ∧ parseHold (desk [0#8, 0#8]).args = some ⟨0, 0⟩ ∧
        holdReasonOf 0 = some .desk) ∧
      (armed.reaches (desk [0#8]) .release ∧ ((cyclingEmpty (.held .read)).seq .A).state = .held .read ∧
        (cyclingEmpty (.held .read)).spacing.isLocal = false ∧
        ((cyclingEmpty (.held (.rack true))).seq .A).state.isHeld = true ∧
        (cyclingEmpty (.held (.rack true))).reaches (desk [0#8]) .release ∧
        (cyclingEmpty (.held (.rack true))).sessions = []) ∧
      (armed.ctl.pair ≠ some (255#8).toNat ∧ armed.acceptsDest 255#8 = true ∧ holdReasonOf 3 = none) := by decide

theorem witness_FaultAndCalibration :
    (let s := cyclingEmpty (.fault ⟨.reading, false, some (ballCycle none)⟩)
     s.room 1 ∧ s.spacing.isLocal = false ∧ s.reaches (desk [0#8]) .clearFault ∧
       (s.seq .A).state = .fault ⟨.reading, false, some (ballCycle none)⟩ ∧ (s.seq .A).pend = none ∧
       s.reaches (desk [2#8]) .clearFault ∧ parse1 (desk [2#8]).args = some 2 ∧ laneOf 2 = none ∧
       (let q := { s.seq .A with pend := some ⟨240, 9, .closeLane⟩ }
        q.state.isFault = true ∧ q.pend ≠ none)) ∧
    (let s := { armed with decks := ⟨{ Deck.lost with rack := .full }, Deck.lost⟩ }
     s.reaches (desk [0#8, 1#8, 15#8]) .calibrate ∧ parseCalibrate (desk [0#8, 1#8, 15#8]).args = some ⟨0, 1, 15⟩ ∧
       (⟨0, 1, 15⟩ : CalArgs).calMode = some (.single 15) ∧ (s.seq .A).state = .armed ∧ s.currentBowler .A = none ∧
       (s.seq .A).holds = .empty ∧ (s.deck .A).rack = .full) ∧ (armed.deck .A).rack ≠ .full := by decide

theorem witness_LaneResets :
    (let s := cycling .setting .active
     s.room 2 ∧ s.spacing.isLocal = false ∧ s.reaches (desk [0#8, 0#8]) .laneReset ∧
       parse2 (desk [0#8, 0#8]).args = some (0, 0) ∧ (s.meter .A).isOpen = true ∧ (s.seq .A).pend = none ∧
       s.inFrame .A = none ∧ (s.deck .A).cal.result ≠ .running ∧
       s.reaches (desk [2#8, 0#8]) .laneReset ∧ parse2 (desk [2#8, 0#8]).args = some (2, 0) ∧ laneOf 2 = none) ∧
    (let s := after (.readDone .A (read [7, 10])) (cycling .reading .active)
     s.room 2 ∧ s.inFrame .A = some 1 ∧ s.reaches (desk [0#8, 1#8]) .laneReset) ∧
    (ready.meter .A).isOpen = false := by decide +kernel

/-- A lane in SPACING with its notice in the slot, on the line and not, and a calibration in flight. -/
theorem witness_LaneResets_withdrawn :
    (∀ s ∈ [waitingNotice false false, waitingNotice true false, calibrating .sweep 2],
      s.room 2 ∧ s.spacing.isLocal = false ∧ s.reaches (desk [0#8, 0#8]) .laneReset ∧ (s.meter .A).isOpen = true ∧
        (s.seq .A).busyButCalibrate = false ∧ s.inFrame .A = none) ∧
    ((waitingNotice false false).seq .A).state = .spacing .reading ∧ (waitingNotice false false).spacing.slot ≠ none ∧
    ((calibrating .sweep 2).deck .A).cal.result = .running ∧
    ((calibrating .sweep 2).seq .A).pend = some ⟨240, 9, .calibrate⟩ := by decide

theorem witness_JamCleared :
    (let s := withReturn (.jammed .stall) 0
     s.room 1 ∧ s.reaches (desk []) .clearJam ∧ s.ret.state = .jammed .stall ∧ s.sessions = [] ∧
       (s.seq .A).state ≠ .held .read ∧ (s.seq .B).state ≠ .held .read) ∧ armed.ret.state = .idle := by decide

theorem witness_SessionStarted :
    armed.room 1 ∧ armed.reaches (desk [0#8, 6#8, 0#8, 99#8, 100#8]) .startSession ∧
      parseStart (desk [0#8, 6#8, 0#8, 99#8, 100#8]).args = some ⟨0, 6, false, 99, 100⟩ ∧
      (armed.meter .A).isOpen = true ∧ armed.occupied .A = false ∧ armed.reserved = none ∧ armed.sessions = [] := by decide

/-- A FORMING session of two with one bowler, crossed or not, and the full one. -/
def forming (cross full : Bool) : State :=
  onA (seqIn .standby) (openMeter .none false 0)
    [{ playing .none with state := .forming, pos := none, current := none, size := if full then 1 else 2, cross := cross }]

theorem witness_SessionFormed :
    (let s := forming false false
     s.room 1 ∧ s.reaches (desk [1#8, 0#8, 255#8, 0#8, 66#8]) .addBowler ∧
       parseBowler (desk [1#8, 0#8, 255#8, 0#8, 66#8]).args = some ⟨1, 255, false, [66#8]⟩ ∧
       (s.session? 1).map (·.state) = some .forming) ∧
    (let s := forming false true
     s.reaches (desk [1#8]) .beginSession ∧ parse1 (desk [1#8]).args = some 1 ∧ (s.seq .A).state ≠ .armed ∧
       (s.session? 1).map (fun x => (x.size ≤ x.bowlers.length, x.cross)) = some (True, false)) ∧
    ((forming true true).session? 1).map ((forming true true).partner? ·) = some none ∧
    (let s := { forming false true with seqs := ⟨seqIn .armed, Sequencer.powerOn⟩ }
     s.reaches (desk [1#8]) .beginSession ∧ (s.seq .A).state = .armed ∧ s.sends 3 ∧
       (s.session? 1).map (fun x => (x.state, x.cross, x.home, x.bowlers.map (·.absent))) =
         some (.forming, false, .A, [false])) ∧
    armed.session? 1 = none ∧ armed.reaches (desk [1#8]) .beginSession := by
  refine ⟨by decide, ⟨by decide, by decide, by decide, ?_⟩, by decide, by decide, by decide, by decide⟩
  simp [forming, playing, onA, State.session?]

theorem witness_BowlersChanged :
    (let s := cycling .setting .active
     s.room 1 ∧ s.reaches (desk [1#8, 1#8, 1#8, 0#8]) .setHandicap ∧
       parseHandicap (desk [1#8, 1#8, 1#8, 0#8]).args = some (1, 1, 256) ∧ s.session? 1 = some (playing .active) ∧
       (playing .active).bowler? 1 = some (bowler false) ∧ s.reaches (desk [1#8, 1#8, 1#8]) .setAbsent ∧
       parse3 (desk [1#8, 1#8, 1#8]).args = some (1, 1, 1) ∧ s.session? 2 = none) ∧
    (let x := { playing .none with bowlers := [bowler true, bowler true], size := 2, current := none }
     let m := desk [1#8, 2#8, 0#8]
     ∀ q ∈ [.setting, .armed],
       let s := { cyclingEmpty q with sessions := [x] }
       s.reaches m .setAbsent ∧ s.room 2 ∧ parse3 m.args = some (1, 2, 0) ∧ x.id = 1 ∧ x.state = .playing ∧
         x.turn = .none ∧ x.bowler? 2 ≠ none ∧ x.pos = some ⟨1, 1, .A⟩ ∧ (∀ b ∈ x.bowlers, b.game.isSome = true) ∧
         (s.meter .A).mode = .none ∧ (Meter.lost).mode = .none ∧
         firstPresent 0 (x.modifyBowler 2 fun b => { b with absent := false }).bowlers < x.bowlers.length) := by
  decide +kernel

/-- A strike in frame 1, the session being in frame 2: the correction that leaves it, one of no ended shape, one of two balls,
an empty frame, the current one and a frame 11. -/
theorem witness_BowlersChanged_correct :
    (let g := (Game.fresh [] 10 1).append 1 (ballResult .A 1 [] 0#10 false false)
     let done := { cycling .setting .active with sessions := [{ playing .active with
       pos := some ⟨1, 2, .A⟩, bowlers := [{ bowler false with game := some g }] }] }
     done.room 1 ∧ done.reaches (desk [1#8, 1#8, 1#8, 10#8]) .correctFrame ∧
       parseCorrect (desk [1#8, 1#8, 1#8, 10#8]).args = some ⟨1, 1, 1, [10]⟩ ∧
       parseCorrect (desk [1#8, 1#8, 11#8, 10#8]).args = some ⟨1, 1, 11, [10]⟩ ∧
       (g.slot 1).map (·.mark) = some .strike ∧ (g.ballsOf 1).map (·.pins) = [10] ∧ (g.slot 2).isNone = true ∧
       done.sessions.map (fun x => (x.state, x.turn, x.current, x.pos.map (·.frame))) = [(.playing, .active, some 1, some 2)] ∧
       endedPins 1 [10] = true ∧ endedPins 1 [9] = false) := by decide +kernel

/-- The boundaries of R61's table in the tenth frame and before it. -/
theorem test_ended_pins :
    ([(9, [10]), (9, [9, 1]), (9, [10, 0]), (10, [10]), (10, [9, 0]), (10, [9, 1]), (10, [10, 10, 10]), (10, [10, 9, 1]),
      (10, [10, 9, 2]), (10, [9, 1, 10]), (10, [9, 0, 1]), (9, [])].map fun c => endedPins c.1 c.2) =
      [true, true, false, false, true, false, true, true, false, true, false, false] := by decide

theorem witness_SessionsEnd :
    (ready.session? 1 = none ∧ ready.reaches (desk [1#8]) .endSession ∧ ready.reaches (desk [1#8]) .discardParked ∧
      ready.reaches (desk [1#8]) .resumeParked) ∧
    (let s := cycling .setting .active
     s.room 1 ∧ parse1 (desk [1#8]).args = some 1 ∧ s.session? 1 = some (playing .active) ∧
       s.reaches (desk [1#8]) .endSession ∧ (∀ y ∈ s.sessions, y.cross = false)) ∧
    (let x := playing .outstanding
     let s := heldFor .credit .game 0 ready.store
     s.reaches (desk [1#8]) .endSession ∧ s.sessions = [x] ∧ x.turn = .outstanding ∧ x.frameLane = some .A ∧
       x.cross = false ∧ (s.seq .A).state ≠ .held .read ∧ s.store.archive.length ≤ s.store.archiveCap ∧
       0 < s.store.archiveCap ∧ 1 ≤ s.store.nextSerial ∧ s.store.nextSerial ≤ 65535) ∧
    (let x := { playing .none with state := .parked, current := none }
     let s := onA (seqIn .standby) (openMeter .none false 0) [x]
     s.session? 1 = some x ∧ s.reaches (desk [1#8]) .discardParked ∧ s.reaches (desk [1#8]) .resumeParked ∧
       (s.meter x.home).isOpen = true ∧ s.occupied .A = false ∧ s.reserved = none ∧
       (({ x with state := .playing } : Session).choose).2 = .chosen ∧ (s.seq .A).state ≠ .armed) := by decide

theorem witness_MoveBegins :
    (let s := cycling .setting .active
     let x := playing .active
     s.room 2 ∧ s.reaches (desk [1#8, 2#8, 0#8, 0#8]) .moveSession ∧
       parseMove (desk [1#8, 2#8, 0#8, 0#8]).args = some ⟨1, 2, 0, false⟩ ∧
       parseMove (desk [1#8, 2#8, 0#8, 1#8]).args = some ⟨1, 2, 0, true⟩ ∧ s.ctl.pair ≠ some 2 ∧
       s.session? 1 = some x ∧ x.cross = false ∧ x.state = .playing ∧ s.transfer.record = .idle ∧ laneOf 0 = some .A ∧
       s.sessions = [x] ∧ x.pos = some ⟨1, 1, .A⟩ ∧ (s.seq .A).state ≠ .held .read ∧
       (x.truncate 1).turn = .active ∧
       ((x.truncate 1).bowler? 1).map (fun b => b.game.map (·.ballsOf 1)) = some (some [])) ∧
    (let s := after (.readDone .A (read [7, 10])) (cycling .reading .active)
     s.room 2 ∧ s.reaches (desk [1#8, 2#8, 0#8, 1#8]) .moveSession ∧
       s.sessions.map (fun x => (x.truncate 1).turn) = [.ended] ∧ s.sessions.map (·.state) = [.playing]) ∧
    (let s := heldFor .journal .game 500 ready.store
     s.room 2 ∧ s.reaches (desk [1#8, 2#8, 0#8, 0#8]) .moveSession ∧ oneTurn s ∧ s.transfer.record = .idle ∧
       (s.seq .A).state ≠ .held .read) ∧
    ready.session? 1 = none := by decide +kernel

theorem witness_LaneOpens :
    ready.room 1 ∧ ready.spacing.isLocal = false ∧ ready.reaches (desk [0#8, 0#8, 0#8, 0#8, 0#8, 0#8, 0#8]) .openLane ∧
      parseOpen (desk [0#8, 0#8, 0#8, 0#8, 0#8, 0#8, 0#8]).args = some ⟨0, 0, false, 0⟩ ∧ billModeOf 0 = some .game ∧
      (ready.meter .A).isOpen = false ∧ (ready.seq .A).state = .standby ∧ ready.tariff.live.bands ≠ [] ∧
      ready.ctl.clock ≠ none ∧ openLanes ready.meters + 2 ≤ ready.store.freeCount := by decide

/-- What LaneCloses asks of a CLOSE_LANE of lane A that is taken. -/
abbrev closable (s : State) (a : List Byte) : Prop :=
  s.room 4 ∧ s.reaches (desk a) .closeLane ∧ (s.meter .A).isOpen = true ∧ (s.seq .A).busyForClose = false ∧
    s.transferHolds .A = false ∧ (s.users .A).length ≤ 2

theorem witness_LaneCloses :
    (∀ s ∈ [armed, cyclingEmpty .setting, cyclingEmpty (.spacing .reading), cyclingEmpty (.spacing .clearing),
        cyclingEmpty (.held .read)], closable s [0#8, 0#8] ∧ s.users .A = [] ∧ s.spacing.isLocal = false) ∧
    closable (cycling .setting .active) [0#8, 1#8] ∧ (cycling .setting .active).users .A = [playing .active] ∧
    closable (heldFor .credit .game 0 ready.store) [0#8, 1#8] ∧
    (heldFor .credit .game 0 ready.store).users .A = [playing .outstanding] ∧
    parse2 (desk [0#8, 0#8]).args = some (0, 0) ∧ parse2 (desk [0#8, 1#8]).args = some (0, 1) ∧
    ready.reaches (desk [2#8, 0#8]) .closeLane ∧ parse2 (desk [2#8, 0#8]).args = some (2, 0) := by
  decide

/-- A CLOSE_LANE over an OPEN_LANE, over a calibration that reads and over one that waits, and over a crossed pair whose turn
on the other lane is OUTSTANDING. -/
theorem witness_LaneCloses_displaced :
    (let busy := fun (s : State) (q : SeqState) (r : DeferredReq) =>
       { s with seqs := s.seqs.set .A { s.seq .A with state := q, pend := some ⟨240, 8, r⟩ } }
     (∀ s ∈ [busy (cyclingEmpty .clearing) .clearing (.openLane 0), busy (calibrating .sweep 2) .calibrating .calibrate,
         busy { calibrating .sweep 0 with spacing := { ready.spacing with
           waiting := [freshRequest .A .calibrating], slot := some (freshRequest .A .calibrating).notice } }
           (.spacing .calibrating) .calibrate],
       closable s [0#8, 0#8] ∧ s.spacing.isLocal = false) ∧ ((calibrating .sweep 0).deck .A).cal.result = .running) ∧
    (let x := crossed 1 .A .playing 2 .outstanding
     let y := crossed 2 .B .playing 2 .active
     let s := lanesWith .setting [x, y]
     closable s [0#8, 1#8] ∧ s.users .A = s.sessions ∧ x.turn = .outstanding ∧ x.frameLane = some .B ∧
       (s.seq .B).state ≠ .held .read) := by decide

/-- A closing rounding, at both sides of its limit, and one that takes the balance below the level. -/
theorem witness_LaneCloses_rounding :
    (∀ r ∈ [1799, 1800], closable (onA (seqIn .armed) { openMeter .time true 0 with residue := r, roundBand := some 1 } [])
      [0#8, 0#8]) ∧
    (let m := { openMeter .time true 500 with residue := 1800, roundBand := some 1 }
     closable (onA (seqIn .armed) m []) [0#8, 0#8] ∧ ((ready.ctl.setup.low : Nat) : Int) ≤ m.balance ∧
       m.round.balance < ready.ctl.setup.low) := by
  decide

theorem witness_CreditAndRelease :
    (let s := onA (seqIn .armed) (openMeter .game true 1999999) []
     s.room 3 ∧ s.reaches (desk [0#8, 0#8, 0#8, 2#8]) .addCredit ∧ parseCredit (desk [0#8, 0#8, 0#8, 2#8]).args = some (0, 2) ∧
       (s.meter .A).isOpen = true ∧ (s.meter .A).prepaid = true ∧ openLanes s.meters + 1 ≤ s.store.freeCount ∧
       (s.meter .A).wait = none) ∧
    (let s := after (.addCredit (desk [0#8, 0#8, 0#8, 2#8])) (onA (seqIn .armed) (openMeter .game true 0) [])
     s.room 3 ∧ s.reaches (desk [0#8, 0#8, 0#8, 1#8]) .releaseJournal ∧ parseSeq (desk [0#8, 0#8, 0#8, 1#8]).args = some 1 ∧
       (s.meter .A).wait = none ∧ (s.meter .B).wait = none ∧ s.store.journal.map (·.seq) = [1]) ∧
    ready.store.journal = [] := by decide +kernel

/-- A credit of 2: the balance reaches the charge of the wait, or does not. A turn start that follows finds its own charge, 425. -/
theorem witness_CreditAndRelease_credit :
    ∀ b ∈ [(498 : Int), 497],
      (let s := heldFor .credit .game b ready.store
       let m := desk [0#8, 0#8, 0#8, 2#8]
       s.room 3 ∧ s.reaches m .addCredit ∧ parseCredit m.args = some (0, 2) ∧ laneOf 0 = some .A ∧
         (s.meter .A).isOpen = true ∧ (s.meter .A).prepaid = true ∧ openLanes s.meters + 1 ≤ s.store.freeCount ∧
         (s.meter .A).wait = some ⟨.credit, 1, 1, 1, 1, 15, some (500, 1)⟩ ∧ (s.meter .A).mode = .game ∧
         (s.meter .A).balance = b ∧ (s.seq .A).state ≠ .held .read ∧ oneTurn s ∧
         ((s.seq .A).letGo { (s.seq .A).holds with credit := false }).state = .armed) := by decide +kernel

/-- A full journal: a release of two entries gives the lane its room, one of a single entry does not. -/
theorem witness_CreditAndRelease_release :
    (let entries := (List.range 64).map fun n => (⟨n + 1, .A, none, .opening .none false none⟩ : JournalEntry)
     let s := heldFor .journal .game 500 { ready.store with share := 8, journal := entries, lastSeq := 64 }
     let m := fun q : Byte => desk [0#8, 0#8, 0#8, q]
     s.room 3 ∧ (∀ q ∈ [1#8, 2#8], s.reaches (m q) .releaseJournal ∧ parseSeq (m q).args = some q.toNat) ∧
       (s.meter .A).wait.map (·.reason) = some .journal ∧ (s.meter .B).wait = none ∧
       (entries.map (·.seq)).Pairwise (· < ·) ∧ openLanes s.meters = 1 ∧
       (let free := fun q => ({ s.store with journal := entries.filter fun e => decide (q < e.seq) } : Store).freeCount
        (free 1, free 2) = (1, 2)) ∧
       (s.seq .A).state ≠ .held .read ∧ oneTurn s ∧
       ((s.seq .A).letGo { (s.seq .A).holds with journal := false }).state = .armed) := by decide +kernel

/-- Both lanes held for the journal, which a release of three entries brings to one free entry beyond the two of the open
lanes. -/
theorem witness_CreditAndRelease_both :
    (let entries := (List.range 64).map fun n => (⟨n + 1, .A, none, .opening .none false none⟩ : JournalEntry)
     let one := heldFor .journal .game 500 { ready.store with share := 8, journal := entries, lastSeq := 64 }
     let y := { playing .outstanding with id := 2, home := .B, pos := some ⟨1, 1, .B⟩ }
     let s := { one with
       seqs := ⟨one.seq .A, one.seq .A⟩, meters := ⟨one.meter .A, one.meter .A⟩, sessions := [playing .outstanding, y] }
     let m := desk [0#8, 0#8, 0#8, 3#8]
     s.sends 5 ∧ s.reaches m .releaseJournal ∧ parseSeq m.args = some 3 ∧
       (∀ l ∈ [LaneId.A, .B], (s.meter l).wait.map (·.reason) = some .journal ∧ (s.seq l).state ≠ .held .read) ∧
       openLanes s.meters = 2 ∧ ({ s.store with journal := entries.filter fun e => decide (3 < e.seq) } : Store).freeCount = 3 ∧
       (s.sessions.map (·.id)).Nodup ∧ (playing .outstanding).frameLane = some .A ∧ y.frameLane = some .B) := by
  decide +kernel

theorem witness_TariffsCommitted :
    ready.room 1 ∧ ready.reaches (desk [4#8, 5#8, 159#8]) .tariffCommit ∧
      parseCommit (desk [4#8, 5#8, 159#8]).args = some (4, 1439) ∧ ready.tariff.staged.take 4 = bands.map some ∧
      (∀ b ∈ bands, 1 ≤ b.limit ∧ b.limit ≤ 1440) ∧ ready.tariff.staged.take 5 ≠ bands.map some ∧
      ready.tariff.live.dayStart = some 600 ∧ ready.tariff.live.bands = bands := by decide

theorem witness_ReportsAnswered :
    (let s := cycling .setting .active
     s.room 1 ∧ s.reaches (desk [0#8]) .laneStatus ∧ s.reaches (desk [6#8]) .stationStatus ∧
       s.reaches (desk [1#8, 0#8, 1#8]) .session ∧ s.namedSession 1 0 = some (playing .active) ∧
       s.reaches (desk [1#8, 1#8, 0#8]) .game ∧ s.session? 1 = some (playing .active) ∧
       s.reaches (desk [0#8, 4#8]) .calibration ∧ s.reaches (desk [0#8, 0#8, 0#8, 1#8, 0#8]) .journal ∧
       parseJournal (desk [0#8, 0#8, 0#8, 1#8, 0#8]).args = some (1, 0, 0) ∧ s.reaches (desk [0#8, 0#8]) .archive ∧
       s.store.archive.length ≤ 0 ∧ s.reaches (desk []) .resetCause) := by decide

/-- Which parts there are: of STATION_STATUS and CALIBRATION; of a session of one bowler; of a game of six balls; of a CLOSE
entry with four items, by part and first item; of an archived game of twelve balls. -/
theorem witness_ReportsAnswered_parts :
    let s := cycling .setting .active
    let ball := fun n => ballResult .A n [] (leave [7, 10]) false false
    let g := { Game.fresh [65#8] 0 1 with frames := (List.range 6).map fun n => some ⟨[ball n], .incomplete, none, none⟩ }
    let items : List Subtotal := [⟨0, 1, 1⟩, ⟨1, 1, 1⟩, ⟨2, 1, 1⟩, ⟨3, 1, 1⟩]
    let e : JournalEntry := ⟨1, .A, none, .closing .request 4 none 0 (some items)⟩
    let a : ArchivedGame := ⟨1, 1, [], 0, 1, false, false, none, none, .A, none, List.replicate 12 ⟨1, 1, 0, false, false, false,
      false, false, .A⟩⟩
    (List.range 8).map (fun k => (stationView s k).isSome) = [true, true, true, true, true, true, true, false] ∧
      (List.range 6).map (fun k => (calibrationView Deck.lost k).isSome) = [true, true, true, true, true, false] ∧
      (List.range 3).map (fun k => (sessionView s (playing .active) k).isSome) = [true, true, false] ∧
      (List.range 5).map (fun k => (gameView 1 1 g k).isSome) = [true, true, true, true, false] ∧
      [(0, 9), (1, 0), (1, 3), (1, 4), (2, 0)].map (fun p => (journalView s.store e p.1 p.2).isSome) =
        [true, true, true, false, false] ∧
      (List.range 3).map (fun k => (archiveView s.store a k).isSome) = [true, true, false] := by decide +kernel

theorem witness_EntriesAndFrames : (0 : Nat) < 10 ∧ (9 : Nat) < 10 ∧ 1 ≤ 9 ∧ 9 < 10 ∧
    (∃ m2 : SpotMap, (ballResult .A 10 [ballResult .A 10 [] (leave [7, 10]) false false] m2 false false).pins = 2) :=
  ⟨by decide, by decide, by decide, by decide, noSpots, by decide +kernel⟩

theorem witness_LayoutsRoundTrip :
    setupSound Setup.builtIn ∧ (List.replicate 10 (none : Option Nat)).length = 10 ∧
      (bowler false).name.length ≤ 12 ∧ ∀ b ∈ (bowler false).name, b ≠ 0#8 := by
  refine ⟨?_, by decide, by decide, by decide⟩
  unfold setupSound
  decide

end Sys2Proof.Tests
end

section
/-! SUPPORT. Spot maps read spot by spot: what `onSpot` says of a map that is built, and how many spots two maps share. -/

namespace Sys2Proof.Machine

/-! ## Membership -/

@[simp] theorem onSpot_and (a b : SpotMap) (i : Nat) : onSpot (a &&& b) i = (onSpot a i && onSpot b i) := by
  simp [onSpot]

@[simp] theorem onSpot_not (m : SpotMap) (i : Nat) : onSpot (~~~m) i = (decide (i < 10) && !onSpot m i) := by
  simp [onSpot]

@[simp] theorem onSpot_noSpots (i : Nat) : onSpot noSpots i = false := by simp [onSpot]

@[simp] theorem fullRack_and (m : SpotMap) : fullRack &&& m = m := BitVec.allOnes_and

@[simp] theorem and_fullRack (m : SpotMap) : m &&& fullRack = m := BitVec.and_allOnes

/-- A map with a spot is not the empty one. -/
theorem ne_noSpots_iff (m : SpotMap) : m ≠ noSpots ↔ ∃ i < 10, onSpot m i = true := by
  constructor
  · intro h
    by_contra hn
    refine h (BitVec.eq_of_getLsbD_eq fun i hi => ?_)
    simpa [onSpot] using fun hm => hn ⟨i, hi, hm⟩
  · rintro ⟨i, -, hi⟩ rfl
    simp at hi

/-! ## Counting -/

theorem foldl_add_toNat (p : Nat → Bool) (is : List Nat) (n : Nat) :
    is.foldl (fun k i => k + (p i).toNat) n = n + (is.filter p).length := by
  induction is generalizing n with
  | nil => simp
  | cons i is ih => cases h : p i <;> simp [ih, h, Nat.add_assoc, Nat.add_comm 1]

theorem spotCount_eq (m : SpotMap) : spotCount m = ((List.range 10).filter (onSpot m)).length := by
  rw [spotCount, foldl_add_toNat, Nat.zero_add]

theorem spotCount_le (m : SpotMap) : spotCount m ≤ 10 := by
  rw [spotCount_eq]
  simpa using List.length_filter_le (onSpot m) (List.range 10)

theorem spotCount_fullRack : spotCount fullRack = 10 := rfl

theorem spotCount_eq_zero (m : SpotMap) : spotCount m = 0 ↔ m = noSpots := by
  constructor
  · intro h
    by_contra hm
    obtain ⟨i, hi, hon⟩ := (ne_noSpots_iff m).1 hm
    rw [spotCount_eq, List.length_eq_zero_iff, List.filter_eq_nil_iff] at h
    exact h i (List.mem_range.2 hi) hon
  · rintro rfl
    rfl

/-- The pins of a rack that a read finds standing and the felled ones make up the rack. -/
theorem spotCount_felled_add (rack map : SpotMap) :
    spotCount (rack &&& ~~~map) + spotCount (rack &&& map) = spotCount rack := by
  have split : ∀ is : List Nat, (∀ i ∈ is, i < 10) →
      (is.filter (onSpot (rack &&& ~~~map))).length + (is.filter (onSpot (rack &&& map))).length =
        (is.filter (onSpot rack)).length := by
    intro is
    induction is with
    | nil => simp
    | cons i is ih =>
      intro h
      have hi : i < 10 := h i (by simp)
      have ih := ih fun j hj => h j (by simp [hj])
      cases hr : onSpot rack i <;> cases hm : onSpot map i <;>
        simp only [List.filter_cons, onSpot_and, onSpot_not, hr, hm, hi, decide_true, Bool.not_true, Bool.not_false,
          Bool.and_true, Bool.and_false, Bool.false_eq_true, if_true, if_false, List.length_cons] <;> omega
  simp only [spotCount_eq]
  exact split _ fun i => List.mem_range.1

/-! ## Maps of a test -/

/-- The number `spotsWhere` makes a map of: its bit i is the test at i. -/
def bitSum (f : Nat → Bool) (k : Nat) : Nat := (List.range k).foldl (fun n i => n + (f i).toNat * 2 ^ i) 0

theorem bitSum_succ (f : Nat → Bool) (k : Nat) : bitSum f (k + 1) = bitSum f k + (f k).toNat * 2 ^ k := by
  simp [bitSum, List.range_succ]

theorem bitSum_lt (f : Nat → Bool) (k : Nat) : bitSum f k < 2 ^ k := by
  induction k with
  | zero => simp [bitSum]
  | succ k ih =>
    have : (f k).toNat * 2 ^ k ≤ 1 * 2 ^ k := Nat.mul_le_mul_right _ (Bool.toNat_le _)
    rw [bitSum_succ, Nat.pow_succ]
    omega

theorem testBit_bitSum (f : Nat → Bool) (k j : Nat) : (bitSum f k).testBit j = (decide (j < k) && f j) := by
  induction k with
  | zero => simp [bitSum]
  | succ k ih =>
    rw [bitSum_succ, Nat.add_comm, Nat.mul_comm, Nat.testBit_two_pow_mul_add _ (bitSum_lt f k), ih]
    rw [Nat.testBit_bool_toNat]
    obtain h | rfl | h := Nat.lt_trichotomy j k
    · simp [h, Nat.lt_succ_of_lt h]
    · simp
    · have h0 : ¬ j < k := by omega
      have h1 : ¬ j < k + 1 := by omega
      have h2 : j - k ≠ 0 := by omega
      simp [h0, h1, h2]

theorem spotsWhere_eq (f : Nat → Bool) : spotsWhere f = BitVec.ofNat 10 (bitSum f 10) := rfl

@[simp] theorem onSpot_spotsWhere (f : Nat → Bool) (i : Nat) : onSpot (spotsWhere f) i = (decide (i < 10) && f i) := by
  rw [spotsWhere_eq, onSpot, BitVec.getLsbD_ofNat, testBit_bitSum]
  cases decide (i < 10) <;> simp

end Sys2Proof.Machine
end

section
/-! SUPPORT. Ball results and the frames they make (R44 to R54), and the statement about them. A ball at the full rack decides
what the next ball faces; everything the rules say of a frame's two racks follows from that ball's pinfall. -/

namespace Sys2Proof.Machine

/-! ## Ball results -/

section
variable (l : LaneId) (f : Nat) (bs : List BallEntry) (m : SpotMap) (e u : Bool)

@[simp] theorem ballResult_before : (ballResult l f bs m e u).before = some (nextRack f bs) := rfl

@[simp] theorem nextRack_nil : nextRack f [] = fullRack := rfl

theorem ballResult_pins :
    (ballResult l f bs m e u).pins = if u then 0 else spotCount (nextRack f bs &&& ~~~m) := rfl

/-- The pinfall counts the spots of the rack that the read finds down (R45). -/
theorem ballResult_pins_filter :
    (ballResult l f bs m e u).pins =
      if u then 0 else ((List.range 10).filter fun n => onSpot (nextRack f bs) n && !onSpot m n).length := by
  rw [ballResult_pins, spotCount_eq]
  congr 2
  refine List.filter_congr fun n hn => ?_
  simp [List.mem_range.1 hn]

theorem ballResult_estimated :
    (ballResult l f bs m e u).estimated = true ↔
      e = true ∨ ∃ n < 10, onSpot m n = true ∧ onSpot (nextRack f bs) n = false := by
  have off : (m &&& ~~~nextRack f bs) ≠ noSpots ↔
      ∃ n < 10, onSpot m n = true ∧ onSpot (nextRack f bs) n = false := by
    rw [ne_noSpots_iff]
    refine exists_congr fun n => and_congr_right fun hn => ?_
    simp [hn]
  rw [← off]
  simp [ballResult]

/-- No ball fells more than the pins it faces. -/
theorem ballResult_pins_le : (ballResult l f bs m e u).pins ≤ spotCount (nextRack f bs) := by
  have := spotCount_felled_add (nextRack f bs) m
  rw [ballResult_pins]
  split <;> omega

theorem ballResult_pins_le_ten : (ballResult l f bs m e u).pins ≤ 10 :=
  (ballResult_pins_le l f bs m e u).trans (spotCount_le _)

end

/-! ## A ball at the full rack -/

/-- A ball bowled at the full rack that left the spots of m, as a foul or not: what the racks, marks and kinds after it
depend on. -/
structure AtFullRack (b : BallEntry) (m : SpotMap) (u : Bool) : Prop where
  before : b.before = some fullRack
  after : b.after = some m
  foul : b.foul = u
  pins : b.pins = if u then 0 else 10 - spotCount m

theorem ballResult_atFullRack {f : Nat} {bs : List BallEntry} (h : nextRack f bs = fullRack) (l : LaneId) (m : SpotMap)
    (e u : Bool) : AtFullRack (ballResult l f bs m e u) m u where
  before := by rw [ballResult_before, h]
  after := rfl
  foul := rfl
  pins := by
    have : spotCount (fullRack &&& ~~~m) + spotCount m = 10 := by
      simpa only [fullRack_and, spotCount_fullRack] using spotCount_felled_add fullRack m
    rw [ballResult_pins, h]
    split <;> omega

section
variable {b : BallEntry} {m : SpotMap} {u : Bool} (h : AtFullRack b m u)
include h

/-- All ten pins fall exactly when the ball is no foul and leaves no pin (R49). -/
theorem AtFullRack.pins_ten : b.pins = 10 ↔ u = false ∧ m = noSpots := by
  have := spotCount_le m
  rw [h.pins, ← spotCount_eq_zero]
  cases u
  · simp; omega
  · simp

theorem AtFullRack.isStrike : b.isStrike = decide (u = false ∧ m = noSpots) := by
  rw [Bool.eq_iff_iff, BallEntry.isStrike, Bool.and_eq_true, beq_iff_eq, h.pins_ten, h.foul]
  simp

/-- It and the next ball, at what it left, fell ten pins at most, unless it fells them all. -/
theorem AtFullRack.pins_add_le (hs : ¬ (u = false ∧ m = noSpots)) {f : Nat} {bs : List BallEntry}
    (hn : nextRack f bs = if u = true then fullRack else m) (l : LaneId) (m' : SpotMap) (e' u' : Bool) :
    b.pins + (ballResult l f bs m' e' u').pins ≤ 10 := by
  have hm := spotCount_le m
  have hle := ballResult_pins_le l f bs m' e' u'
  rw [hn] at hle
  rw [h.pins]
  cases u <;> simp [spotCount_fullRack] at hle ⊢ <;> omega

/-- The rack after it (R44). -/
theorem AtFullRack.nextRack_eq (f : Nat) {bs : List BallEntry} (hl : bs.getLast? = some b) :
    nextRack f bs = if freshNext f bs = true ∨ u = true then fullRack else m := by
  cases u <;> cases hf : freshNext f bs <;> simp [nextRack, hl, hf, h.foul, h.before, h.after]

/-- The cycle kind after it (R54). -/
theorem AtFullRack.cycleKind_eq (f : Nat) {bs : List BallEntry} (hl : bs.getLast? = some b) :
    cycleKind f bs =
      if frameEnded f bs = true ∨ freshNext f bs = true ∨ u = true then CycleKind.full else .respot m := by
  simp [cycleKind, hl, h.foul, h.before, h.after, or_assoc]

end

/-! ## Ends of frames -/

theorem frameEnded_iff (f : Nat) (bs : List BallEntry) : frameEnded f bs = true ↔ markOf f bs ≠ .incomplete := by
  simp [frameEnded]

/-- A frame that has ended is followed by a full cycle (R54). -/
theorem cycleKind_ended {f : Nat} {bs : List BallEntry} (h : markOf f bs ≠ .incomplete) : cycleKind f bs = .full := by
  unfold cycleKind
  rw [(frameEnded_iff f bs).2 h]
  split <;> simp

/-- So is a ball that brings a fresh rack. -/
theorem cycleKind_fresh {f : Nat} {bs : List BallEntry} (h : freshNext f bs = true) : cycleKind f bs = .full := by
  unfold cycleKind
  rw [h]
  split <;> simp

/-! ## The balls of a frame (R44, R49, R50, R54) -/

section
variable {b1 b2 : BallEntry} {m1 m2 : SpotMap} {u1 u2 : Bool} (h1 : AtFullRack b1 m1 u1)
include h1

theorem AtFullRack.nextRack_one (f : Nat) (hs : ¬ (u1 = false ∧ m1 = noSpots)) :
    nextRack f [b1] = if u1 = true then fullRack else m1 := by
  simp [h1.nextRack_eq f (bs := [b1]) rfl, freshNext, h1.isStrike, hs]

theorem AtFullRack.nextRack_tenth_strike (hs : u1 = false ∧ m1 = noSpots) : nextRack 10 [b1] = fullRack := by
  simp [h1.nextRack_eq 10 (bs := [b1]) rfl, freshNext, h1.isStrike, hs]

theorem AtFullRack.markOf_one {f : Nat} (hf : f < 10) :
    markOf f [b1] = if u1 = false ∧ m1 = noSpots then .strike else .incomplete := by
  simp [markOf, hf, h1.isStrike]

/-- A strike ends frames 1 to 9 and brings a fresh rack in the tenth: the kind is the same. -/
theorem AtFullRack.cycleKind_one {f : Nat} (hf : f ≤ 10) :
    cycleKind f [b1] = if u1 = false ∧ m1 = noSpots then .full else if u1 = true then .full else .respot m1 := by
  by_cases hs : u1 = false ∧ m1 = noSpots
  · rw [if_pos hs]
    obtain hf | rfl := Nat.lt_or_eq_of_le hf
    · exact cycleKind_ended (by simp [h1.markOf_one hf, hs])
    · exact cycleKind_fresh (by simp [freshNext, h1.isStrike, hs])
  · rw [if_neg hs, h1.cycleKind_eq f (bs := [b1]) rfl]
    simp [frameEnded, markOf, freshNext, h1.isStrike, hs]

/-- The tenth after two balls: it goes on after a strike or a spare. -/
theorem AtFullRack.markOf_tenth_two :
    markOf 10 [b1, b2] = if (u1 = false ∧ m1 = noSpots) ∨ b1.pins + b2.pins = 10 then .incomplete else .opened := by
  simp [markOf, h1.isStrike]

theorem AtFullRack.markOf_tenth_three {b3 : BallEntry} (hm : (u1 = false ∧ m1 = noSpots) ∨ b1.pins + b2.pins = 10) :
    markOf 10 [b1, b2, b3] = if u1 = false ∧ m1 = noSpots then .strike else .spare := by
  by_cases hs : u1 = false ∧ m1 = noSpots
  · simp [markOf, h1.isStrike, hs]
  · simp [markOf, h1.isStrike, hs, hm.resolve_left hs]

/-- The tenth without a strike on ball 1: a spare brings a fresh rack, anything else ends it. -/
theorem AtFullRack.freshNext_tenth_two (hs : ¬ (u1 = false ∧ m1 = noSpots)) :
    freshNext 10 [b1, b2] = (b1.pins + b2.pins == 10) := by
  simp [freshNext, h1.isStrike, hs]

theorem AtFullRack.cycleKind_tenth_two (hs : ¬ (u1 = false ∧ m1 = noSpots)) : cycleKind 10 [b1, b2] = .full := by
  by_cases hsum : b1.pins + b2.pins = 10
  · exact cycleKind_fresh (by simp [h1.freshNext_tenth_two hs, hsum])
  · exact cycleKind_ended (by simp [h1.markOf_tenth_two, hs, hsum])

/-- The rack after a spare in the tenth: its second ball was no foul, or the first would have felled ten. -/
theorem AtFullRack.nextRack_tenth_spare (hs : ¬ (u1 = false ∧ m1 = noSpots)) (hu : b2.foul = true → b2.pins = 0)
    (hsum : b1.pins + b2.pins = 10) : nextRack 10 [b1, b2] = fullRack := by
  have hfoul : b2.foul = false := by
    by_contra hn
    have := hu (by simpa using hn)
    exact hs (h1.pins_ten.1 (by omega))
  simp [nextRack, hfoul, h1.freshNext_tenth_two hs, hsum]

theorem AtFullRack.freshNext_tenth_strike (hs : u1 = false ∧ m1 = noSpots) (h2 : AtFullRack b2 m2 u2) :
    freshNext 10 [b1, b2] = decide (u2 = false ∧ m2 = noSpots) := by
  simp [freshNext, h1.isStrike, h2.isStrike, hs]

theorem AtFullRack.nextRack_tenth_two (hs : u1 = false ∧ m1 = noSpots) (h2 : AtFullRack b2 m2 u2) :
    nextRack 10 [b1, b2] = if (u2 = false ∧ m2 = noSpots) ∨ u2 = true then fullRack else m2 := by
  rw [h2.nextRack_eq 10 (bs := [b1, b2]) rfl, h1.freshNext_tenth_strike hs h2]
  simp

theorem AtFullRack.cycleKind_tenth_strike (hs : u1 = false ∧ m1 = noSpots) (h2 : AtFullRack b2 m2 u2) :
    cycleKind 10 [b1, b2] =
      if u2 = false ∧ m2 = noSpots then .full else if u2 = true then .full else .respot m2 := by
  have hm : frameEnded 10 [b1, b2] = false := by simp [frameEnded, h1.markOf_tenth_two, hs]
  rw [h2.cycleKind_eq 10 (bs := [b1, b2]) rfl, h1.freshNext_tenth_strike hs h2, hm]
  by_cases h : u2 = false ∧ m2 = noSpots <;> simp [h]

end

/-- Frames 1 to 9 end with their second ball (R49). -/
theorem markOf_two {f : Nat} (hf : f < 10) (b1 b2 : BallEntry) :
    markOf f [b1, b2] = if b1.pins + b2.pins = 10 then .spare else .opened := by
  simp [markOf, hf]

/-! ## The statement -/

theorem onSpot_standing (d : Deck) (levels : List Nat) {n : Nat} (hn : n < 10) :
    onSpot (d.standing levels) n = true ↔
      onSpot d.unreadable n = false ∧ d.thresholds.getD n 0 ≤ levels.getD n 0 := by
  simp [Deck.standing, hn, levelAt]

theorem ballResult_foul_pins (l : LaneId) (f : Nat) (bs : List BallEntry) (m : SpotMap) (e u : Bool) :
    (ballResult l f bs m e u).foul = true → (ballResult l f bs m e u).pins = 0 := by
  rintro rfl
  rfl

/-- Settles O14. The reads speak spot by spot. In a frame ball 1 is a ball at the full rack, and so is ball 2 of the tenth
after a strike; what such a ball leaves decides the next rack, the mark and the kind. -/
theorem entriesAndFrames : Obligations.EntriesAndFrames := by
  refine ⟨fun d levels n hn => onSpot_standing d levels hn, ?_, frameEnded_iff, ?_⟩
  · intro l f bs map est foul e rack
    exact ⟨rfl, rfl, rfl, rfl, rfl, rfl, rfl, rfl, by rintro rfl; rfl, ballResult_pins_filter l f bs map est foul,
      ballResult_estimated l f bs map est foul⟩
  · intro l f m1 m2 m3 e1 e2 e3 u1 u2 u3 b1 b2 b3 strike1 strike2 sum after1 after2
    have h1 : AtFullRack b1 m1 u1 := ballResult_atFullRack (nextRack_nil f) l m1 e1 u1
    have rack2 (hs : ¬ strike1) : nextRack f [b1] = if u1 = true then fullRack else m1 := h1.nextRack_one f hs
    refine ⟨h1.pins_ten.2, ballResult_pins_le_ten .., ballResult_pins_le_ten .., ballResult_pins_le_ten ..,
      fun hs => h1.pins_add_le hs (rack2 hs) l m2 e2 u2, rfl, fun hs => congrArg some (rack2 hs), ?_, ?_⟩
    · intro _ hf
      refine ⟨h1.markOf_one hf, h1.cycleKind_one hf.le, fun _ => ⟨markOf_two hf b1 b2, cycleKind_ended ?_⟩⟩
      rw [markOf_two hf]
      split <;> simp
    · rintro rfl
      refine ⟨rfl, h1.cycleKind_one le_rfl, fun hs => ?_, fun hs => ?_, fun hm => ?_⟩
      · have rack2 : nextRack 10 [b1] = fullRack := h1.nextRack_tenth_strike hs
        have h2 : AtFullRack b2 m2 u2 := ballResult_atFullRack rack2 l m2 e2 u2
        have rack3 := h1.nextRack_tenth_two hs h2
        refine ⟨h2.before, h1.markOf_tenth_two.trans (if_pos (.inl hs)), h1.cycleKind_tenth_strike hs h2,
          congrArg some rack3, fun hs2 => h2.pins_add_le hs2 (rack3.trans ?_) l m3 e3 u3⟩
        simp only [show ¬ (u2 = false ∧ m2 = noSpots) from hs2, false_or]
      · refine ⟨h1.cycleKind_tenth_two hs, ?_, fun hsum => congrArg some
          (h1.nextRack_tenth_spare hs (ballResult_foul_pins l 10 [b1] m2 e2 u2) hsum)⟩
        rw [h1.markOf_tenth_two]
        simp only [show ¬ (u1 = false ∧ m1 = noSpots) from hs, false_or]
        rfl
      · have hmark := h1.markOf_tenth_three (b3 := b3) hm
        refine ⟨hmark, cycleKind_ended ?_⟩
        rw [hmark]
        split <;> simp

end Sys2Proof.Machine
end

section
/-! SUPPORT. The state after reset: nothing is stored, both lanes are closed, no session and no transfer stands. -/

namespace Sys2Proof.Machine

/-- A meter with nothing on it. -/
theorem meterSound_lost : meterSound Meter.lost := by simp [meterSound, Meter.lost]

theorem journalSound_lost : journalSound Store.lost := by simp [journalSound, Store.lost]

theorem setupSound_builtIn : setupSound Setup.builtIn := by simp [setupSound, Setup.builtIn]

theorem queueSound_reset : queueSound State.reset.link.queue := by simp [queueSound, State.reset]

theorem moneySound_reset : moneySound State.reset :=
  ⟨meterSound_lost, meterSound_lost, journalSound_lost, setupSound_builtIn, by decide⟩

theorem listsSound_reset : listsSound State.reset := by
  refine ⟨?_, ?_, ?_, ?_, ?_, ?_, ?_, setupSound_builtIn⟩ <;> simp [State.reset, Spacing.reset, Return.powerOn, Store.lost]

theorem numbersSound_reset : numbersSound State.reset := by
  simp [numbersSound, State.reset, Config.resetStrap, Store.lost]

theorem tableSound_reset : tableSound State.reset := by
  simp [tableSound, State.reset, State.tableCount, State.reserved]

theorem pairsSound_reset : pairsSound State.reset :=
  ⟨tableSound_reset, by simp [State.reset], by simp [State.reset], by simp [State.reset]⟩

theorem gamesSound_reset : gamesSound State.reset := by simp [gamesSound, State.reset]

/-- Settles O4: each invariant holds of what its blocks are after a reset. -/
theorem resetSound : Obligations.ResetSound :=
  ⟨rfl, queueSound_reset, moneySound_reset, listsSound_reset, numbersSound_reset, tableSound_reset, pairsSound_reset,
    gamesSound_reset⟩

end Sys2Proof.Machine
end

section
/-! SUPPORT. Calibration reads (R33 to R36), and the statement about them. A read is counted; the fourth read of a step settles
it; lists by spot are written as maps over the ten indices, so that a spot's part in each step is read off at its index. -/

namespace Sys2Proof.Machine

/-! ## Lists by spot -/

/-- The ten spots' values as a list, spot 1 first. -/
def bySpot {α : Type} (g : Nat → α) : List α := (List.range 10).map g

section
variable {α β γ : Type}

@[simp] theorem bySpot_getElem? (g : Nat → α) {i : Nat} (hi : i < 10) : (bySpot g)[i]? = some (g i) := by
  simp [bySpot, hi]

@[simp] theorem bySpot_getD (g : Nat → α) {i : Nat} (hi : i < 10) (a : α) : (bySpot g).getD i a = g i := by
  simp [List.getD_eq_getElem?_getD, hi]

@[simp] theorem map_bySpot (f : α → β) (g : Nat → α) : (bySpot g).map f = bySpot fun n => f (g n) := by
  simp [bySpot]

theorem bySpot_congr {g h : Nat → α} (e : ∀ i < 10, g i = h i) : bySpot g = bySpot h :=
  List.map_congr_left fun i hi => e i (List.mem_range.1 hi)

theorem eq_bySpot {xs : List α} (h : xs.length = 10) (a : α) : xs = bySpot fun n => xs.getD n a := by
  refine List.ext_getElem (by simp [bySpot, h]) fun i hi _ => ?_
  simp [bySpot, hi]

@[simp] theorem zipWith_bySpot (f : α → β → γ) (g : Nat → α) (h : Nat → β) :
    List.zipWith f (bySpot g) (bySpot h) = bySpot fun n => f (g n) (h n) := by
  simp [bySpot, List.zipWith_map_left, List.zipWith_map_right, List.zipWith_self]

theorem map_eq_bySpot {xs : List α} (h : xs.length = 10) (f : α → β) (a : α) :
    xs.map f = bySpot fun n => f (xs.getD n a) := by
  rw [← map_bySpot, ← eq_bySpot h]

theorem zipWith_eq_bySpot {xs : List α} {ys : List β} (hx : xs.length = 10) (hy : ys.length = 10) (f : α → β → γ) (a : α)
    (b : β) : List.zipWith f xs ys = bySpot fun n => f (xs.getD n a) (ys.getD n b) := by
  rw [← zipWith_bySpot, ← eq_bySpot hx, ← eq_bySpot hy]

theorem bySpot_length (g : Nat → α) : (bySpot g).length = 10 := by simp [bySpot]

theorem all_bySpot (p : α → Bool) (g : Nat → α) : (bySpot g).all p = true ↔ ∀ n < 10, p (g n) = true := by
  simp [bySpot]

theorem filter_bySpot_length (p : α → Bool) (g : Nat → α) :
    ((bySpot g).filter p).length = ((List.range 10).filter fun n => p (g n)).length := by
  simp [bySpot, List.filter_map, Function.comp_def]

end

/-! ## Counting a step's reads (R33) -/

/-- How many of the reads miss a spot at step k. -/
def missedIn (k : Nat) (reads : List (List Nat)) (n : Nat) : Nat :=
  (reads.filter fun r => decide (r.getD n 0 < 4 * k)).length

theorem missedIn_cons (k : Nat) (r : List Nat) (reads : List (List Nat)) (n : Nat) :
    missedIn k (r :: reads) n = (if r.getD n 0 < 4 * k then 1 else 0) + missedIn k reads n := by
  unfold missedIn
  by_cases h : r.getD n 0 < 4 * k <;> simp only [List.filter_cons, h, decide_true, decide_false, if_true, if_false,
    Bool.false_eq_true, List.length_cons] <;> omega

theorem CalRecord.count_misses (c : CalRecord) (r : List Nat) :
    (c.count r).misses = bySpot fun n => c.misses.getD n 0 + if r.getD n 0 < 4 * c.step then 1 else 0 := by
  unfold count bySpot levelAt
  refine List.map_congr_left fun i _ => ?_
  by_cases h : r.getD i 0 < 4 * c.step <;> simp only [h, decide_true, decide_false, Bool.toNat, cond_true, cond_false,
    if_true, if_false]

theorem CalRecord.count_eq (c : CalRecord) (r : List Nat) :
    c.count r = { c with
      reads := c.reads + 1
      misses := bySpot fun n => c.misses.getD n 0 + if r.getD n 0 < 4 * c.step then 1 else 0 } := by
  rw [← count_misses]
  rfl

section
variable (c : CalRecord) (r : List Nat)

@[simp] theorem CalRecord.count_step : (c.count r).step = c.step := rfl

@[simp] theorem CalRecord.count_reads : (c.count r).reads = c.reads + 1 := rfl

@[simp] theorem CalRecord.count_mode : (c.count r).mode = c.mode := rfl

@[simp] theorem CalRecord.count_firstMiss : (c.count r).firstMiss = c.firstMiss := rfl

end

/-- Several reads counted: each adds its misses. -/
theorem CalRecord.foldl_count (reads : List (List Nat)) (c : CalRecord) (m : Nat → Nat) (h : c.misses = bySpot m) :
    reads.foldl CalRecord.count c = { c with
      reads := c.reads + reads.length, misses := bySpot fun n => m n + missedIn c.step reads n } := by
  induction reads generalizing c m with
  | nil => simp [missedIn, ← h]
  | cons r reads ih =>
    have hc : (c.count r).misses = bySpot fun n => m n + if r.getD n 0 < 4 * c.step then 1 else 0 := by
      rw [count_misses, h]
      exact bySpot_congr fun i hi => by rw [bySpot_getD m hi]
    rw [List.foldl_cons, ih _ _ hc]
    simp only [count_step, missedIn_cons, List.length_cons, ← Nat.add_assoc]
    simp [count_eq, Nat.add_right_comm]

/-! ## Settling a step (R34) -/

/-- Outside a single step a read belongs to the step after those completed (R33). -/
theorem CalRecord.step_sweep {c : CalRecord} (hm : ∀ k, c.mode ≠ some (.single k)) : c.step = c.steps + 1 := by
  unfold step
  split
  · rename_i k hk
    exact absurd hk (hm k)
  · rfl

theorem noteStep_eq (k : Nat) (test : Nat → Bool) (now : Option Nat) (m : Nat) :
    noteStep k test now m = now.or (if test m = true then some k else none) := by
  cases now <;> simp [noteStep]

theorem CalRecord.settle_parts (c : CalRecord) :
    c.settle = { c with
      steps := c.step, firstMiss := c.settle.firstMiss, allMiss := c.settle.allMiss, reads := 0
      misses := List.replicate 10 0 } := rfl

section
variable {c : CalRecord} {m : Nat → Nat} (h : c.misses = bySpot m)
include h

/-- A spot one of whose reads missed takes the step as its first-miss step unless it has one. -/
theorem CalRecord.settle_firstMiss (hf : c.firstMiss.length = 10) :
    c.settle.firstMiss =
      bySpot fun n => (c.firstMiss.getD n none).or (if 1 ≤ m n then some c.step else none) := by
  show List.zipWith (noteStep c.step (1 ≤ ·)) c.firstMiss c.misses = _
  rw [h, zipWith_eq_bySpot hf (bySpot_length m) _ none 0]
  exact bySpot_congr fun n hn => by rw [bySpot_getD m hn, noteStep_eq]; simp only [decide_eq_true_eq]

/-- One whose reads all missed takes it as its all-miss step unless it has one. -/
theorem CalRecord.settle_allMiss (ha : c.allMiss.length = 10) :
    c.settle.allMiss =
      bySpot fun n => (c.allMiss.getD n none).or (if m n = 4 then some c.step else none) := by
  show List.zipWith (noteStep c.step (· == 4)) c.allMiss c.misses = _
  rw [h, zipWith_eq_bySpot ha (bySpot_length m) _ none 0]
  exact bySpot_congr fun n hn => by rw [bySpot_getD m hn, noteStep_eq]; simp only [beq_iff_eq]

end

/-! ## The end of a sweep (R35) -/

/-- The thresholds of R35's table. -/
theorem newThreshold_eq {f : Nat} (hf : 1 ≤ f) (old : Nat) :
    newThreshold f old = if f = 1 then old else if f = 2 then 4 else if f = 16 then 32 else 2 * f := by
  unfold newThreshold
  (repeat' split) <;> omega

/-- The step a completed sweep records for a spot: 16 where none was noted. -/
def Deck.sweepStep (d : Deck) (n : Nat) : Nat := (d.cal.firstMiss.getD n none).getD 16

section
variable {d : Deck} (hf : d.cal.firstMiss.length = 10)
include hf

theorem Deck.first_eq : d.cal.firstMiss.map (·.getD 16) = bySpot d.sweepStep := map_eq_bySpot hf _ none

theorem Deck.completeSweep_firstMiss : d.completeSweep.cal.firstMiss = bySpot fun n => some (d.sweepStep n) := by
  simp only [completeSweep, first_eq hf, map_bySpot]

/-- A sweep marks the spots whose first miss came at step 1 (R35). -/
theorem Deck.completeSweep_unreadable {n : Nat} (hn : n < 10) :
    onSpot d.completeSweep.unreadable n = true ↔ d.sweepStep n = 1 := by
  simp [completeSweep, first_eq hf, hn, -List.getD_eq_getElem?_getD]

theorem Deck.completeSweep_thresholds (ht : d.thresholds.length = 10) {n : Nat} (hn : n < 10) :
    d.completeSweep.thresholds[n]? = some (newThreshold (d.sweepStep n) (d.thresholds.getD n 0)) := by
  simp only [completeSweep, first_eq hf]
  rw [zipWith_eq_bySpot (bySpot_length _) ht newThreshold 0 0, bySpot_getElem? _ hn, bySpot_getD _ hn]

end

theorem Deck.completeSweep_allMiss {d : Deck} (ha : d.cal.allMiss.length = 10) :
    d.completeSweep.cal.allMiss = bySpot fun n => some ((d.cal.allMiss.getD n none).getD 16) :=
  map_eq_bySpot ha _ none

/-! ## One read (R33) -/

/-- The deck sensor with a read counted. -/
def Deck.counted (d : Deck) (r : List Nat) : Deck := { d with cal := d.cal.count r }

/-- The deck sensor with the fourth read of a sweep's step counted and the step settled. -/
def Deck.settled (d : Deck) (r : List Nat) : Deck := { d with cal := (d.cal.count r).settle }

section
variable {d : Deck} {r : List Nat}

theorem Deck.calRead_before_fourth (h : d.cal.reads < 3) : d.calRead r = (d.counted r, none) := by
  have : (d.cal.count r).reads < 4 := Nat.succ_lt_succ h
  simp only [calRead, counted, this, if_true]

theorem Deck.calRead_single (h : 3 ≤ d.cal.reads) {k : Nat} (hm : d.cal.mode = some (.single k)) :
    d.calRead r = ((d.counted r).completeSingle,
      some (((d.cal.count r).misses.filter (· == 0)).length, ((d.cal.count r).misses.filter (· == 4)).length)) := by
  have h4 : ¬ (d.cal.count r).reads < 4 := by rw [CalRecord.count_reads]; omega
  simp only [calRead, counted, h4, CalRecord.count_mode, hm, if_false]

theorem Deck.calRead_sweep (h : 3 ≤ d.cal.reads) (hm : ∀ k, d.cal.mode ≠ some (.single k)) :
    d.calRead r =
      if (d.settled r).cal.sweepOver = true then
        ((d.settled r).completeSweep, some (10 - spotCount (d.settled r).completeSweep.unreadable,
          spotCount (d.settled r).completeSweep.unreadable))
      else (d.settled r, none) := by
  have h4 : ¬ (d.cal.count r).reads < 4 := by rw [CalRecord.count_reads]; omega
  unfold calRead settled
  simp only [h4, if_false]
  split
  · rename_i k hk
    exact absurd hk (hm k)
  · rfl

/-- A read that is not the last moves the calibration on by one sense pass (R33). -/
theorem Deck.calRead_next (h : d.cal.reads ≤ 3) (hn : (d.calRead r).2 = none) :
    4 * (d.calRead r).1.cal.steps + (d.calRead r).1.cal.reads = 4 * d.cal.steps + d.cal.reads + 1 := by
  by_cases h3 : d.cal.reads < 3
  · rw [calRead_before_fourth h3]
    rfl
  · have h3 : d.cal.reads = 3 := by omega
    by_cases hm : ∃ k, d.cal.mode = some (.single k)
    · obtain ⟨k, hk⟩ := hm
      rw [calRead_single h3.ge hk] at hn
      cases hn
    · have hm : ∀ k, d.cal.mode ≠ some (.single k) := fun k hk => hm ⟨k, hk⟩
      rw [calRead_sweep h3.ge hm] at hn ⊢
      split at hn
      · cases hn
      · have hk : (d.settled r).cal.steps = d.cal.steps + 1 := CalRecord.step_sweep hm
        have h0 : (d.settled r).cal.reads = 0 := rfl
        rw [if_neg ‹_›]
        show 4 * (d.settled r).cal.steps + (d.settled r).cal.reads = _
        omega

/-- The read that ends a sweep. -/
theorem Deck.calRead_ends (hm : ∀ k, d.cal.mode ≠ some (.single k)) {n : Nat × Nat} (hn : (d.calRead r).2 = some n) :
    d.calRead r = ((d.settled r).completeSweep, some (10 - spotCount (d.settled r).completeSweep.unreadable,
      spotCount (d.settled r).completeSweep.unreadable)) := by
  by_cases h3 : d.cal.reads < 3
  · rw [calRead_before_fourth h3] at hn
    cases hn
  · rw [calRead_sweep (not_lt.1 h3) hm] at hn ⊢
    split at hn
    · rw [if_pos ‹_›]
    · cases hn

theorem Deck.settled_firstMiss_length (h : d.cal.firstMiss.length = 10) : (d.settled r).cal.firstMiss.length = 10 := by
  simp [settled, CalRecord.settle, CalRecord.count_misses, bySpot_length, h]

end

/-! ## The four reads of a step -/

/-- A spot's first-miss step after a sweep's step with these reads (R34). -/
def CalRecord.firstAfter (c : CalRecord) (reads : List (List Nat)) (n : Nat) : Option Nat :=
  (c.firstMiss.getD n none).or (if 1 ≤ missedIn c.step reads n then some c.step else none)

/-- A spot's all-miss step after it. -/
def CalRecord.allAfter (c : CalRecord) (reads : List (List Nat)) (n : Nat) : Option Nat :=
  (c.allMiss.getD n none).or (if missedIn c.step reads n = 4 then some c.step else none)

/-- The sweep ends at step 15 or when every spot has its all-miss step (R34). -/
theorem CalRecord.sweepOver_iff {c : CalRecord} {g : Nat → Option Nat} (h : c.allMiss = bySpot g) :
    c.sweepOver = true ↔ 15 ≤ c.steps ∨ ∀ n < 10, (g n).isSome = true := by
  rw [sweepOver, Bool.or_eq_true, decide_eq_true_iff, h, all_bySpot]

/-- The deck sensor with three reads counted. -/
def Deck.threeReads (d : Deck) (r1 r2 r3 : List Nat) : Deck := ((d.counted r1).counted r2).counted r3

section
variable {d : Deck} (h0 : d.cal.reads = 0) (r1 r2 r3 r4 : List Nat)
include h0

/-- None of the first three reads is the last. -/
theorem Deck.calRead_first_three :
    d.calRead r1 = (d.counted r1, none) ∧ (d.counted r1).calRead r2 = ((d.counted r1).counted r2, none) ∧
      ((d.counted r1).counted r2).calRead r3 = (d.threeReads r1 r2 r3, none) := by
  have h1 : (d.counted r1).cal.reads = 1 := congrArg (· + 1) h0
  have h2 : ((d.counted r1).counted r2).cal.reads = 2 := congrArg (· + 1) h1
  exact ⟨calRead_before_fourth (by omega), calRead_before_fourth (by omega), calRead_before_fourth (by omega)⟩

theorem Deck.threeReads_reads : 3 ≤ (d.threeReads r1 r2 r3).cal.reads := by
  show 3 ≤ d.cal.reads + 1 + 1 + 1
  omega

variable (hm : d.cal.misses = List.replicate 10 0)
include hm

/-- The four reads' misses, spot by spot. -/
theorem Deck.fourth_count :
    (d.threeReads r1 r2 r3).cal.count r4 =
      { d.cal with reads := 4, misses := bySpot (missedIn d.cal.step [r1, r2, r3, r4]) } := by
  have h := CalRecord.foldl_count [r1, r2, r3, r4] d.cal (fun _ => 0) hm
  simp only [h0, Nat.zero_add, List.length_cons, List.length_nil] at h
  exact h

/-- A single step records each spot's misses and counts the spots with none and with four (R36). -/
theorem Deck.fourth_single {k : Nat} (hk : d.cal.mode = some (.single k)) :
    (d.threeReads r1 r2 r3).calRead r4 =
      ({ d with cal := { d.cal with
          result := .complete, steps := 1, missCount := some (bySpot (missedIn d.cal.step [r1, r2, r3, r4])) } },
        some (((List.range 10).filter fun n => missedIn d.cal.step [r1, r2, r3, r4] n == 0).length,
          ((List.range 10).filter fun n => missedIn d.cal.step [r1, r2, r3, r4] n == 4).length)) := by
  rw [calRead_single (threeReads_reads h0 r1 r2 r3) hk]
  simp only [counted, completeSingle, fourth_count h0 r1 r2 r3 r4 hm, filter_bySpot_length]
  rw [h0, hm]
  rfl

section
variable (hf : d.cal.firstMiss.length = 10) (ha : d.cal.allMiss.length = 10)
include hf ha

/-- A sweep's step settled by its fourth read (R34). -/
theorem Deck.fourth_settled :
    (d.threeReads r1 r2 r3).settled r4 = { d with cal := { d.cal with
      steps := d.cal.step
      firstMiss := bySpot (d.cal.firstAfter [r1, r2, r3, r4])
      allMiss := bySpot (d.cal.allAfter [r1, r2, r3, r4]) } } := by
  have hc := fourth_count h0 r1 r2 r3 r4 hm
  have hmisses := congrArg CalRecord.misses hc
  rw [settled, CalRecord.settle_parts, CalRecord.settle_firstMiss hmisses hf, CalRecord.settle_allMiss hmisses ha, hc]
  dsimp only
  rw [h0, hm]
  rfl

theorem Deck.fourth_sweepOver :
    ((d.threeReads r1 r2 r3).settled r4).cal.sweepOver = true ↔
      15 ≤ d.cal.step ∨ ∀ n < 10, (d.cal.allAfter [r1, r2, r3, r4] n).isSome = true := by
  rw [fourth_settled h0 r1 r2 r3 r4 hm hf ha]
  exact CalRecord.sweepOver_iff rfl

variable (hk : ∀ k, d.cal.mode ≠ some (.single k))
include hk

/-- A step that does not end its sweep. -/
theorem Deck.fourth_goes_on
    (h : ¬ (15 ≤ d.cal.step ∨ ∀ n < 10, (d.cal.allAfter [r1, r2, r3, r4] n).isSome = true)) :
    (d.threeReads r1 r2 r3).calRead r4 = ({ d with cal := { d.cal with
      steps := d.cal.step
      firstMiss := bySpot (d.cal.firstAfter [r1, r2, r3, r4])
      allMiss := bySpot (d.cal.allAfter [r1, r2, r3, r4]) } }, none) := by
  rw [calRead_sweep (threeReads_reads h0 r1 r2 r3) hk, if_neg (mt (fourth_sweepOver h0 r1 r2 r3 r4 hm hf ha).1 h),
    fourth_settled h0 r1 r2 r3 r4 hm hf ha]

/-- A step that ends its sweep: a step never reached is then 16 (R34). -/
theorem Deck.fourth_ends (h : 15 ≤ d.cal.step ∨ ∀ n < 10, (d.cal.allAfter [r1, r2, r3, r4] n).isSome = true) :
    let e := (d.threeReads r1 r2 r3).calRead r4
    e.2.isSome = true ∧ e.1.cal.result = .complete ∧ e.1.cal.steps = d.cal.step ∧ e.1.cal.missCount = d.cal.missCount ∧
      e.1.cal.firstMiss = (bySpot fun n => some ((d.cal.firstAfter [r1, r2, r3, r4] n).getD 16)) ∧
      e.1.cal.allMiss = bySpot fun n => some ((d.cal.allAfter [r1, r2, r3, r4] n).getD 16) := by
  rw [calRead_sweep (threeReads_reads h0 r1 r2 r3) hk, if_pos ((fourth_sweepOver h0 r1 r2 r3 r4 hm hf ha).2 h),
    fourth_settled h0 r1 r2 r3 r4 hm hf ha]
  refine ⟨rfl, rfl, rfl, rfl, ?_, ?_⟩
  · rw [completeSweep_firstMiss (bySpot_length _)]
    exact bySpot_congr fun n hn => by rw [sweepStep, bySpot_getD _ hn]
  · rw [completeSweep_allMiss (bySpot_length _)]
    exact bySpot_congr fun n hn => by rw [bySpot_getD _ hn]

end

end

/-! ## The steps of a completed sweep -/

section
variable {d : Deck} {r : List Nat}

/-- A completed sweep's first-miss step of a spot lies in 1 to 16. -/
theorem Deck.sweepStep_bounds (hm : ∀ k, d.cal.mode ≠ some (.single k)) (hf : d.cal.firstMiss.length = 10)
    (hs : d.cal.steps ≤ 14) (hb : ∀ o ∈ d.cal.firstMiss, ∀ j ∈ o, 1 ≤ j ∧ j ≤ 15) {n : Nat} (hn : n < 10) :
    1 ≤ (d.settled r).sweepStep n ∧ (d.settled r).sweepStep n ≤ 16 := by
  obtain ⟨m, hmisses⟩ : ∃ m, (d.cal.count r).misses = bySpot m := ⟨_, d.cal.count_misses r⟩
  have hfirst : (d.settled r).cal.firstMiss = _ := CalRecord.settle_firstMiss hmisses hf
  have hstep : (d.cal.count r).step = d.cal.steps + 1 := CalRecord.step_sweep hm
  rw [sweepStep, hfirst, bySpot_getD _ hn, CalRecord.count_firstMiss, hstep]
  have hmem : d.cal.firstMiss.getD n none ∈ d.cal.firstMiss := by
    rw [List.getD_eq_getElem _ _ (by omega)]
    exact List.getElem_mem _
  cases ho : d.cal.firstMiss.getD n none with
  | some j =>
    have := hb _ hmem j ho
    simp only [Option.some_or, Option.getD_some]
    omega
  | none =>
    rw [Option.none_or]
    split
    · rw [Option.getD_some]
      omega
    · decide

end

/-! ## An entry into ARMED with no session -/

theorem armedReport_empty (l : LaneId) {s : State} (h : s.sessions = []) : armedReport l s = s := by
  simp [armedReport, resumeOn, startTurns, h]

theorem rackTest_empty (l : LaneId) (e : Bool) {s : State} (h : s.sessions = []) :
    rackTest l e s = s.setSeq l { s.seq l with
      state := if (s.seq l).holds.appliesAt (.rack e) then .held (.rack e) else .armed, timer := none } := by
  unfold rackTest enterArmed
  split
  · rfl
  · exact armedReport_empty l (by simpa using h)

/-! ## The event -/

theorem placed_still {f : QueuedFrame} {q q1 q2 : List QueuedFrame} (h : placed f q q1)
    (e : q2.map QueuedFrame.still = q1.map QueuedFrame.still) : placed f q q2 := by
  obtain ⟨front, back, hq, hq1, hfront, hback⟩ := h
  exact ⟨front, back, hq, e.trans hq1, hfront, hback⟩

theorem send_eq (s : State) (d : Nat) (k : FrameMark) (p : Payload) :
    send d k p s = { s with link := (send d k p s).link } := by
  unfold send
  (repeat' split) <;> rfl

/-- An event that queued one frame, with room for it, and whatever transmission it begins. -/
theorem queues_beginTx {s v u : State} {d : Nat} {k : FrameMark} {p : Payload} (hv : v.link = s.link)
    (hc : v.ctl = s.ctl) (h : s.sends 1) (hu : u.link = (send d k p v).link) : s.queues (beginTx u) d k p := by
  have hs : v.sends 1 := by simpa [State.sends, State.room, hv, hc] using h
  obtain ⟨hq, -, hack, hresponse, hgroup, hon⟩ := beginTx_quiet u
  have hsame : s.sameLine u := by
    rw [State.sameLine, hu, send_link, hv]
    exact ⟨rfl, rfl, rfl, rfl⟩
  obtain ⟨hack', hresponse', hgroup', hon'⟩ := hsame
  have hplaced : placed { dest := d, payload := p, mark := k, onLine := false } s.link.queue u.link.queue := by
    rw [hu, send_room d k p hs, hv]
    exact placed_placeFrame _ rfl _
  exact ⟨placed_still hplaced hq, hack.trans hack', hresponse.trans hresponse', hgroup.trans hgroup', hon.trans hon'⟩

theorem sameStarts_beginTx {s u : State} (h : u.spacing = s.spacing) : s.sameStarts (beginTx u) := by
  have := (beginTx_quiet u).2.1
  simpa only [State.sameStarts, h] using this

theorem exec_readDone (l : LaneId) (levels : List Nat) (s : State) :
    exec (.readDone l levels) s = execReadDone l levels s := rfl

theorem exec_readDone_calibrating {l : LaneId} (levels : List Nat) {s : State} (hr : s.running = true)
    (hc : (s.seq l).state = .calibrating) :
    exec (.readDone l levels) s = .next (beginTx (calibrationRead l levels s)) := by
  rw [exec_readDone, execReadDone, live_running hr]
  simp only [hc]

/-- Whatever the read brings, the lane's deck sensor takes it, and no other. -/
theorem calibrationRead_decks (l : LaneId) (levels : List Nat) (s : State) :
    (calibrationRead l levels s).decks = s.decks.set l ((s.deck l).calRead levels).1 := by
  unfold calibrationRead
  dsimp only
  split <;> simp

theorem calibrationRead_more {l : LaneId} {levels : List Nat} {s : State} (h : ((s.deck l).calRead levels).2 = none) :
    calibrationRead l levels s = s.setDeck l ((s.deck l).calRead levels).1 := by
  simp only [calibrationRead, h]

/-- The read that ends the calibration: CALIBRATE is answered with the counts, and the lane is tested for its rack position
(R22, R35, R36). -/
theorem calibrationRead_last {l : LaneId} {levels : List Nat} {s : State} {n : Nat × Nat}
    (h : ((s.deck l).calRead levels).2 = some n) {p : PendingReq} (hp : (s.seq l).pend = some p)
    (hq : p.req = .calibrate) (hs : s.sessions = []) :
    calibrationRead l levels s = { s with
      decks := s.decks.set l ((s.deck l).calRead levels).1
      seqs := s.seqs.set l { s.seq l with
        pend := none, timer := none
        state := if (s.seq l).holds.appliesAt (.rack false) then .held (.rack false) else .armed }
      link := (send p.addr .none (laterReply p.tag .calibrate .done (.counts n.1 n.2))
        ((s.setDeck l ((s.deck l).calRead levels).1).setSeq l { s.seq l with pend := none })).link } := by
  have ha : ∀ v : State, (v.seq l).pend = some p → answerPending l .done (.counts n.1 n.2) v =
      send p.addr .none (laterReply p.tag .calibrate .done (.counts n.1 n.2))
        (v.setSeq l { v.seq l with pend := none }) := by
    intro v hv
    simp only [answerPending, hv, hq]
    rfl
  have hseq : ∀ v : State,
      (send p.addr .none (laterReply p.tag .calibrate .done (.counts n.1 n.2)) v).seq l = v.seq l := by
    intro v
    rw [send_eq]
    rfl
  unfold calibrationRead
  simp only [h]
  rw [ha _ (by simpa using hp), rackTest_empty l false (by simpa using hs)]
  simp only [State.setSeq_seq_same, hseq, State.setDeck_seq]
  rw [send_eq]
  simp only [State.setSeq, State.setDeck, Pair.set_set]

/-! ## The statement -/

/-- The event of a read that is not the last: the deck sensor alone changes. -/
theorem calibrationRead_more_event {l : LaneId} {levels : List Nat} {s : State}
    (h : ((s.deck l).calRead levels).2 = none) :
    let t := beginTx (calibrationRead l levels s)
    t = { s with decks := s.decks.set l ((s.deck l).calRead levels).1, link := t.link, spacing := t.spacing } ∧
      s.quiet t := by
  rw [calibrationRead_more h]
  exact ⟨beginTx_eq _, quiet_of rfl rfl⟩

/-- A lane in CALIBRATING asks for the sense pass of its number (R33, log entry 51). -/
theorem sensePass_calibrating {q : Sequencer} (h : q.state = .calibrating) (d : Deck) :
    sensePass q d = some (4 * d.cal.steps + d.cal.reads + 1) := by
  simp only [sensePass, h]

/-- A sweep that ends: its outcome as R35's table gives it. -/
theorem Deck.sweep_completes (d : Deck) (levels : List Nat) (hm : d.cal.mode = none ∨ d.cal.mode = some .sweep)
    (ht : d.thresholds.length = 10) (hf : d.cal.firstMiss.length = 10) (hs : d.cal.steps ≤ 14)
    (hb : ∀ o ∈ d.cal.firstMiss, ∀ j ∈ o, 1 ≤ j ∧ j ≤ 15) (n : Nat × Nat) (hn : (d.calRead levels).2 = some n) :
    let e := (d.calRead levels).1
    n.1 + n.2 = 10 ∧ n.2 = spotCount e.unreadable ∧ e.cal.result = .complete ∧ e.rack = d.rack ∧ e.last = d.last ∧
      e.cal.outcome = some (e.thresholds, e.unreadable) ∧
      ∀ i < 10, ∃ f, e.cal.firstMiss[i]? = some (some f) ∧ 1 ≤ f ∧ f ≤ 16 ∧
        (onSpot e.unreadable i = true ↔ f = 1) ∧
        e.thresholds[i]? =
          some (if f = 1 then d.thresholds.getD i 0 else if f = 2 then 4 else if f = 16 then 32 else 2 * f) := by
  have hsweep : ∀ k, d.cal.mode ≠ some (.single k) := by
    intro k hk
    rcases hm with hm | hm <;> cases hm.symm.trans hk
  have hread := calRead_ends hsweep hn
  rw [hread] at hn ⊢
  obtain rfl := Option.some.inj hn
  have hcount := spotCount_le (d.settled levels).completeSweep.unreadable
  refine ⟨by dsimp only; omega, rfl, rfl, rfl, rfl, rfl, fun i hi => ?_⟩
  have hf' : (d.settled levels).cal.firstMiss.length = 10 := settled_firstMiss_length hf
  obtain ⟨h1, h16⟩ := sweepStep_bounds (r := levels) hsweep hf hs hb hi
  refine ⟨(d.settled levels).sweepStep i, ?_, h1, h16, completeSweep_unreadable hf' hi, ?_⟩
  · rw [completeSweep_firstMiss hf', bySpot_getElem? _ hi]
  · rw [completeSweep_thresholds hf' ht hi, newThreshold_eq h1]
    rfl

/-- Settles O18. A read is counted, or settles its step, or completes the calibration; the four reads of a step are the fold
of their counts. -/
theorem calibrationReads : Obligations.CalibrationReads := by
  refine ⟨fun l levels s hr hc => ?_, Deck.sweep_completes, ?_⟩
  · have hseq (h : ((s.deck l).calRead levels).2 = none) :
        ((beginTx (calibrationRead l levels s)).seq l).state = .calibrating := by
      rw [(calibrationRead_more_event h).1]
      exact hc
    have hdeck : (beginTx (calibrationRead l levels s)).deck l = ((s.deck l).calRead levels).1 := by
      simp [State.deck, calibrationRead_decks]
    refine ⟨_, exec_readDone_calibrating levels hr hc, fun h3 => ?_, sensePass_calibrating hc _, fun h3 hn => ?_,
      fun _ => ⟨hdeck, fun hn => ?_, fun n hn hsend p hp hq hs => ?_⟩⟩
    · have hread := Deck.calRead_before_fourth (r := levels) h3
      have hcount := (s.deck l).cal.count_eq levels
      have ht := calibrationRead_more_event (congrArg Prod.snd hread)
      rw [hread, Deck.counted, hcount] at ht
      exact ht
    · rw [sensePass_calibrating (hseq hn), hdeck, Deck.calRead_next h3 hn]
    · rw [hdeck]
      exact calibrationRead_more_event hn
    · rw [hdeck, calibrationRead_last hn hp hq hs]
      exact ⟨beginTx_eq _, sameStarts_beginTx rfl, queues_beginTx (v := (s.setDeck l _).setSeq l _) rfl rfl hsend rfl⟩
  · intro d r1 r2 r3 r4 h0 hm d1 d2 d3 e _ _ _ _ _ _
    obtain ⟨hr1, hr2, hr3⟩ := Deck.calRead_first_three h0 r1 r2 r3
    have hd1 : d1 = d.counted r1 := congrArg Prod.fst hr1
    have hd2 : d2 = (d.counted r1).counted r2 := by
      show (d1.calRead r2).1 = _
      rw [hd1, hr2]
    have hd3 : d3 = d.threeReads r1 r2 r3 := by
      show (d2.calRead r3).1 = _
      rw [hd2, hr3]
    have he : e = (d.threeReads r1 r2 r3).calRead r4 := by rw [← hd3]
    refine ⟨congrArg Prod.snd hr1, by rw [hd1, hr2], by rw [hd2, hr3], fun k hk => ?_, fun hk hf ha => ?_⟩
    · rw [he, Deck.fourth_single h0 r1 r2 r3 r4 hm hk]
      rfl
    · rw [he]
      exact ⟨Deck.fourth_goes_on h0 r1 r2 r3 r4 hm hf ha hk, Deck.fourth_ends h0 r1 r2 r3 r4 hm hf ha hk⟩

end Sys2Proof.Machine
end

section
/-! SUPPORT. Game records slot by slot (R42, R43), what a recomputation writes (R49 to R52, R55, R56), and that every operation
on a game record of ten slots leaves it scored. -/

namespace Sys2Proof.Machine

/-! ## Slots -/

@[simp] theorem Game.slot_zero (g : Game) : g.slot 0 = none := rfl

@[simp] theorem Game.slot_succ (g : Game) (i : Nat) : g.slot (i + 1) = (g.frames[i]?).join := rfl

theorem Game.ballsOf_eq (g : Game) (f : Nat) : g.ballsOf f = ((g.slot f).map (·.balls)).getD [] := rfl

@[simp] theorem Game.setSlot_length (g : Game) (f : Nat) (r : FrameRec) :
    (g.setSlot f r).frames.length = g.frames.length := by
  simp [Game.setSlot]

theorem Game.slot_setSlot {g : Game} {f : Nat} (r : FrameRec) (h1 : 1 ≤ f) (hf : f ≤ g.frames.length) (k : Nat) :
    (g.setSlot f r).slot k = if k = f then some r else g.slot k := by
  obtain ⟨i, rfl⟩ := Nat.exists_eq_add_of_le' h1
  cases k with
  | zero => simp
  | succ k =>
    by_cases hk : k = i
    · subst hk
      simp [Game.setSlot, Nat.lt_of_succ_le hf]
    · simp [Game.setSlot, hk, Ne.symm hk]

theorem Game.ballsOf_setSlot {g : Game} {f : Nat} (r : FrameRec) (h1 : 1 ≤ f) (hf : f ≤ g.frames.length) (k : Nat) :
    (g.setSlot f r).ballsOf k = if k = f then r.balls else g.ballsOf k := by
  rw [Game.ballsOf_eq, Game.slot_setSlot r h1 hf]
  split <;> rfl

/-- The slots in order are those of frames 1 to 10. -/
theorem Game.frames_eq {g : Game} (h : g.frames.length = 10) : g.frames = (List.range' 1 10).map g.slot := by
  refine List.ext_getElem (by simp [h]) fun i hi _ => ?_
  simp [Nat.add_comm 1 i, List.getElem?_eq_getElem hi]

/-- The balls of the slots behind the first n are those of frames n + 1 to 10. -/
theorem Game.slotBalls_drop {g : Game} (h : g.frames.length = 10) (n : Nat) :
    slotBalls (g.frames.drop n) = (List.range' (n + 1) (10 - n)).flatMap g.ballsOf := by
  rw [Game.frames_eq h, ← List.map_drop, List.drop_range', slotBalls, List.flatMap_map, Nat.add_comm n 1, Nat.mul_one]
  rfl

/-! ## Scores and cumulatives (R51, R52) -/

/-- The score of the slot with index i in a list of slots from frame f on. -/
def scoreAt (complete : Bool) (f : Nat) (fs : List (Option FrameRec)) (i : Nat) : Option Nat :=
  (fs[i]?).join.bind fun r =>
    frameScore complete (f + i) { r with mark := markOf (f + i) r.balls } (slotBalls (fs.drop (i + 1)))

/-- The sum of `acc` and the scores listed, absent when one of them is. -/
def sumKnown (acc : Option Nat) (scores : List (Option Nat)) : Option Nat :=
  scores.foldl (Option.map₂ (· + ·)) acc

theorem sumKnown_none (scores : List (Option Nat)) : sumKnown none scores = none := by
  induction scores with
  | nil => rfl
  | cons v scores ih => exact ih

theorem sumKnown_some (n : Nat) (scores : List (Option Nat)) :
    sumKnown (some n) scores =
      if scores.all Option.isSome then some (n + (scores.map (·.getD 0)).sum) else none := by
  induction scores generalizing n with
  | nil => rfl
  | cons v scores ih =>
    cases v with
    | none => exact sumKnown_none scores
    | some v => exact (ih (n + v)).trans (by simp [Nat.add_assoc])

theorem scoreAt_cons (c : Bool) (f : Nat) (o : Option FrameRec) (fs : List (Option FrameRec)) (i : Nat) :
    scoreAt c f (o :: fs) (i + 1) = scoreAt c (f + 1) fs i := by
  simp [scoreAt, Nat.add_right_comm f 1 i, Nat.add_assoc]

theorem scoreFrames_cons (c : Bool) (f : Nat) (acc : Option Nat) (o : Option FrameRec) (fs : List (Option FrameRec)) :
    scoreFrames c f acc (o :: fs) =
      (o.map fun r => { r with
        mark := markOf f r.balls, score := scoreAt c f (o :: fs) 0
        cum := Option.map₂ (· + ·) acc (scoreAt c f (o :: fs) 0) }) ::
      scoreFrames c (f + 1) (Option.map₂ (· + ·) acc (scoreAt c f (o :: fs) 0)) fs := by
  cases o with
  | none => cases acc <;> rfl
  | some r =>
    have hscore : scoreAt c f (some r :: fs) 0 = frameScore c f { r with mark := markOf f r.balls } (slotBalls fs) := rfl
    conv_lhs => unfold scoreFrames
    rw [hscore]
    dsimp only
    generalize frameScore c f _ (slotBalls fs) = v
    cases acc <;> cases v <;> rfl

/-- What one recomputation writes to the slot with index i. -/
theorem scoreFrames_getElem? (c : Bool) (f : Nat) (acc : Option Nat) (fs : List (Option FrameRec)) (i : Nat) :
    (scoreFrames c f acc fs)[i]? = (fs[i]?).map fun o => o.map fun r => { r with
      mark := markOf (f + i) r.balls, score := scoreAt c f fs i
      cum := sumKnown acc ((List.range (i + 1)).map (scoreAt c f fs)) } := by
  induction fs generalizing f acc i with
  | nil => rfl
  | cons o fs ih =>
    rw [scoreFrames_cons]
    cases i with
    | zero => rfl
    | succ i =>
      have hscores : (List.range (i + 1 + 1)).map (scoreAt c f (o :: fs)) =
          scoreAt c f (o :: fs) 0 :: (List.range (i + 1)).map (scoreAt c (f + 1) fs) := by
        rw [List.range_succ_eq_map, List.map_cons, List.map_map]
        exact congrArg _ (List.map_congr_left fun k _ => scoreAt_cons c f o fs k)
      rw [hscores, scoreAt_cons, List.getElem?_cons_succ, List.getElem?_cons_succ, ih, Nat.add_assoc, Nat.add_comm 1 i]
      rfl

@[simp] theorem scoreFrames_length (c : Bool) (f : Nat) (acc : Option Nat) (fs : List (Option FrameRec)) :
    (scoreFrames c f acc fs).length = fs.length := by
  induction fs generalizing f acc with
  | nil => rfl
  | cons o fs ih => rw [scoreFrames_cons, List.length_cons, List.length_cons, ih]

theorem knownOf_eq (fs : List (Option FrameRec)) : knownOf fs = (fs.filterMap (·.bind (·.cum))).getLastD 0 := by
  unfold knownOf
  generalize 0 = n
  induction fs generalizing n with
  | nil => rfl
  | cons o fs ih =>
    rw [List.foldl_cons, ih]
    cases o with
    | none => rfl
    | some r => cases h : r.cum <;> simp [h, -List.getLastD_eq_getLast?, List.getLastD_cons]

/-! ## One recomputation (R55) -/

@[simp] theorem Game.recompute_length (g : Game) : g.recompute.frames.length = g.frames.length :=
  scoreFrames_length _ _ _ _

theorem Game.recompute_slot (g : Game) (i : Nat) :
    g.recompute.slot (i + 1) = (g.slot (i + 1)).map fun r => { r with
      mark := markOf (i + 1) r.balls, score := scoreAt (g.status == .complete) 1 g.frames i
      cum := sumKnown (some 0) ((List.range (i + 1)).map (scoreAt (g.status == .complete) 1 g.frames)) } := by
  rw [Game.slot_succ, Game.recompute, scoreFrames_getElem?, Game.slot_succ, Nat.add_comm 1 i]
  cases g.frames[i]? <;> rfl

@[simp] theorem Game.recompute_ballsOf (g : Game) (f : Nat) : g.recompute.ballsOf f = g.ballsOf f := by
  cases f with
  | zero => rfl
  | succ i => rw [Game.ballsOf_eq, Game.recompute_slot, Option.map_map]; rfl

@[simp] theorem Game.recompute_slot_isSome (g : Game) (f : Nat) : (g.recompute.slot f).isSome = (g.slot f).isSome := by
  cases f with
  | zero => rfl
  | succ i => rw [Game.recompute_slot, Option.isSome_map]

/-- The score of a slot after a recomputation. -/
theorem Game.recompute_score (g : Game) (i : Nat) :
    (g.recompute.slot (i + 1)).bind (·.score) = scoreAt (g.status == .complete) 1 g.frames i := by
  rw [Game.recompute_slot, Game.slot_succ]
  unfold scoreAt
  cases (g.frames[i]?).join <;> rfl

/-- A filled slot after a recomputation: its score is by its mark and the balls of later frames. -/
theorem Game.recompute_slot_some {g : Game} {i : Nat} {r : FrameRec} (h : g.recompute.slot (i + 1) = some r) :
    r.mark = markOf (i + 1) r.balls ∧
      r.score = frameScore (g.status == .complete) (i + 1) r (slotBalls (g.frames.drop (i + 1))) ∧
      r.cum = sumKnown (some 0) ((List.range (i + 1)).map (scoreAt (g.status == .complete) 1 g.frames)) := by
  have hscore := Game.recompute_score g i
  rw [h] at hscore
  rw [Game.recompute_slot] at h
  obtain ⟨r0, hr0, rfl⟩ := Option.map_eq_some_iff.1 h
  refine ⟨rfl, hscore.trans ?_, rfl⟩
  rw [Game.slot_succ] at hr0
  rw [scoreAt, hr0, Nat.add_comm 1 i]
  rfl

/-- The clauses of a frame's score by its mark, in the words of `Game.scored`. -/
theorem frameScore_clauses (g : Game) (f : Nat) (r : FrameRec) (later : List BallEntry) :
    (r.mark = .incomplete → frameScore (g.status == .complete) f r later = none) ∧
    (r.mark = .opened ∨ r.mark ≠ .incomplete ∧ f = 10 →
      frameScore (g.status == .complete) f r later = some (pinSum r.balls)) ∧
    (r.mark = .strike → f < 10 → frameScore (g.status == .complete) f r later =
      if g.status = .complete ∨ 2 ≤ later.length then some (10 + pinSum (later.take 2)) else none) ∧
    (r.mark = .spare → f < 10 → frameScore (g.status == .complete) f r later =
      if g.status = .complete ∨ 1 ≤ later.length then some (10 + pinSum (later.take 1)) else none) := by
  unfold frameScore bonusScore
  cases r.mark with
  | incomplete | opened => simp
  | strike | spare => simp +contextual [Nat.ne_of_lt]

/-- A recomputation of ten slots leaves the game scored. -/
theorem Game.recompute_scored {g : Game} (h : g.frames.length = 10) : g.recompute.scored := by
  have hlen : g.recompute.frames.length = 10 := by simpa using h
  refine ⟨hlen, fun f h1 _ r hr => ?_, ?_, ?_⟩
  · obtain ⟨i, rfl⟩ := Nat.exists_eq_add_of_le' h1
    have hlater : (List.range' (i + 1 + 1) (10 - (i + 1))).flatMap g.recompute.ballsOf = slotBalls (g.frames.drop (i + 1)) := by
      rw [Game.slotBalls_drop h]
      exact congrArg (List.flatMap · _) (funext (Game.recompute_ballsOf g))
    have hscores : (List.range' 1 (i + 1)).map (fun k => (g.recompute.slot k).bind (·.score)) =
        (List.range (i + 1)).map (scoreAt (g.status == .complete) 1 g.frames) := by
      rw [List.range'_eq_map_range, List.map_map]
      refine List.map_congr_left fun k _ => ?_
      rw [Function.comp_apply, Nat.add_comm 1 k, Game.recompute_score]
    obtain ⟨hmark, hscore, hcum⟩ := Game.recompute_slot_some hr
    rw [← hscores, sumKnown_some, List.all_map, List.map_map, Nat.zero_add] at hcum
    obtain ⟨hnone, hown, hstrike, hspare⟩ := frameScore_clauses g (i + 1) r (slotBalls (g.frames.drop (i + 1)))
    rw [← hscore] at hnone hown hstrike hspare
    rw [← hlater] at hstrike hspare
    exact ⟨hmark, hnone, hown, hstrike, hspare, hcum⟩
  · have hknown := knownOf_eq g.recompute.frames
    rw [Game.frames_eq hlen, List.filterMap_map, ← Game.frames_eq hlen] at hknown
    exact congrArg (· + g.handicap) hknown
  · show (if (g.status == .complete) = true then _ else _) = _
    simp only [beq_iff_eq]
    rfl

/-! ## The operations on a game (R53, R56 to R58, R62, R71) -/

theorem Game.scored.length {g : Game} (h : g.scored) : g.frames.length = 10 := h.1

theorem Game.fresh_scored (name : List Byte) (handicap number : Nat) : (Game.fresh name handicap number).scored := by
  have hslot (f : Nat) : (Game.fresh name handicap number).slot f = none := by
    cases f with
    | zero => rfl
    | succ i =>
      show ((List.replicate 10 none)[i]?).join = none
      rw [List.getElem?_replicate]
      split <;> rfl
  refine ⟨rfl, fun f _ _ r hr => ?_, ?_, rfl⟩
  · cases (hslot f).symm.trans hr
  · simp only [hslot]
    exact (Nat.zero_add handicap).symm

theorem Game.finish_scored {g : Game} (h : g.frames.length = 10) : g.finish.scored := Game.recompute_scored h

theorem Game.append_scored {g : Game} (h : g.frames.length = 10) (f : Nat) (b : BallEntry) : (g.append f b).scored :=
  Game.recompute_scored (by simpa using h)

theorem Game.setHandicap_scored {g : Game} (h : g.scored) (n : Nat) : (g.setHandicap n).scored :=
  Game.recompute_scored h.length

theorem Game.blank_scored {g : Game} (h : g.scored) (f : Nat) : (g.blank f).scored := by
  have hset (r : FrameRec) : (g.setSlot f r).recompute.scored := Game.recompute_scored (by simpa using h.length)
  unfold Game.blank
  split
  · exact h
  · dsimp only
    split
    · exact Game.finish_scored (hset _).length
    · exact hset _

theorem Game.supply_scored (f n : Nat) {g : Game} (h : g.scored) : (Game.supply f n g).scored := by
  induction n generalizing g with
  | zero => exact h
  | succ n ih =>
    rw [Game.supply]
    split
    · exact ih (Game.append_scored h.length f _)
    · exact h

theorem Game.truncate_scored {g : Game} (h : g.scored) : g.truncate.1.scored := by
  unfold Game.truncate
  split
  · exact h
  · rename_i f _
    have hs := Game.supply_scored f 2 h
    dsimp only
    split
    · exact Game.finish_scored hs.length
    · exact hs

theorem Game.correct_scored {g : Game} (h : g.scored) (f : Nat) (ps : List Nat) : (g.correct f ps).scored := by
  unfold Game.correct
  dsimp only
  split
  · exact h
  · exact Game.recompute_scored (by simpa using h.length)

end Sys2Proof.Machine
end

section
/-! SUPPORT. The frame truncation rule (R58), and the statement about it. -/

namespace Sys2Proof.Machine

/-! ## Balls added to a frame -/

@[simp] theorem Game.append_length (g : Game) (f : Nat) (b : BallEntry) : (g.append f b).frames.length = g.frames.length := by
  simp [Game.append]

theorem Game.append_ballsOf {g : Game} {f : Nat} (b : BallEntry) (h1 : 1 ≤ f) (hf : f ≤ g.frames.length) (k : Nat) :
    (g.append f b).ballsOf k = if k = f then g.ballsOf f ++ [b] else g.ballsOf k := by
  rw [Game.append, Game.recompute_ballsOf, Game.ballsOf_setSlot _ h1 hf]

@[simp] theorem Game.finish_ballsOf (g : Game) (f : Nat) : g.finish.ballsOf f = g.ballsOf f :=
  Game.recompute_ballsOf _ f

/-- A third ball ends any frame (R49, R50). -/
theorem frameEnded_of_three {f : Nat} {bs : List BallEntry} (h : 3 ≤ bs.length) : frameEnded f bs = true := by
  rw [frameEnded_iff]
  match bs, h with
  | b1 :: b2 :: _ :: _, _ =>
    simp only [markOf]
    (repeat' split) <;> simp

theorem Game.inPlay_iff (g : Game) (f : Nat) :
    g.inPlay f = true ↔ g.ballsOf f ≠ [] ∧ frameEnded f (g.ballsOf f) = false := by
  simp [Game.inPlay]

theorem Game.frameInPlay_range {g : Game} {f : Nat} (h : g.frameInPlay = some f) :
    g.inPlay f = true ∧ 1 ≤ f ∧ f ≤ 10 := by
  have hmem := List.mem_of_find?_eq_some h
  simp only [List.mem_map, List.mem_range] at hmem
  obtain ⟨i, hi, rfl⟩ := hmem
  exact ⟨List.find?_some h, by omega, by omega⟩

/-! ## Supplied balls -/

/-- What R58 says of a supplied ball of frame f. -/
def BallEntry.suppliedTo (f : Nat) (e : BallEntry) : Prop :=
  e.pins = 0 ∧ e.supplied = true ∧ e.estimated = true ∧ e.foul = false ∧ e.split = false ∧ e.corrected = false ∧
    e.frame = f ∧ e.before = e.after

theorem suppliedBall_suppliedTo (f : Nat) (bs : List BallEntry) : (suppliedBall f bs).suppliedTo f :=
  ⟨rfl, rfl, rfl, rfl, rfl, rfl, rfl, rfl⟩

/-- The balls supplied stand behind the frame's own; they stop short of the number allowed only when the frame is no longer
in play. -/
theorem Game.supply_spec {f : Nat} (h1 : 1 ≤ f) (n : Nat) (g : Game) (hf : f ≤ g.frames.length) :
    (∃ added, (Game.supply f n g).ballsOf f = g.ballsOf f ++ added ∧ added.length ≤ n ∧
      (∀ e ∈ added, e.suppliedTo f) ∧ (added.length = n ∨ (Game.supply f n g).inPlay f = false) ∧
      (g.inPlay f = true → 1 ≤ n → 1 ≤ added.length)) ∧
    (∀ k, k ≠ f → (Game.supply f n g).ballsOf k = g.ballsOf k) := by
  induction n generalizing g with
  | zero => exact ⟨⟨[], by simp [Game.supply]⟩, fun _ _ => rfl⟩
  | succ n ih =>
    rw [Game.supply]
    split
    · rename_i hplay
      have happend := Game.append_ballsOf (suppliedBall f (g.ballsOf f)) h1 hf
      obtain ⟨⟨added, hballs, hlen, hall, hend, -⟩, hother⟩ := ih (g.append f (suppliedBall f (g.ballsOf f))) (by simpa using hf)
      refine ⟨⟨suppliedBall f (g.ballsOf f) :: added, ?_, by simpa using hlen, ?_, by simpa using hend, by simp⟩, fun k hk => ?_⟩
      · rw [hballs, happend, if_pos rfl, List.append_assoc, List.singleton_append]
      · exact List.forall_mem_cons.2 ⟨suppliedBall_suppliedTo f _, hall⟩
      · rw [hother k hk, happend, if_neg hk]
    · rename_i hplay
      exact ⟨⟨[], by simp, by simp, by simp, .inr (by simpa using hplay), fun h => absurd h hplay⟩, fun _ _ => rfl⟩

/-- Two supplied balls end any frame in play (R58). -/
theorem Game.supply_two_ended {f : Nat} {g : Game} (h1 : 1 ≤ f) (hf : f ≤ g.frames.length) (hplay : g.inPlay f = true) :
    frameEnded f ((Game.supply f 2 g).ballsOf f) = true := by
  obtain ⟨⟨added, hballs, -, -, hend, -⟩, -⟩ := Game.supply_spec h1 2 g hf
  have hne := ((Game.inPlay_iff g f).1 hplay).1
  rcases hend with htwo | hover
  · refine frameEnded_of_three ?_
    have := List.length_pos_of_ne_nil hne
    rw [hballs, List.length_append, htwo]
    omega
  · by_contra hnot
    have hstill : (Game.supply f 2 g).inPlay f = true := (Game.inPlay_iff _ f).2 ⟨by simp [hballs, hne], by simpa using hnot⟩
    rw [hover] at hstill
    cases hstill

/-! ## The statement -/

theorem Game.truncate_none {g : Game} (h : g.frameInPlay = none) : g.truncate = (g, none) := by
  simp [Game.truncate, h]

theorem Game.truncate_some {g : Game} {f : Nat} (h : g.frameInPlay = some f) :
    g.truncate = (if f = 10 then (Game.supply f 2 g).finish else Game.supply f 2 g, some f) := by
  simp [Game.truncate, h]

theorem Game.truncate_ballsOf {g : Game} {f : Nat} (h : g.frameInPlay = some f) (k : Nat) :
    g.truncate.1.ballsOf k = (Game.supply f 2 g).ballsOf k := by
  rw [Game.truncate_some h]
  dsimp only
  split <;> simp

/-- Settles O17. The frame in play is given at most two balls, and a frame of three has ended. -/
theorem truncationEndsFrame : Obligations.TruncationEndsFrame := by
  intro g hlen _
  refine ⟨Game.truncate_none, fun f hf => ?_⟩
  obtain ⟨hplay, h1, h10⟩ := Game.frameInPlay_range hf
  obtain ⟨⟨added, hballs, hle, hall, -, hone⟩, hother⟩ := Game.supply_spec h1 2 g (hlen ▸ h10)
  refine ⟨by rw [Game.truncate_some hf], ?_, ⟨added, ?_, hone hplay (by decide), hle, hall⟩, fun k hk => ?_, ?_⟩
  · rw [Game.truncate_ballsOf hf, Game.supply_two_ended h1 (hlen ▸ h10) hplay]
  · rw [Game.truncate_ballsOf hf, hballs]
  · rw [Game.truncate_ballsOf hf, hother k hk]
  · rintro rfl
    rw [Game.truncate_some hf]
    rfl

end Sys2Proof.Machine
end

section
/-! SUPPORT. The split test (R48), and the statement about it. The spots reached from the lowest standing one spread along the
adjacent pairs; a spread that reaches nothing new stays as it is, so that nine of them reach all that can be reached. -/

namespace Sys2Proof.Machine

/-! ## Spots as sets -/

theorem spotMap_ext {a b : SpotMap} (h : ∀ i < 10, onSpot a i = onSpot b i) : a = b :=
  BitVec.eq_of_getLsbD_eq h

theorem onSpot_lt {m : SpotMap} {i : Nat} (h : onSpot m i = true) : i < 10 := by
  by_contra hi
  simp [onSpot, BitVec.getLsbD_of_ge m i (by omega)] at h

@[simp] theorem onSpot_or (a b : SpotMap) (i : Nat) : onSpot (a ||| b) i = (onSpot a i || onSpot b i) := by
  simp [onSpot]

/-- Every spot of the one map is a spot of the other. -/
def spotsWithin (a b : SpotMap) : Prop := ∀ i, onSpot a i = true → onSpot b i = true

/-- A map within another with as many spots is that map. -/
theorem eq_of_within {a b : SpotMap} (h : spotsWithin a b) (hc : spotCount b ≤ spotCount a) : a = b := by
  rw [spotCount_eq, spotCount_eq] at hc
  have hsub := List.monotone_filter_right (List.range 10) h
  have heq := hsub.eq_of_length_le hc
  refine spotMap_ext fun i hi => ?_
  have hmem : i ∈ (List.range 10).filter (onSpot a) ↔ i ∈ (List.range 10).filter (onSpot b) := by rw [heq]
  simp only [List.mem_filter, List.mem_range, hi, true_and] at hmem
  exact Bool.eq_iff_iff.2 hmem

/-- Two different spots are on a map that holds two or more. -/
theorem two_le_spotCount_iff (m : SpotMap) :
    2 ≤ spotCount m ↔ ∃ i j, i < j ∧ onSpot m i = true ∧ onSpot m j = true := by
  rw [spotCount_eq]
  constructor
  · intro h
    have hsorted : ((List.range 10).filter (onSpot m)).Pairwise (· < ·) := List.pairwise_lt_range.filter _
    match hl : (List.range 10).filter (onSpot m), h with
    | i :: j :: rest, _ =>
      rw [hl] at hsorted
      have hmem (k : Nat) (hk : k ∈ i :: j :: rest) : onSpot m k = true := (List.mem_filter.1 (hl ▸ hk)).2
      exact ⟨i, j, List.rel_of_pairwise_cons hsorted (by simp), hmem i (by simp), hmem j (by simp)⟩
  · rintro ⟨i, j, hij, hi, hj⟩
    have hsub : [i, j].Subperm ((List.range 10).filter (onSpot m)) := by
      refine List.subperm_of_subset (by simp [Nat.ne_of_lt hij]) ?_
      simp [hi, hj, onSpot_lt hi, onSpot_lt hj]
    exact hsub.length_le

/-! ## Adjacent spots -/

/-- R48's table: the pairs of adjacent spots, counted from 1. -/
def adjacentPairs : List (Nat × Nat) :=
  [(1, 2), (1, 3), (2, 3), (2, 4), (2, 5), (3, 5), (3, 6), (4, 5), (4, 7), (4, 8), (5, 6), (5, 8), (5, 9), (6, 9), (6, 10),
    (7, 8), (8, 9), (9, 10)]

theorem onSpot_adjacent {i j : Nat} (hi : i < 10) (hj : j < 10) :
    onSpot (adjacent i) j = true ↔ (i + 1, j + 1) ∈ adjacentPairs ∨ (j + 1, i + 1) ∈ adjacentPairs := by
  have htable : ∀ i < 10, ∀ j < 10, onSpot (adjacent i) j =
      decide ((i + 1, j + 1) ∈ adjacentPairs ∨ (j + 1, i + 1) ∈ adjacentPairs) := by decide
  rw [htable i hi j hj, decide_eq_true_iff]

/-! ## Spreading -/

theorem onSpot_spread (m r : SpotMap) (j : Nat) :
    onSpot (spread m r) j = true ↔
      onSpot r j = true ∨ onSpot m j = true ∧ ∃ i < 10, onSpot r i = true ∧ onSpot (adjacent i) j = true := by
  have hfold (is : List Nat) (a : SpotMap) :
      onSpot (is.foldl (fun q i => if onSpot r i then q ||| (adjacent i &&& m) else q) a) j = true ↔
        onSpot a j = true ∨ onSpot m j = true ∧ ∃ i ∈ is, onSpot r i = true ∧ onSpot (adjacent i) j = true := by
    induction is generalizing a with
    | nil => simp
    | cons i is ih =>
      rw [List.foldl_cons, ih]
      split
      · rename_i hi
        simp only [onSpot_or, onSpot_and, Bool.or_eq_true, Bool.and_eq_true, List.exists_mem_cons_iff, hi]
        tauto
      · rename_i hi
        simp [hi]
  simpa [spread] using hfold (List.range 10) r

/-- What k spreads reach from the lowest spot. -/
def reachedIn (m : SpotMap) (k : Nat) : SpotMap := (spread m)^[k] (lowestSpot m)

theorem reachedIn_succ (m : SpotMap) (k : Nat) : reachedIn m (k + 1) = spread m (reachedIn m k) :=
  Function.iterate_succ_apply' _ _ _

theorem connected_iff (m : SpotMap) : connected m = true ↔ reachedIn m 9 = m := by
  have hiterate : (List.range 9).foldl (fun r _ => spread m r) (lowestSpot m) = reachedIn m 9 := by
    rw [List.foldl_const, List.length_range]
    rfl
  rw [connected, hiterate, beq_iff_eq]

theorem onSpot_twoPow {i : Nat} (hi : i < 10) (j : Nat) : onSpot (BitVec.ofNat 10 (2 ^ i)) j = decide (j = i) := by
  simp only [onSpot, BitVec.getLsbD_ofNat, Nat.testBit_two_pow]
  grind

/-- The lowest spot of a map that has one. -/
theorem lowestSpot_spec {m : SpotMap} (h : m ≠ noSpots) :
    ∃ i < 10, onSpot m i = true ∧ ∀ j, onSpot (lowestSpot m) j = true ↔ j = i := by
  have hfold (is : List Nat) (his : ∀ i ∈ is, i < 10) (hsome : ∃ i ∈ is, onSpot m i = true) :
      ∃ i < 10, onSpot m i = true ∧
        is.foldr (fun i r => if onSpot m i then BitVec.ofNat 10 (2 ^ i) else r) noSpots = BitVec.ofNat 10 (2 ^ i) := by
    induction is with
    | nil => simp at hsome
    | cons i is ih =>
      by_cases hi : onSpot m i = true
      · exact ⟨i, his i (by simp), hi, by rw [List.foldr_cons, if_pos hi]⟩
      · rw [List.foldr_cons, if_neg hi]
        exact ih (fun k hk => his k (by simp [hk])) (by simpa [hi] using hsome)
  obtain ⟨k, hk, hon⟩ := (ne_noSpots_iff m).1 h
  obtain ⟨i, hi, him, heq⟩ := hfold (List.range 10) (by simp) ⟨k, by simpa using hk, hon⟩
  refine ⟨i, hi, him, fun j => ?_⟩
  rw [lowestSpot, heq, onSpot_twoPow hi, decide_eq_true_iff]

theorem within_spread (m r : SpotMap) : spotsWithin r (spread m r) := fun _ hi => (onSpot_spread m r _).2 (.inl hi)

theorem reachedIn_within {m : SpotMap} (h : m ≠ noSpots) (k : Nat) : spotsWithin (reachedIn m k) m := by
  induction k with
  | zero =>
    obtain ⟨i, -, him, hlow⟩ := lowestSpot_spec h
    intro j hj
    rwa [(hlow j).1 hj]
  | succ k ih =>
    intro j hj
    rw [reachedIn_succ, onSpot_spread] at hj
    exact hj.elim (ih j) (·.1)

/-- Each spread reaches a new spot or none ever again. -/
theorem reachedIn_grows {m : SpotMap} (h : m ≠ noSpots) (k : Nat) :
    spread m (reachedIn m k) = reachedIn m k ∨ k + 1 ≤ spotCount (reachedIn m k) := by
  induction k with
  | zero =>
    obtain ⟨i, -, -, hlow⟩ := lowestSpot_spec h
    refine .inr (Nat.pos_of_ne_zero fun hzero => ?_)
    rw [spotCount_eq_zero] at hzero
    have := (hlow i).2 rfl
    rw [show lowestSpot m = noSpots from hzero] at this
    simp at this
  | succ k ih =>
    rw [reachedIn_succ]
    by_cases hfix : spread m (reachedIn m k) = reachedIn m k
    · exact .inl (by rw [hfix, hfix])
    · refine .inr ?_
      have hk := ih.resolve_left hfix
      have hlt : spotCount (reachedIn m k) < spotCount (spread m (reachedIn m k)) := by
        by_contra hle
        exact hfix (eq_of_within (within_spread m _) (by omega)).symm
      omega

/-- Nine spreads reach all that can be reached. -/
theorem spread_reachedIn_nine {m : SpotMap} (h : m ≠ noSpots) : spread m (reachedIn m 9) = reachedIn m 9 := by
  rcases reachedIn_grows h 9 with hfix | hten
  · exact hfix
  · exact (eq_of_within (within_spread m _) ((spotCount_le _).trans hten)).symm

/-! ## Paths -/

/-- Spots n and k, counted from 1, both standing on the map and adjacent. -/
def standsBeside (m : SpotMap) (n k : Nat) : Prop :=
  (1 ≤ n ∧ n ≤ 10 ∧ m.getLsbD (n - 1) = true) ∧ (1 ≤ k ∧ k ≤ 10 ∧ m.getLsbD (k - 1) = true) ∧
    ((n, k) ∈ adjacentPairs ∨ (k, n) ∈ adjacentPairs)

theorem standsBeside_succ {m : SpotMap} {i j : Nat} (hi : onSpot m i = true) (hj : onSpot m j = true) :
    standsBeside m (i + 1) (j + 1) ↔ onSpot (adjacent i) j = true := by
  have hi10 := onSpot_lt hi
  have hj10 := onSpot_lt hj
  rw [onSpot_adjacent hi10 hj10]
  exact ⟨fun h => h.2.2, fun h => ⟨⟨by omega, by omega, hi⟩, ⟨by omega, by omega, hj⟩, h⟩⟩

theorem standsBeside_symm (m : SpotMap) : Std.Symm (standsBeside m) := ⟨fun _ _ h => ⟨h.2.1, h.1, h.2.2.symm⟩⟩

/-- A map that holds a spot is connected when every two of its spots have a path of adjacent ones between them. -/
theorem connected_iff_paths {m : SpotMap} (h : m ≠ noSpots) :
    connected m = true ↔ ∀ i j, onSpot m i = true → onSpot m j = true →
      Relation.ReflTransGen (standsBeside m) (i + 1) (j + 1) := by
  obtain ⟨a, -, ham, hlow⟩ := lowestSpot_spec h
  rw [connected_iff]
  constructor
  · intro hall
    have hpath (k j : Nat) (hj : onSpot (reachedIn m k) j = true) :
        Relation.ReflTransGen (standsBeside m) (a + 1) (j + 1) := by
      induction k generalizing j with
      | zero => rw [(hlow j).1 hj]
      | succ k ih =>
        rw [reachedIn_succ, onSpot_spread] at hj
        rcases hj with hj | ⟨hjm, i, -, hi, hij⟩
        · exact ih j hj
        · exact (ih i hi).tail ((standsBeside_succ (reachedIn_within h k i hi) hjm).2 hij)
    intro i j hi hj
    rw [← hall] at hi hj
    have := standsBeside_symm m
    exact (Std.Symm.symm _ _ (hpath 9 i hi)).trans (hpath 9 j hj)
  · intro hpaths
    have hreach (n : Nat) (hn : Relation.ReflTransGen (standsBeside m) (a + 1) n) :
        ∃ j, n = j + 1 ∧ onSpot (reachedIn m 9) j = true := by
      induction hn with
      | refl =>
        have hwithin (k : Nat) : onSpot (reachedIn m k) a = true := by
          induction k with
          | zero => exact (hlow a).2 rfl
          | succ k ih => exact reachedIn_succ m k ▸ within_spread m _ a ih
        exact ⟨a, rfl, hwithin 9⟩
      | tail _ hstep ih =>
        obtain ⟨i, rfl, hi⟩ := ih
        rename_i n _
        obtain ⟨j, rfl⟩ := Nat.exists_eq_add_of_le' hstep.2.1.1
        have hj : onSpot m j = true := hstep.2.1.2.2
        have him := reachedIn_within h 9 i hi
        refine ⟨j, rfl, ?_⟩
        rw [← spread_reachedIn_nine h, onSpot_spread]
        exact .inr ⟨hj, i, onSpot_lt hi, hi, (standsBeside_succ him hj).1 hstep⟩
    refine spotMap_ext fun j _ => Bool.eq_iff_iff.2 ⟨reachedIn_within h 9 j, fun hj => ?_⟩
    obtain ⟨k, hk, hon⟩ := hreach _ (hpaths a j ham hj)
    rwa [Nat.succ.inj hk]

/-! ## The statement -/

theorem eq_fullRack_iff (m : SpotMap) : m = fullRack ↔ ∀ n, 1 ≤ n → n ≤ 10 → m.getLsbD (n - 1) = true := by
  constructor
  · rintro rfl n h1 h10
    exact (BitVec.getLsbD_allOnes).trans (decide_eq_true (by omega))
  · intro h
    refine spotMap_ext fun i hi => ?_
    exact (h (i + 1) (by omega) (by omega)).trans ((BitVec.getLsbD_allOnes).trans (decide_eq_true hi)).symm

/-- The ball without its split flag. -/
def BallEntry.plain (b : BallEntry) : BallEntry := { b with split := false }

theorem pinSum_plain (bs : List BallEntry) : pinSum (bs.map BallEntry.plain) = pinSum bs := by
  rw [pinSum, List.map_map]
  rfl

theorem markOf_plain (f : Nat) (bs : List BallEntry) : markOf f (bs.map BallEntry.plain) = markOf f bs := by
  match bs with
  | [] | [_] | [_, _] | _ :: _ :: _ :: _ => rfl

theorem bonusScore_plain (c : Bool) (k : Nat) (later : List BallEntry) :
    bonusScore c k (later.map BallEntry.plain) = bonusScore c k later := by
  rw [bonusScore, bonusScore, List.length_map, ← List.map_take, pinSum_plain]

theorem frameScore_plain (c : Bool) (f : Nat) (r : FrameRec) (later : List BallEntry) :
    frameScore c f { r with balls := r.balls.map BallEntry.plain } (later.map BallEntry.plain) = frameScore c f r later := by
  simp only [frameScore, pinSum_plain, bonusScore_plain]

theorem BallEntry.correct_split (b : BallEntry) (p : Nat) : (b.correct p).split = b.split := by
  unfold BallEntry.correct
  split <;> rfl

/-- Settles O16. The spots that nine spreads reach are those with a path from the lowest one. -/
theorem splitTest : Obligations.SplitTest := by
  refine ⟨fun before after foul => ?_, fun _ _ _ _ _ _ => rfl, BallEntry.correct_split, fun c f r later =>
    ⟨markOf_plain f r.balls, frameScore_plain c f r later⟩⟩
  intro pairs stands adj
  have hstands (i : Nat) : stands (i + 1) ↔ onSpot after i = true :=
    ⟨fun h => h.2.2, fun h => ⟨by omega, onSpot_lt h, h⟩⟩
  have hsucc {n : Nat} (h : stands n) : ∃ i, n = i + 1 := Nat.exists_eq_add_of_le' h.1
  have htwo : 2 ≤ spotCount after ↔ ∃ m n, m < n ∧ stands m ∧ stands n := by
    rw [two_le_spotCount_iff]
    constructor
    · rintro ⟨i, j, hij, hi, hj⟩
      exact ⟨i + 1, j + 1, by omega, (hstands i).2 hi, (hstands j).2 hj⟩
    · rintro ⟨m, n, hmn, hm, hn⟩
      obtain ⟨i, rfl⟩ := hsucc hm
      obtain ⟨j, rfl⟩ := hsucc hn
      exact ⟨i, j, by omega, (hstands i).1 hm, (hstands j).1 hn⟩
  have hpaths (h : 2 ≤ spotCount after) :
      connected after = true ↔ ∀ m n, stands m → stands n → Relation.ReflTransGen adj m n := by
    rw [connected_iff_paths fun h0 => by rw [(spotCount_eq_zero after).2 h0] at h; omega]
    constructor
    · intro hall m n hm hn
      obtain ⟨i, rfl⟩ := hsucc hm
      obtain ⟨j, rfl⟩ := hsucc hn
      exact hall i j ((hstands i).1 hm) ((hstands j).1 hn)
    · exact fun hall i j hi hj => hall _ _ ((hstands i).2 hi) ((hstands j).2 hj)
  have hone : onSpot after 0 = false ↔ ¬ stands 1 := by rw [hstands 0, Bool.not_eq_true]
  simp only [isSplit, Bool.and_eq_true, beq_iff_eq, Bool.not_eq_true', decide_eq_true_eq, and_assoc]
  rw [eq_fullRack_iff, hone, ← htwo]
  refine and_congr_right' (and_congr_right' (and_congr_right' (and_congr_right fun h => ?_)))
  rw [← hpaths h, Bool.not_eq_true]

end Sys2Proof.Machine
end

section
/-! SUPPORT. Every game of the table stays scored through the operations of the session table, of the lane sequencer and of the
transfer unit. Each operation has one lemma, cited by the operations that call it. -/

namespace Sys2Proof.Machine

/-! ## Sessions whose games are scored -/

/-- The bowler's game, when there is one, is scored. -/
def Bowler.gameScored (b : Bowler) : Prop := ∀ g, b.game = some g → g.scored

/-- Every game of the session is scored. -/
def Session.gamesScored (x : Session) : Prop := ∀ b ∈ x.bowlers, b.gameScored

/-- An offer taken names a frame of a game (R157). -/
def TransferRec.offersFrame : TransferRec → Prop
  | .target _ _ _ o _ _ _ => o.frame ≤ 10
  | _ => True

theorem gamesSound_iff (s : State) :
    gamesSound s ↔ (∀ x ∈ s.sessions, x.gamesScored) ∧ s.transfer.record.offersFrame := by
  refine and_congr_right' ⟨fun h => ?_, fun h r tag peer o parts bad n he => ?_⟩
  · cases he : s.transfer.record with
    | idle | source => trivial
    | target => exact h _ _ _ _ _ _ _ he
  · rw [he] at h
    exact h

theorem Bowler.gameScored.mapGame {b : Bowler} (h : b.gameScored) {f : Game → Game} (hf : ∀ g, g.scored → (f g).scored) :
    ({ b with game := b.game.map f } : Bowler).gameScored := by
  intro g hg
  obtain ⟨g0, hg0, rfl⟩ := Option.map_eq_some_iff.1 hg
  exact hf g0 (h g0 hg0)

theorem Session.gamesScored.bowler {x : Session} (h : x.gamesScored) {i : Nat} {b : Bowler} (hb : x.bowler? i = some b) :
    b.gameScored := by
  unfold Session.bowler? at hb
  split at hb
  · cases hb
  · exact h b (List.mem_of_getElem? hb)

theorem Session.gamesScored.modifyBowler {x : Session} (h : x.gamesScored) (i : Nat) {f : Bowler → Bowler}
    (hf : ∀ b, b.gameScored → (f b).gameScored) : (x.modifyBowler i f).gamesScored := by
  unfold Session.modifyBowler
  split
  · exact h
  · intro b hb
    obtain ⟨k, hk⟩ := List.mem_iff_getElem?.1 hb
    rw [List.getElem?_modify] at hk
    obtain ⟨b0, hb0, rfl⟩ := Option.map_eq_some_iff.1 hk
    have h0 := h b0 (List.mem_of_getElem? hb0)
    split
    · exact hf b0 h0
    · exact h0

theorem Session.gamesScored.modifyGame {x : Session} (h : x.gamesScored) (i : Nat) {f : Game → Game}
    (hf : ∀ g, g.scored → (f g).scored) : (x.modifyGame i f).gamesScored :=
  h.modifyBowler i fun _ hb => hb.mapGame hf

theorem Session.startGame_gamesScored (n : Nat) (x : Session) : (x.startGame n).gamesScored := by
  intro b hb g hg
  obtain ⟨b0, -, rfl⟩ := List.mem_map.1 hb
  cases hg
  exact Game.fresh_scored _ _ _

theorem passOver_gameScored (f i : Nat) {bs : List Bowler} (h : ∀ b ∈ bs, b.gameScored) :
    ∀ b ∈ (passOver f i bs).1, b.gameScored := by
  induction bs generalizing i with
  | nil => exact h
  | cons b bs ih =>
    obtain ⟨hb, hbs⟩ := List.forall_mem_cons.1 h
    unfold passOver
    split
    · exact List.forall_mem_cons.2 ⟨hb.mapGame fun g hg => Game.blank_scored hg f, ih (i + 1) hbs⟩
    · exact h

theorem Session.gamesScored.choose {x : Session} (h : x.gamesScored) : x.choose.1.gamesScored := by
  have hpassed (k i f : Nat) : ∀ b ∈ x.bowlers.take k ++ (passOver f i (x.bowlers.drop k)).1, b.gameScored :=
    List.forall_mem_append.2 ⟨fun b hb => h b (List.mem_of_mem_take hb),
      passOver_gameScored f i fun b hb => h b (List.mem_of_mem_drop hb)⟩
  unfold Session.choose
  split
  · exact h
  · dsimp only
    split
    · exact hpassed _ _ _
    · exact hpassed _ _ _

theorem Session.gamesScored.truncate {x : Session} (h : x.gamesScored) (i : Nat) : (x.truncate i).gamesScored := by
  unfold Session.truncate
  split
  · exact h
  · rename_i g hg
    split
    · exact h
    · rename_i g' _ hcut
      obtain ⟨b, hb, hbg⟩ := Option.bind_eq_some_iff.1 hg
      have hg' := Game.truncate_scored (h.bowler hb g hbg)
      rw [hcut] at hg'
      exact h.modifyGame i fun _ _ => hg'

/-! ## Writes of the table -/

section
variable {s : State}

theorem gamesSound.sessions (h : gamesSound s) {x : Session} (hx : x ∈ s.sessions) : x.gamesScored := h.1 x hx

theorem gamesSound.session (h : gamesSound s) {id : Nat} {x : Session} (hx : s.session? id = some x) : x.gamesScored :=
  h.sessions (List.mem_of_find?_eq_some hx)

/-- A state with the same sessions and the same transfer record. -/
theorem gamesSound.of_same (h : gamesSound s) {t : State} (hs : t.sessions = s.sessions) (ht : t.transfer = s.transfer) :
    gamesSound t := by
  rwa [gamesSound, hs, ht]

/-- Other sessions under the same transfer record. -/
theorem gamesSound.of_sessions (h : gamesSound s) {t : State} (hs : ∀ x ∈ t.sessions, x.gamesScored)
    (ht : t.transfer = s.transfer) : gamesSound t := by
  refine ⟨hs, ?_⟩
  rw [ht]
  exact h.2

/-- Another transfer record under the same sessions. -/
theorem gamesSound.of_record (h : gamesSound s) {t : State} (hs : t.sessions = s.sessions)
    (ht : t.transfer.record.offersFrame) : gamesSound t := by
  rw [gamesSound_iff, hs]
  exact ⟨h.1, ht⟩

theorem gamesSound.putSession (h : gamesSound s) {x : Session} (hx : x.gamesScored) : gamesSound (putSession x s) := by
  refine h.of_sessions (fun y hy => ?_) (by simp)
  obtain ⟨z, hz, rfl⟩ := List.mem_map.1 hy
  split
  · exact hx
  · exact h.sessions hz

/-- A record of the table written back with other fields and the same bowlers. -/
theorem gamesSound.putUpdated (h : gamesSound s) {id : Nat} {x y : Session} (hx : s.session? id = some x)
    (hy : y.bowlers = x.bowlers) : gamesSound (Machine.putSession y s) :=
  h.putSession (by simpa only [Session.gamesScored, hy] using h.session hx)

theorem gamesSound.setSeq (h : gamesSound s) (l : LaneId) (q : Sequencer) : gamesSound (s.setSeq l q) := h

theorem gamesSound.setDeck (h : gamesSound s) (l : LaneId) (d : Deck) : gamesSound (s.setDeck l d) := h

theorem gamesSound.setHolds (h : gamesSound s) (l : LaneId) (q : HoldSet) : gamesSound (setHolds l q s) := h

theorem gamesSound.answerPending (h : gamesSound s) (l : LaneId) (r : Result) (d : ReplyData) :
    gamesSound (answerPending l r d s) := h.of_same (by simp) (by simp)

theorem gamesSound.enterStandby (h : gamesSound s) (l : LaneId) : gamesSound (enterStandby l s) :=
  h.of_same (by simp) (by simp)

theorem gamesSound.freshBowler (h : gamesSound s) (x : Session) : gamesSound (freshBowler x s) :=
  h.of_same (by simp) (by simp)

theorem gamesSound.ite {t : State} (h : gamesSound s) (ht : gamesSound t) {p : Prop} {_ : Decidable p} :
    gamesSound (if p then s else t) := by
  split
  · exact h
  · exact ht

theorem gamesSound.display (h : gamesSound s) (d : Display) : gamesSound (display d s) := h.of_same (by simp) (by simp)

theorem gamesSound.dropSession (h : gamesSound s) (id : Nat) : gamesSound (dropSession id s) :=
  h.of_sessions (fun _ hy => h.sessions (List.mem_of_mem_filter hy)) (by simp)

theorem mem_insertSession {x y : Session} {xs : List Session} (h : y ∈ insertSession x xs) : y = x ∨ y ∈ xs := by
  induction xs with
  | nil => exact .inl (List.mem_singleton.1 h)
  | cons z xs ih =>
    unfold insertSession at h
    split at h
    · exact List.mem_cons.1 h
    · rcases List.mem_cons.1 h with rfl | h
      · exact .inr (by simp)
      · exact (ih h).imp_right (List.mem_cons_of_mem z)

theorem gamesSound.addSession (h : gamesSound s) {x : Session} (hx : x.gamesScored) : gamesSound (addSession x s) := by
  refine h.of_sessions (fun y hy => ?_) (by simp)
  rcases mem_insertSession hy with rfl | hy
  · exact hx
  · exact h.sessions hy

/-! ## Turn order (R76 to R80) -/

theorem gamesSound.gameEnd (h : gamesSound s) (id : Nat) : gamesSound (gameEnd id s) := by
  unfold Machine.gameEnd
  split
  · exact h
  · rename_i x _
    have ha : gamesSound (archiveAll id x.bowlers s) := h.of_same (by simp) (by simp)
    dsimp only
    split
    · exact ha.dropSession id
    · exact ha.putSession (Session.startGame_gamesScored _ _)

theorem gamesSound.selectFresh (h : gamesSound s) (id : Nat) : gamesSound (selectFresh id s).1 := by
  unfold Machine.selectFresh
  split
  · exact h
  · rename_i x hx
    have hy := (h.session hx).choose
    split
    all_goals rename_i hc; rw [hc] at hy
    · exact h.putSession hy
    · exact h.putSession hy
    · split
      · exact h.putSession hy
      · exact h.putSession hy

theorem gamesSound.nextFrame (h : gamesSound s) (id f : Nat) : gamesSound (nextFrame id f s).1 := by
  unfold Machine.nextFrame
  split
  · exact (h.gameEnd id).selectFresh id
  · split
    · exact h
    · rename_i x hx
      exact (h.putUpdated (y := x.enterFrame (f + 1)) hx rfl).selectFresh id

theorem gamesSound.selectBoth (h : gamesSound s) (a b : Nat) : gamesSound (selectBoth a b s).1 :=
  (h.selectFresh a).selectFresh b

theorem gamesSound.clearCross (h : gamesSound s) (id : Nat) : gamesSound (clearCross id s) := by
  unfold Machine.clearCross
  split
  · exact h
  · rename_i x hx
    exact h.putUpdated hx rfl

theorem gamesSound.bothGameEnds (h : gamesSound s) (a b : Nat) : gamesSound (bothGameEnds a b s) := by
  have hf : gamesSound (s.setFree (s.free + 1)) := h.of_same (by simp) (by simp)
  have hends : gamesSound (if Config.freeRunFirst s.free then Machine.gameEnd b (Machine.gameEnd a (s.setFree (s.free + 1)))
      else Machine.gameEnd a (Machine.gameEnd b (s.setFree (s.free + 1)))) := by
    split
    · exact (hf.gameEnd a).gameEnd b
    · exact (hf.gameEnd b).gameEnd a
  unfold Machine.bothGameEnds
  dsimp only
  split
  · exact hends.clearCross a
  · exact hends.clearCross b
  · exact hends

theorem gamesSound.passBarrier (h : gamesSound s) {x y : Session} (hx : x.gamesScored) (hy : y.gamesScored) (b : Barrier) :
    gamesSound (passBarrier x y b s).1 := by
  unfold Machine.passBarrier
  split
  · exact ((h.putSession (Session.startGame_gamesScored 1 x)).putSession (Session.startGame_gamesScored 1 y)).selectBoth _ _
  · rename_i f
    split
    · exact (h.bothGameEnds _ _).selectBoth _ _
    · exact ((h.putSession (x := x.enterFrame (f + 1)) hx).putSession (x := y.enterFrame (f + 1)) hy).selectBoth _ _

theorem gamesSound.barrierTest (h : gamesSound s) (id : Nat) : gamesSound (barrierTest id s).1 := by
  unfold Machine.barrierTest
  split
  · exact h
  · rename_i x hx
    split
    · rename_i b y _ hy
      have hx' := h.session hx
      have hy' := h.sessions (List.mem_of_find?_eq_some hy)
      split
      · split
        · exact h.passBarrier hx' hy' b
        · exact h.passBarrier hy' hx' b
      · exact h
    · exact h

theorem gamesSound.selectTurn (h : gamesSound s) (id : Nat) : gamesSound (selectTurn id s).1 := by
  unfold Machine.selectTurn
  split
  · exact h
  · rename_i x hx
    have hy := (h.session hx).choose
    split
    all_goals rename_i hc; rw [hc] at hy
    · exact h.putSession hy
    · exact h.putSession hy
    · rename_i y
      dsimp only
      split
      · exact (h.putSession (x := { y with state := .waitPartner _ }) hy).barrierTest id
      · exact (h.putSession hy).nextFrame id _

theorem gamesSound.uncross (h : gamesSound s) (id : Nat) : gamesSound (uncross id s).1 := by
  unfold Machine.uncross
  split
  · exact h
  · rename_i x hx
    have hput : gamesSound (Machine.putSession { x with cross := false } s) := h.putUpdated hx rfl
    split
    · exact (h.putSession (Session.startGame_gamesScored 1 _)).selectFresh id
    · exact hput.nextFrame id _
    · exact hput

/-! ## Turn starts (R81, R115, R116) -/

theorem gamesSound.admission (h : gamesSound s) (l : LaneId) {x : Session} (hx : x.gamesScored) (i : Nat) (g : Game)
    (p : GamePos) : gamesSound (admission l x i g p s).2 := by
  have hcharge (n b c a : Nat) : gamesSound (makeCharge l x i n b c a s) := by
    unfold makeCharge
    exact gamesSound.putSession (h.of_same (by simp) (by simp)) (hx.modifyGame i fun _ hg => hg)
  unfold Machine.admission
  dsimp only
  split
  · exact h.of_same (by simp) (by simp)
  · split
    · exact h.of_same (by simp) (by simp)
    · exact h.of_same (by simp) (by simp)
  · split
    · split
      · exact h.of_same (by simp) (by simp)
      · split
        · exact h.of_same (by simp) (by simp)
        · exact gamesSound.of_same (hcharge p.number s.gameBand.1 s.gameBand.2 (gameCharge s.gameBand.2 x.discount))
            (by simp) (by simp)
    · exact h.of_same (by simp) (by simp)

theorem gamesSound.startTurn (h : gamesSound s) (l : LaneId) (id : Nat) : gamesSound (startTurn l id s) := by
  unfold Machine.startTurn
  split
  · exact h
  · rename_i x hx
    split
    · split
      · rename_i p i _ _ _ _ g _
        have ha := h.admission l (h.session hx) i g p
        dsimp only
        split
        · split
          · refine gamesSound.display (gamesSound.setSeq ?_ l _) _
            split
            · rename_i y hy
              exact ha.putUpdated hy rfl
            · exact ha
          · exact ha.display _
        · exact h
      · exact h
    · exact h

/-- A fold keeps the games scored when each of its steps does. -/
theorem gamesSound.foldl {α : Type} (h : gamesSound s) {f : State → α → State}
    (hf : ∀ u a, gamesSound u → gamesSound (f u a)) (as : List α) : gamesSound (as.foldl f s) := by
  induction as generalizing s with
  | nil => exact h
  | cons a as ih => exact ih (hf s a h)

theorem gamesSound.startTurns {r : State × List Nat} (h : gamesSound r.1) : gamesSound (startTurns r) :=
  gamesSound.foldl (h.foldl (fun _ id hu => hu.startTurn .A id) _) (fun _ id hu => hu.startTurn .B id) _

/-! ## Frame ends, reads and offers (R53, R58, R156) -/

theorem gamesSound.truncateCurrent (h : gamesSound s) (id : Nat) : gamesSound (truncateCurrent id s) := by
  unfold Machine.truncateCurrent
  split
  · exact h
  · rename_i x hx
    split
    · exact h
    · rename_i i _
      exact h.putSession ((h.session hx).truncate i)

theorem gamesSound.scoreRead (h : gamesSound s) (l : LaneId) (id i : Nat) (m : SpotMap) (e u : Bool) :
    gamesSound (scoreRead l id i m e u s).1 := by
  unfold Machine.scoreRead
  split
  · exact h
  · rename_i x hx
    split
    · rename_i p b g _ hb
      dsimp only
      split
      · exact h
      · refine gamesSound.display (h.putSession ?_) _
        obtain ⟨b0, hb0, hg⟩ := Option.bind_eq_some_iff.1 hb
        obtain ⟨g0, hg0, heq⟩ := Option.map_eq_some_iff.1 hg
        cases heq
        have happend := Game.append_scored ((h.session hx).bowler hb0 g hg0).length p.frame
          (ballResult l p.frame (g.ballsOf p.frame) m e u)
        split
        all_goals
          refine (h.session hx).modifyGame i fun _ _ => ?_
          split
          · exact Game.finish_scored happend.length
          · exact happend
    · exact h

theorem gamesSound.startOffer (h : gamesSound s) (id : Nat) : gamesSound (startOffer id s) := by
  unfold Machine.startOffer
  split
  · rename_i x _ _ _ _ _ _ _ hx _
    refine gamesSound.of_record (h.putUpdated (y := { x with turn := .none, state := .moving .sending }) hx rfl) (by simp) ?_
    simp [TransferRec.offersFrame]
  · exact h

/-! ## The entry into ARMED (R1, R87) -/

theorem gamesSound.resumeOn (h : gamesSound s) (l : LaneId) : gamesSound (resumeOn l s).1.1 := by
  unfold Machine.resumeOn
  split
  · exact h
  · rename_i x hx
    have hs := h.sessions (List.mem_of_find?_eq_some hx)
    split
    · exact h.putSession hs
    · dsimp only
      have hput (i : Nat) := h.putSession (Session.gamesScored.truncate (x := { x with state := .playing }) hs i)
      split
      · refine gamesSound.freshBowler ?_ _
        split
        · exact hput _
        · exact h.putSession hs
      · split
        · exact hput _
        · exact h.putSession hs
    · rename_i b _
      have hput : gamesSound (Machine.putSession { x with state := .waitPartner b } s) := h.putSession hs
      dsimp only
      split
      · exact hput.barrierTest x.id
      · exact hput.uncross x.id
    · exact h

theorem gamesSound.armedTurn (h : gamesSound s) (l : LaneId) (id : Nat) : gamesSound (armedTurn l s id) := by
  unfold Machine.armedTurn
  split
  · exact h
  · rename_i x hx
    split
    · split
      · exact ((h.putUpdated (y := { x with turn := .none }) hx rfl).selectTurn id).startTurns
      · exact h.startOffer id
      · exact h.startTurn l id
      · exact h
    · exact h

theorem gamesSound.armedReport (h : gamesSound s) (l : LaneId) : gamesSound (armedReport l s) := by
  have hfold : gamesSound (((Machine.startTurns (Machine.resumeOn l s).1).sessions.map (·.id)).foldl (Machine.armedTurn l)
      (Machine.startTurns (Machine.resumeOn l s).1)) :=
    (h.resumeOn l).startTurns.foldl (fun _ id hu => hu.armedTurn l id) _
  unfold Machine.armedReport
  dsimp only
  split
  · exact (hfold.selectTurn _).startTurns
  · exact hfold

/-! ## The lane sequencer (R7, R15, R22) -/

theorem gamesSound.enterArmed (h : gamesSound s) (l : LaneId) : gamesSound (enterArmed l s) :=
  gamesSound.armedReport (h.of_same (by simp) (by simp)) l

theorem gamesSound.testHeld (h : gamesSound s) (l : LaneId) : gamesSound (testHeld l s) := by
  unfold Machine.testHeld
  split
  · split
    · exact h
    · split
      · exact h.of_same (by simp) (by simp)
      · exact h.enterArmed l
  · exact h

theorem gamesSound.dropReasons (h : gamesSound s) (l : LaneId) (f : HoldSet → HoldSet) : gamesSound (dropReasons l f s) :=
  gamesSound.testHeld (h.of_same (by simp) (by simp)) l

theorem gamesSound.rackTest (h : gamesSound s) (l : LaneId) (e : Bool) : gamesSound (rackTest l e s) := by
  unfold Machine.rackTest
  split
  · exact h.of_same (by simp) (by simp)
  · exact h.enterArmed l

theorem gamesSound.cycleEnds (h : gamesSound s) (l : LaneId) : gamesSound (cycleEnds l s) := by
  have hd (d : Deck) : gamesSound (s.setDeck l d) := h
  unfold Machine.cycleEnds
  dsimp only
  refine .ite (.rackTest (.ite (.setHolds (.setSeq ?_ l _) l _) (.setSeq ?_ l _)) l _) (.enterStandby (.setSeq ?_ l _) l)
  all_goals
    split
    · exact .ite ((hd _).answerPending l _ _) (hd _)
    · exact hd _

theorem gamesSound.meterTold (h : gamesSound s) (l : LaneId) : gamesSound (meterTold l s) :=
  gamesSound.dropReasons (h.of_same (by simp) (by simp)) l _

theorem gamesSound.passRetry (h : gamesSound s) (l : LaneId) (r : WaitReason) : gamesSound (passRetry l r s) :=
  gamesSound.dropReasons (h.of_same (by simp) (by simp)) l _

theorem gamesSound.deckRead (h : gamesSound s) (l : LaneId) (levels : List Nat) : gamesSound (deckRead l levels s) := by
  have hd : gamesSound (s.setDeck l ((s.deck l).takeRead levels)) := h
  unfold Machine.deckRead
  dsimp only
  refine .ite (.setSeq ?_ l _) (.setSeq ?_ l _)
  all_goals
    split
    · split
      · exact hd.scoreRead l _ _ _ _ _
      · exact hd
    · exact hd

theorem gamesSound.calibrationRead (h : gamesSound s) (l : LaneId) (levels : List Nat) :
    gamesSound (calibrationRead l levels s) := by
  unfold Machine.calibrationRead
  dsimp only
  split
  · exact h.of_same (by simp) (by simp)
  · exact gamesSound.rackTest (h.of_same (by simp) (by simp)) l _

/-! ## Removals (R73, R121) -/

theorem gamesSound.withdrawTurn (h : gamesSound s) (x : Session) : gamesSound (withdrawTurn x s) := by
  unfold Machine.withdrawTurn
  split
  · exact h.meterTold _
  · exact h

theorem gamesSound.takeOut (h : gamesSound s) (x : Session) : gamesSound (takeOut x s) :=
  gamesSound.dropSession (h.of_same (by simp) (by simp)) _

theorem gamesSound.removeSession (h : gamesSound s) (id : Nat) : gamesSound (removeSession id s) := by
  unfold Machine.removeSession
  split
  · exact h
  · rename_i x _
    have hout := (h.takeOut x).withdrawTurn x
    dsimp only
    split
    · exact (hout.uncross _).startTurns
    · exact hout

theorem gamesSound.removeUsers (h : gamesSound s) (l : LaneId) : gamesSound (removeUsers l s) := by
  unfold Machine.removeUsers
  split
  · exact h
  · exact (h.takeOut _).withdrawTurn _
  · have hf : gamesSound (s.setFree (s.free + 1)) := h.of_same (by simp) (by simp)
    dsimp only
    refine gamesSound.withdrawTurn (gamesSound.withdrawTurn ?_ _) _
    split
    · exact (hf.takeOut _).takeOut _
    · exact (hf.takeOut _).takeOut _

end

end Sys2Proof.Machine
end

section
/-! SUPPORT. Every game of the table stays scored through every command, and the statement about it. -/

namespace Sys2Proof.Machine

/-! ## The transfer unit (R158 to R164) -/

section
variable {s : State}

theorem gamesSound.send (h : gamesSound s) (d : Nat) (k : FrameMark) (p : Payload) : gamesSound (send d k p s) :=
  h.of_same (by simp) (by simp)

theorem gamesSound.reply (h : gamesSound s) (m : Msg) (n : ReqName) (r : Result) (d : ReplyData) :
    gamesSound (reply m n r d s) := h.send _ _ _

theorem gamesSound.refuse (h : gamesSound s) (m : Msg) (n : ReqName) (r : RefuseReason) : gamesSound (refuse m n r s) :=
  h.reply m n _ _

theorem gamesSound.deferredReply (h : gamesSound s) (a t : Nat) (n : ReqName) (r : Result) (d : ReplyData) :
    gamesSound (deferredReply a t n r d s) := h.send _ _ _

theorem gamesSound.sendTransfer (h : gamesSound s) (d t : Nat) (m : TransferMsg) : gamesSound (sendTransfer d t m s) :=
  h.send _ _ _

theorem gamesSound.notice (h : gamesSound s) (n : FaultNotice) : gamesSound (notice n s) := h.send _ _ _

theorem gamesSound.takeFrame (h : gamesSound s) (d : Byte) : gamesSound (takeFrame d s) := h

theorem gamesSound.transferIdle (h : gamesSound s) : gamesSound (transferIdle s) := h.of_record rfl trivial

theorem gamesSound.sendPart (h : gamesSound s) (t p : Nat) (l : LaneId) (i : Nat) (r : Nat × Nat) (q : Part) :
    gamesSound (sendPart t p l i r q s) := by
  have hrec : gamesSound (s.setTransfer
      { s.transfer with record := .source (.sending q) (some t) p l i r (some Config.stepLimit) }) := h.of_record rfl trivial
  unfold Machine.sendPart
  dsimp only
  split
  · exact hrec.sendTransfer _ _ _
  · exact hrec

theorem gamesSound.sendCommit (h : gamesSound s) (t p : Nat) (l : LaneId) (i : Nat) (r : Nat × Nat) :
    gamesSound (sendCommit t p l i r s) := by
  have hrec : gamesSound (s.setTransfer
      { s.transfer with record := .source .committed (some t) p l i r (some Config.stepLimit) }) := h.of_record rfl trivial
  unfold Machine.sendCommit
  refine gamesSound.sendTransfer ?_ _ _ _
  dsimp only
  split
  · rename_i x hx
    exact hrec.putUpdated hx rfl
  · exact hrec

theorem gamesSound.partAcked (h : gamesSound s) (t : Nat) (m : TransferMsg) : gamesSound (partAcked t m s) := by
  unfold Machine.partAcked
  split
  · split
    · split
      · exact h.sendPart _ _ _ _ _ _
      · exact h.sendCommit _ _ _ _ _
    · exact h
  · exact h

theorem gamesSound.backToPlaying (h : gamesSound s) (i : Nat) : gamesSound (backToPlaying i s) := by
  unfold Machine.backToPlaying
  split
  · rename_i x hx
    exact ((h.putUpdated (y := { x with state := .playing }) hx rfl).selectTurn i).startTurns
  · exact h

theorem gamesSound.moveFails (h : gamesSound s) (i : Nat) (r : Nat × Nat) (st : MoveStep) (w : Option AnswerReason) :
    gamesSound (moveFails i r st w s) :=
  ((h.backToPlaying i).deferredReply _ _ _ _ _).transferIdle

theorem gamesSound.park (h : gamesSound s) (i : Nat) : gamesSound (park i s) := by
  unfold Machine.park
  split
  · rename_i x hx
    exact (h.putUpdated (y := { x with state := .parked, turn := .none }) hx rfl).notice _
  · exact h

theorem gamesSound.moveDone (h : gamesSound s) (i p : Nat) (r : Nat × Nat) : gamesSound (moveDone i p r s) := by
  have hf : gamesSound (s.setFree (s.free + 1)) := h
  exact (hf.transferIdle.dropSession i).deferredReply _ _ _ _ _

theorem gamesSound.endCommitted (h : gamesSound s) (r : Option AnswerReason) (m : Msg) :
    gamesSound (endCommitted r m s) := by
  unfold Machine.endCommitted
  split
  · split
    · split
      · exact h.moveDone _ _ _
      · exact h.moveFails _ _ _ _
    · exact h
  · exact h

theorem gamesSound.startTransfer (h : gamesSound s) (i : Nat) : gamesSound (startTransfer i s) := by
  unfold Machine.startTransfer
  split
  · exact h
  · rename_i x hx
    have hput (c : Option Nat) := (h.putUpdated (y := { x with turn := .none, current := c }) hx rfl).startOffer i
    dsimp only
    split
    · split
      · exact (hput _).meterTold _
      · exact hput _
    · exact h.startOffer i

/-! ## The installation of a session (R161, R162) -/

theorem shapeFrames_length (n : Nat) (cs : List Nat) (bs : List CarriedBall) : (shapeFrames n cs bs).length = cs.length := by
  induction cs generalizing n bs with
  | nil => rfl
  | cons c cs ih => exact congrArg (· + 1) (ih _ _)

theorem carriedFrames_length {f : BallsFields} (h : f.counts.length ≤ 10) : (carriedFrames f).length = 10 := by
  unfold carriedFrames
  dsimp only
  rw [List.length_append, List.length_replicate, List.length_map, shapeFrames_length]
  omega

theorem installBowler_gameScored (o : OfferFields) {p : IdentFields × BallsFields} (h : p.2.counts.length ≤ 10) :
    (installBowler o p).gameScored := by
  intro g hg
  cases hg
  exact Game.recompute_scored (carriedFrames_length h)

/-- A bowler's part that passes the structure check has no more filled frames than the offer's frame (R161). -/
theorem bowlerSound_length {o : OfferFields} {i : Nat} {f : BallsFields} (h : bowlerSound o i f = true) :
    f.counts.length ≤ o.frame := by
  unfold bowlerSound at h
  simp only [Bool.and_eq_true, beq_iff_eq] at h
  split at h <;> omega

theorem allSound_length {o : OfferFields} {i : Nat} {ps : List (IdentFields × BallsFields)} (h : allSound o i ps = true) :
    ∀ p ∈ ps, p.2.counts.length ≤ o.frame := by
  induction ps generalizing i with
  | nil => simp
  | cons p ps ih =>
    obtain ⟨hp, hps⟩ := Bool.and_eq_true_iff.1 h
    exact List.forall_mem_cons.2 ⟨bowlerSound_length hp, ih hps⟩

theorem commitCheck_ok {o : OfferFields} {parts : List BowlerParts} {bad : Bool} {ps : List (IdentFields × BallsFields)}
    (h : commitCheck o parts bad = .ok ps) : completeParts parts = some ps ∧ bad = false ∧ allSound o 1 ps = true := by
  unfold commitCheck at h
  split at h
  · cases h
  · split at h
    · cases h
    · rename_i hcheck
      cases h
      simp only [Bool.or_eq_true, Bool.not_eq_true', not_or, Bool.not_eq_true, Bool.not_eq_false] at hcheck
      exact ⟨‹_›, hcheck.1, hcheck.2⟩

theorem gamesSound.install (h : gamesSound s) (tag peer : Nat) {o : OfferFields} {ps : List (IdentFields × BallsFields)}
    (hps : ∀ p ∈ ps, p.2.counts.length ≤ 10) : gamesSound (install tag peer o ps s) := by
  unfold Machine.install
  refine gamesSound.startTurns (gamesSound.selectTurn ?_ _)
  have hadd : gamesSound (Machine.transferIdle (Machine.sendTransfer peer tag .done (Machine.addSession
      { id := s.newId, home := o.lane, cross := false, state := .playing, size := o.size
        bowlers := ps.map (installBowler o)
        pos := some { number := o.number, frame := o.frame, lane := o.lane }
        turn := .none, current := if o.current = 0 then none else some o.current, limit := o.limit
        discount := o.discount } s))) := by
    refine ((h.addSession fun b hb => ?_).sendTransfer _ _ _).transferIdle
    obtain ⟨p, hp, rfl⟩ := List.mem_map.1 hb
    exact installBowler_gameScored o (hps p hp)
  split
  · exact hadd.uncross _
  · exact hadd

/-! ## Resets (R85, R86, R183, R188) -/

theorem Session.warm_bowlers (x : Session) : x.warm.bowlers = x.bowlers := by
  unfold Session.warm
  split <;> rfl

theorem Session.kept_bowlers (x : Session) : x.kept.bowlers = x.bowlers := by
  unfold Session.kept
  dsimp only
  split <;> rfl

/-- Sessions rewritten with their bowlers as they are. -/
theorem gamesSound.map_sessions (h : gamesSound s) {f : Session → Session} (hf : ∀ x, (f x).bowlers = x.bowlers) :
    ∀ y ∈ s.sessions.map f, y.gamesScored := by
  intro y hy
  obtain ⟨x, hx, rfl⟩ := List.mem_map.1 hy
  simpa only [Session.gamesScored, hf] using h.sessions hx

theorem gamesSound.truncateLost (h : gamesSound s) (l : LaneId) : gamesSound (truncateLost l s) := by
  unfold Machine.truncateLost
  split
  · split
    · split
      · rename_i x hx
        exact h.putSession ((h.session hx).truncate _)
      · exact h
    · exact h
  · exact h

theorem gamesSound.notices (h : gamesSound s) (ids : List Nat) :
    gamesSound (ids.foldl (fun s id => Machine.notice (.sessionParked id) s) s) := h.foldl (fun _ _ hu => hu.notice _) ids

theorem gamesSound.recover (h : gamesSound s) (l : LaneId) : gamesSound (recover l s) := by
  unfold Machine.recover
  split
  · exact h.of_same (by simp) (by simp)
  · exact h

theorem gamesSound.warmReset (h : gamesSound s) (c : WarmCause) (low : Bool) : gamesSound (warmReset c low s) := by
  have hcut := (h.truncateLost .A).truncateLost .B
  unfold Machine.warmReset
  refine gamesSound.foldl (gamesSound.recover (gamesSound.recover (.ite (.send ?_ _ _ _) ?_) .A) .B)
    (fun u id hu => (hu.selectTurn id).startTurns) _
  all_goals
    refine .ite (gamesSound.notice (gamesSound.notices ?_ _) _) (gamesSound.notices ?_ _)
    all_goals
      rw [gamesSound_iff]
      exact ⟨hcut.map_sessions Session.warm_bowlers, trivial⟩

theorem gamesSound.closeFoundOpen (h : gamesSound s) (l : LaneId) : gamesSound (closeFoundOpen l s) := by
  unfold Machine.closeFoundOpen
  split
  · exact h.of_same (by simp) (by simp)
  · exact h

theorem gamesSound.powerUp (h : gamesSound s) (kept : Bool) (strap : Nat) (full low : Bool) :
    gamesSound (powerUp kept strap full low s) := by
  unfold Machine.powerUp
  refine gamesSound.send (.ite (gamesSound.notice (gamesSound.notices (.closeFoundOpen (.closeFoundOpen ?_ .A) .B) _) _)
    (gamesSound.notices (.closeFoundOpen (.closeFoundOpen ?_ .A) .B) _)) _ _ _
  all_goals
    rw [gamesSound_iff]
    refine ⟨?_, trivial⟩
    dsimp only
    split
    · exact h.map_sessions Session.kept_bowlers
    · simp

theorem gamesSound.tick (h : gamesSound s) : gamesSound (tick s) := by
  unfold Machine.tick
  split
  · rw [gamesSound_iff] at h ⊢
    refine ⟨h.1, ?_⟩
    have hrec := h.2
    dsimp only
    unfold Transfer.tick
    cases he : s.transfer.record with
    | idle => simp [he, TransferRec.offersFrame]
    | source => trivial
    | target => rw [he] at hrec; exact hrec
  · exact h

end

/-! ## Requests -/

/-- The event leaves every game scored. -/
def keepsGames (e : State → State) : Prop := ∀ s, gamesSound s → gamesSound (e s)

/-- An event that writes neither the session table nor the transfer unit. -/
theorem keepsGames_of_same {e : State → State} (h : ∀ s, (e s).sessions = s.sessions ∧ (e s).transfer = s.transfer) :
    keepsGames e := fun s hs => hs.of_same (h s).1 (h s).2

theorem keepsGames_request {α : Type} {name : ReqName} {parse : List Byte → Option α} {owner : α → State → State} (m : Msg)
    (h : ∀ a, keepsGames (owner a)) : keepsGames (request name parse owner m) := by
  intro s hs
  have hf := hs.takeFrame m.dest
  unfold request
  dsimp only
  split
  · exact hf
  · split
    · split
      · split
        · exact h _ _ hf
        · exact hf.refuse _ _ _
      · exact hf.refuse _ _ _
    · exact hf

theorem keepsGames_forTransfer {unit : State → State} (m : Msg) (h : keepsGames unit) : keepsGames (forTransfer m unit) := by
  intro s hs
  unfold forTransfer
  dsimp only
  split
  · exact h _ (hs.takeFrame m.dest)
  · exact hs.takeFrame m.dest

theorem keepsGames_requestOrAll {α : Type} {name : ReqName} {parse : List Byte → Option α} {owner both : α → State → State}
    (m : Msg) (ho : ∀ a, keepsGames (owner a)) (hb : ∀ a, keepsGames (both a)) :
    keepsGames (requestOrAll name parse owner both m) := by
  intro s hs
  have hf := hs.takeFrame m.dest
  unfold requestOrAll
  split
  · exact keepsGames_request m ho s hs
  · dsimp only
    split
    · exact .ite (hb _ _ hf) hf
    · exact hf

end Sys2Proof.Machine
end

section
/-! SUPPORT. What the owners of the requests and the events of the station do to the games of the table, and the statement that
every step leaves them scored. -/

namespace Sys2Proof.Machine

/-! ## Requests of class LANE_REQ -/

theorem keepsGames_takeHold (m : Msg) : keepsGames (takeHold m) :=
  keepsGames_requestOrAll m
    (fun a => keepsGames_of_same fun s => by unfold ownHold; split <;> simp)
    (fun a => keepsGames_of_same fun s => by unfold holdBoth; split <;> simp)

theorem keepsGames_takeRelease (m : Msg) : keepsGames (takeRelease m) := by
  refine keepsGames_requestOrAll m (fun a s hs => ?_) (fun a s hs => (hs.dropReasons .A _).dropReasons .B _)
  unfold ownRelease
  split
  · exact (hs.reply _ _ _ _).dropReasons _ _
  · exact hs.refuse _ _ _

theorem keepsGames_takeSetHoldMode (m : Msg) : keepsGames (takeSetHoldMode m) :=
  keepsGames_request m fun a => keepsGames_of_same fun s => by unfold ownSetHoldMode; split <;> simp

theorem keepsGames_takeLaneReset (m : Msg) : keepsGames (takeLaneReset m) := by
  refine keepsGames_request m fun a s hs => ?_
  unfold ownLaneReset
  split
  · exact hs.refuse _ _ _
  · rename_i l _
    refine .ite (hs.refuse _ _ _) (.ite (hs.refuse _ _ _) (.ite (hs.refuse _ _ _) ?_))
    have hu : gamesSound (abortCalibration l .aborted (leaveSpacing l (reply m .laneReset .accepted .none s))) :=
      hs.of_same (by simp) (by simp)
    have hbegin {u : State} (hu : gamesSound u) :
        gamesSound (beginCycle l (freshCycle .recovery 0) (setPendingReq l m .laneReset u)) :=
      hu.of_same (by simp) (by simp)
    unfold resetLane
    refine hbegin ?_
    dsimp only
    split
    · exact (hu.setSeq l _).truncateCurrent _
    · exact hu.setSeq l _

theorem keepsGames_takeClearFault (m : Msg) : keepsGames (takeClearFault m) :=
  keepsGames_request m fun a => keepsGames_of_same fun s => by unfold ownClearFault; (repeat' split) <;> simp

theorem keepsGames_takeCalibrate (m : Msg) : keepsGames (takeCalibrate m) :=
  keepsGames_request m fun a => keepsGames_of_same fun s => by unfold ownCalibrate; (repeat' split) <;> simp

theorem gamesSound.setRet {s : State} (h : gamesSound s) (r : Return) : gamesSound (s.setRet r) := h

theorem gamesSound.dropReturn {s : State} (h : gamesSound s) : gamesSound (dropReturn s) :=
  (((h.setHolds .A _).setHolds .B _).testHeld .A).testHeld .B

theorem keepsGames_takeClearJam (m : Msg) : keepsGames (takeClearJam m) := by
  refine keepsGames_request m fun a s hs => ?_
  unfold ownClearJam
  exact .ite (gamesSound.dropReturn (gamesSound.setRet (hs.reply _ _ _ _) _)) (hs.refuse _ _ _)

theorem keepsGames_takeSetGroup (m : Msg) : keepsGames (takeSetGroup m) :=
  keepsGames_request m fun a => keepsGames_of_same fun s => by unfold ownSetGroup; (repeat' split) <;> simp

theorem keepsGames_takeSetCensusSilent (m : Msg) : keepsGames (takeSetCensusSilent m) :=
  keepsGames_request m fun a => keepsGames_of_same fun s => by unfold ownSetCensusSilent; split <;> simp

theorem keepsGames_takeStationReset (m : Msg) : keepsGames (takeStationReset m) := by
  refine keepsGames_request m fun a s hs => ?_
  unfold ownStationReset
  split
  · exact hs.reply _ _ _ _
  · split
    · exact hs.warmReset _ _
    · exact hs

theorem keepsGames_takeUnknown (c : ReqClass) (code : Byte) (m : Msg) : keepsGames (takeUnknown c code m) := by
  intro s hs
  unfold takeUnknown
  exact .ite ((hs.takeFrame m.dest).refuse _ _ _) (hs.takeFrame m.dest)

/-! ## Requests of class SESSION_REQ -/

theorem keepsGames_takeStartSession (m : Msg) : keepsGames (takeStartSession m) := by
  refine keepsGames_request m fun a s hs => ?_
  have hr (r : RefuseReason) := hs.refuse m .startSession r
  unfold ownStartSession
  split
  · exact hr _
  · exact .ite (hr _) (.ite (hr _) (.ite (hr _) (.ite (hr _) (.ite (hr _)
      ((hs.reply _ _ _ _).addSession fun b hb => by cases hb)))))

theorem keepsGames_takeAddBowler (m : Msg) : keepsGames (takeAddBowler m) := by
  refine keepsGames_request m fun a s hs => ?_
  unfold ownAddBowler
  split
  · exact hs.refuse _ _ _
  · rename_i x hx
    refine .ite (hs.refuse _ _ _) ((hs.reply _ _ _ _).putSession ?_)
    refine List.forall_mem_append.2 ⟨hs.session hx, fun b hb g hg => ?_⟩
    rw [List.mem_singleton] at hb
    subst hb
    cases hg

theorem keepsGames_takeBeginSession (m : Msg) : keepsGames (takeBeginSession m) := by
  refine keepsGames_request m fun a s hs => ?_
  unfold ownBeginSession
  split
  · exact hs.refuse _ _ _
  · rename_i x hx
    have hu := hs.reply m .beginSession .done .none
    have hx' := hs.session hx
    refine .ite (hs.refuse _ _ _) ?_
    unfold beginSession
    split
    · exact ((hu.putSession (x := { x with state := .waitPartner .start, turn := .none }) hx').barrierTest _).startTurns
    · exact ((hu.putSession (Session.startGame_gamesScored 1 x)).selectFresh _).startTurns

theorem bowlerTest_ok {s : State} {id i : Nat} {x : Session} (h : bowlerTest s id i = .ok x) : s.session? id = some x := by
  unfold bowlerTest at h
  split at h
  · cases h
  · (repeat' split at h) <;> cases h
    assumption

theorem keepsGames_takeSetHandicap (m : Msg) : keepsGames (takeSetHandicap m) := by
  refine keepsGames_request m fun a s hs => ?_
  unfold ownSetHandicap
  split
  · exact hs.refuse _ _ _
  · rename_i x hx
    refine (hs.reply _ _ _ _).putSession ((hs.session (bowlerTest_ok hx)).modifyBowler _ fun b hb => ?_)
    exact hb.mapGame fun g hg => Game.setHandicap_scored hg _

theorem gamesSound.presentAgain {s : State} (h : gamesSound s) (x : Session) : gamesSound (presentAgain x s) := by
  unfold Machine.presentAgain
  split
  · exact .ite (h.selectTurn _).startTurns h
  · exact (h.barrierTest _).startTurns
  · exact h

theorem keepsGames_takeSetAbsent (m : Msg) : keepsGames (takeSetAbsent m) := by
  refine keepsGames_request m fun a s hs => ?_
  unfold ownSetAbsent
  split
  · exact hs.refuse _ _ _
  · rename_i x hx
    have hput := (hs.reply m .setAbsent .done .none).putSession
      ((hs.session (bowlerTest_ok hx)).modifyBowler a.2.1 (f := fun b => { b with absent := flagOf a.2.2 }) fun _ hb => hb)
    exact .ite hput (hput.presentAgain x)

theorem keepsGames_takeEndSession (m : Msg) : keepsGames (takeEndSession m) := by
  refine keepsGames_request m fun a s hs => ?_
  unfold ownEndSession
  split
  · exact hs.refuse _ _ _
  · exact .ite (hs.refuse _ _ _) ((hs.reply _ _ _ _).removeSession _)

theorem correctTest_ok {s : State} {a : CorrectArgs} {r : Session × Game} (h : correctTest s a = .ok r) :
    s.session? a.session = some r.1 := by
  unfold correctTest at h
  (repeat' split at h) <;> cases h
  assumption

theorem keepsGames_takeCorrectFrame (m : Msg) : keepsGames (takeCorrectFrame m) := by
  refine keepsGames_request m fun a s hs => ?_
  unfold ownCorrectFrame
  split
  · exact hs.refuse _ _ _
  · rename_i x _ hx
    exact (hs.reply _ _ _ _).putSession
      ((hs.session (correctTest_ok hx)).modifyGame _ fun g hg => Game.correct_scored hg _ _)

theorem moveTest_ok {s : State} {a : MoveArgs} {r : Session × LaneId} (h : moveTest s a = .ok r) :
    s.session? a.session = some r.1 := by
  unfold moveTest at h
  (repeat' split at h) <;> cases h
  assumption

theorem keepsGames_takeMoveSession (m : Msg) : keepsGames (takeMoveSession m) := by
  refine keepsGames_request m fun a s hs => ?_
  unfold ownMoveSession
  split
  · exact hs.refuse _ _ _
  · rename_i x l hx
    have hx' := hs.session (moveTest_ok hx)
    have hu : gamesSound ((reply m .moveSession .accepted .none s).setTransfer
        { (reply m .moveSession .accepted .none s).transfer with
          record := .source .waiting none a.station l x.id (m.sender.toNat, m.tag.toNat) none }) :=
      (hs.reply _ _ _ _).of_record rfl trivial
    exact .ite ((hu.truncateCurrent _).startTransfer _)
      (.ite (hu.putSession (x := { x with state := .waitMove }) hx') (hu.startTransfer _))

theorem keepsGames_takeResumeParked (m : Msg) : keepsGames (takeResumeParked m) := by
  refine keepsGames_request m fun a s hs => ?_
  unfold ownResumeParked
  split
  · exact hs.refuse _ _ _
  · rename_i x hx
    refine .ite (hs.refuse _ _ _) (.ite (hs.refuse _ _ _) ?_)
    have hx' := hs.session hx
    have hsel := ((hs.reply m .resumeParked .done .none).putSession
      (x := { x with state := .playing, pos := x.pos.map fun p => { p with lane := x.home } }) hx').selectTurn x.id
    unfold resumeParked
    dsimp only
    split
    · exact gamesSound.startTurns (hsel.uncross _)
    · exact hsel.startTurns

theorem keepsGames_takeDiscardParked (m : Msg) : keepsGames (takeDiscardParked m) := by
  refine keepsGames_request m fun a s hs => ?_
  unfold ownDiscardParked
  split
  · exact hs.refuse _ _ _
  · exact .ite (hs.refuse _ _ _) ((hs.reply _ _ _ _).dropSession _)

/-! ## Requests of class BILLING_REQ -/

theorem keepsGames_takeOpenLane (m : Msg) : keepsGames (takeOpenLane m) :=
  keepsGames_request m fun a => keepsGames_of_same fun s => by
    unfold ownOpenLane openLane
    (repeat' split) <;> simp

theorem keepsGames_takeCloseLane (m : Msg) : keepsGames (takeCloseLane m) := by
  refine keepsGames_request m fun a s hs => ?_
  unfold ownCloseLane
  split
  · exact hs.refuse _ _ _
  · rename_i l _
    refine .ite (hs.refuse _ _ _) (.ite (hs.refuse _ _ _) ?_)
    have hout := (hs.reply m .closeLane .accepted .none).removeUsers l
    have hseq (u : State) : (closeSequencer l u).sessions = u.sessions ∧ (closeSequencer l u).transfer = u.transfer := by
      unfold closeSequencer
      split <;> simp
    have hfail (u : State) : (failOpening l u).sessions = u.sessions ∧ (failOpening l u).transfer = u.transfer := by
      unfold failOpening
      (repeat' split) <;> simp
    unfold closeLane
    exact hout.of_same (by simp [hseq, hfail]) (by simp [hseq, hfail])

theorem keepsGames_takeAddCredit (m : Msg) : keepsGames (takeAddCredit m) := by
  refine keepsGames_request m fun a s hs => ?_
  unfold ownAddCredit
  split
  · exact hs.refuse _ _ _
  · refine .ite (hs.refuse _ _ _) (.ite (hs.refuse _ _ _) (.ite (hs.refuse _ _ _) ?_))
    have hretry (u : State) (l : LaneId) (hu : gamesSound u) : gamesSound (creditRetry l u) := by
      unfold creditRetry
      exact .ite (hu.passRetry _ _) hu
    exact hretry _ _ (hs.of_same (by simp) (by simp))

theorem keepsGames_takeTariffBand (m : Msg) : keepsGames (takeTariffBand m) :=
  keepsGames_request m fun a => keepsGames_of_same fun s => by unfold ownTariffBand; split <;> simp

theorem keepsGames_takeTariffCommit (m : Msg) : keepsGames (takeTariffCommit m) :=
  keepsGames_request m fun a => keepsGames_of_same fun s => by unfold ownTariffCommit; (repeat' split) <;> simp

theorem keepsGames_takeReleaseJournal (m : Msg) : keepsGames (takeReleaseJournal m) := by
  refine keepsGames_request m fun q s hs => ?_
  unfold ownReleaseJournal
  split
  rename_i t n upTo cut _
  have hu : gamesSound (s.setStore t) := hs
  have hr := hu.reply m .releaseJournal (if cut then .clamped else .done) (.freed n upTo)
  refine .ite hr ?_
  have hpass (u : State) (hu : gamesSound u) (l : LaneId) := hu.passRetry l .journal
  exact .ite (hpass _ (.ite (hpass _ hr _) hr) _) (.ite (hpass _ hr _) hr)

theorem keepsGames_takeArchiveClear (m : Msg) : keepsGames (takeArchiveClear m) :=
  keepsGames_request m fun a => keepsGames_of_same fun s => by simp [ownArchiveClear]

/-! ## Requests of class REPORT_REQ -/

theorem gamesSound.answerReport {s : State} (h : gamesSound s) (m : Msg) (n : ReqName) (r : Report) :
    gamesSound (answerReport m n r s) := h.reply _ _ _ _

theorem keepsGames_takeLaneStatus (m : Msg) : keepsGames (takeLaneStatus m) := by
  refine keepsGames_request m fun a s hs => ?_
  unfold ownLaneStatus
  split
  · exact hs.answerReport _ _ _
  · exact hs.refuse _ _ _

theorem keepsGames_takeStationStatus (m : Msg) : keepsGames (takeStationStatus m) := by
  refine keepsGames_request m fun a s hs => ?_
  unfold ownStationStatus
  split
  · exact hs.answerReport _ _ _
  · exact hs.refuse _ _ _

theorem keepsGames_takeSession (m : Msg) : keepsGames (takeSession m) := by
  refine keepsGames_request m fun a s hs => ?_
  unfold ownSession
  split
  · exact hs.refuse _ _ _
  · split
    · exact hs.answerReport _ _ _
    · exact hs.refuse _ _ _

theorem keepsGames_takeGame (m : Msg) : keepsGames (takeGame m) := by
  refine keepsGames_request m fun a s hs => ?_
  unfold ownGame
  split
  · exact hs.refuse _ _ _
  · split
    · exact hs.refuse _ _ _
    · split
      · exact hs.refuse _ _ _
      · split
        · exact hs.answerReport _ _ _
        · exact hs.refuse _ _ _

theorem keepsGames_takeCalibration (m : Msg) : keepsGames (takeCalibration m) := by
  refine keepsGames_request m fun a s hs => ?_
  unfold ownCalibration
  split
  · exact hs.refuse _ _ _
  · split
    · exact hs.answerReport _ _ _
    · exact hs.refuse _ _ _

theorem keepsGames_takeJournal (m : Msg) : keepsGames (takeJournal m) := by
  refine keepsGames_request m fun a s hs => ?_
  unfold ownJournal
  split
  · exact hs.reply _ _ _ _
  · split
    · exact hs.answerReport _ _ _
    · exact hs.refuse _ _ _

theorem keepsGames_takeArchive (m : Msg) : keepsGames (takeArchive m) := by
  refine keepsGames_request m fun a s hs => ?_
  unfold ownArchive
  split
  · exact hs.refuse _ _ _
  · split
    · exact hs.answerReport _ _ _
    · exact hs.refuse _ _ _

theorem keepsGames_takeResetCause (m : Msg) : keepsGames (takeResetCause m) :=
  keepsGames_request m fun _ _ hs => hs.answerReport _ _ _

/-- A request of any name. -/
theorem keepsGames_takeNamed (n : ReqName) (m : Msg) : keepsGames (takeNamed n m) := by
  cases n with
  | hold => exact keepsGames_takeHold m
  | release => exact keepsGames_takeRelease m
  | setHoldMode => exact keepsGames_takeSetHoldMode m
  | laneReset => exact keepsGames_takeLaneReset m
  | clearFault => exact keepsGames_takeClearFault m
  | calibrate => exact keepsGames_takeCalibrate m
  | clearJam => exact keepsGames_takeClearJam m
  | setGroup => exact keepsGames_takeSetGroup m
  | setCensusSilent => exact keepsGames_takeSetCensusSilent m
  | stationReset => exact keepsGames_takeStationReset m
  | startSession => exact keepsGames_takeStartSession m
  | addBowler => exact keepsGames_takeAddBowler m
  | beginSession => exact keepsGames_takeBeginSession m
  | setHandicap => exact keepsGames_takeSetHandicap m
  | setAbsent => exact keepsGames_takeSetAbsent m
  | endSession => exact keepsGames_takeEndSession m
  | correctFrame => exact keepsGames_takeCorrectFrame m
  | moveSession => exact keepsGames_takeMoveSession m
  | resumeParked => exact keepsGames_takeResumeParked m
  | discardParked => exact keepsGames_takeDiscardParked m
  | openLane => exact keepsGames_takeOpenLane m
  | closeLane => exact keepsGames_takeCloseLane m
  | addCredit => exact keepsGames_takeAddCredit m
  | tariffBand => exact keepsGames_takeTariffBand m
  | tariffCommit => exact keepsGames_takeTariffCommit m
  | releaseJournal => exact keepsGames_takeReleaseJournal m
  | archiveClear => exact keepsGames_takeArchiveClear m
  | laneStatus => exact keepsGames_takeLaneStatus m
  | stationStatus => exact keepsGames_takeStationStatus m
  | session => exact keepsGames_takeSession m
  | game => exact keepsGames_takeGame m
  | calibration => exact keepsGames_takeCalibration m
  | journal => exact keepsGames_takeJournal m
  | resetCause => exact keepsGames_takeResetCause m
  | archive => exact keepsGames_takeArchive m
  | setup | unknown _ => exact fun _ hs => hs.takeFrame m.dest

/-! ## Transfer frames -/

theorem gamesSound.setTransfer {s : State} (h : gamesSound s) {r : Transfer} (hr : r.record.offersFrame) :
    gamesSound (s.setTransfer r) := h.of_record rfl hr

theorem parseOffer_frame {bs : List Byte} {o : OfferFields} (h : parseOffer bs = some o) : o.frame ≤ 10 := by
  unfold parseOffer at h
  simp only [Option.bind_eq_bind, Option.bind_eq_some_iff, Option.pure_def] at h
  obtain ⟨size, -, number, -, frame, -, current, -, limit, -, discount, -, laneByte, -, lane, -, h⟩ := h
  split at h
  · rename_i hrange
    cases h
    exact hrange.2.2.2.2.2.1
  · cases h

theorem keepsGames_takeOffer (m : Msg) : keepsGames (takeOffer m) := by
  refine keepsGames_forTransfer m fun s hs => ?_
  split
  · exact hs
  · rename_i o ho
    split
    · exact hs.sendTransfer _ _ _
    · dsimp only
      refine gamesSound.sendTransfer (gamesSound.setTransfer hs ?_) _ _ _
      exact parseOffer_frame ho

theorem keepsGames_takeAnswer (m : Msg) : keepsGames (takeAnswer m) := by
  refine keepsGames_forTransfer m fun s hs => ?_
  split
  · exact .ite (hs.sendPart _ _ _ _ _ _) hs
  · exact .ite (hs.moveFails _ _ _ _) hs
  · exact hs.endCommitted _ m
  · exact hs

theorem keepsGames_takePart (m : Msg) (w : Nat → List BowlerParts → List BowlerParts × Bool) :
    keepsGames (takePart m w) := by
  intro s hs
  unfold takePart
  split
  · rename_i he
    refine .ite (gamesSound.setTransfer hs ?_) hs
    exact hs.2 _ _ _ _ _ _ _ he
  · exact hs

theorem keepsGames_takeIdent (m : Msg) : keepsGames (takeIdent m) := by
  refine keepsGames_forTransfer m fun s hs => ?_
  split
  · exact keepsGames_takePart m _ s hs
  · exact hs

theorem keepsGames_takeBalls (m : Msg) : keepsGames (takeBalls m) := by
  refine keepsGames_forTransfer m fun s hs => ?_
  split
  · exact keepsGames_takePart m _ s hs
  · exact hs

theorem keepsGames_takeCommit (m : Msg) : keepsGames (takeCommit m) := by
  refine keepsGames_forTransfer m fun s hs => ?_
  split
  · rename_i o _ _ _ he
    refine .ite ?_ hs
    split
    · rename_i ps hcheck
      obtain ⟨-, -, hall⟩ := commitCheck_ok hcheck
      exact hs.install _ _ fun p hp => (allSound_length hall p hp).trans (hs.2 _ _ _ _ _ _ _ he)
    · exact hs.transferIdle.sendTransfer _ _ _
  · exact hs

theorem keepsGames_takeDone (m : Msg) : keepsGames (takeDone m) :=
  keepsGames_forTransfer m fun _ hs => hs.endCommitted none m

theorem keepsGames_takeDecline (m : Msg) : keepsGames (takeDecline m) := by
  refine keepsGames_forTransfer m fun s hs => ?_
  split
  · exact hs.endCommitted _ m
  · exact hs

/-! ## Frames that are not requests, and RECEIVE_FRAME -/

theorem keepsGames_takeStartNotice (f : Bare) : keepsGames (takeStartNotice f) :=
  keepsGames_of_same fun s => by unfold takeStartNotice; dsimp only; split <;> simp

theorem keepsGames_takeCensus (f : Bare) : keepsGames (takeCensus f) := fun _ hs => hs

theorem keepsGames_takeTime (f : Bare) : keepsGames (takeTime f) :=
  keepsGames_of_same fun s => by unfold takeTime; dsimp only; (repeat' split) <;> simp

theorem keepsGames_takeSetupRequest (f : Bare) : keepsGames (takeSetupRequest f) :=
  keepsGames_of_same fun s => by unfold takeSetupRequest; dsimp only; (repeat' split) <;> simp

theorem keepsGames_takeSetupAnswer (f : Bare) : keepsGames (takeSetupAnswer f) :=
  keepsGames_of_same fun s => by unfold takeSetupAnswer; dsimp only; (repeat' split) <;> simp

theorem keepsGames_takeTransfer (f : RawFrame) : keepsGames (takeTransfer f) := by
  intro s hs
  unfold takeTransfer
  split
  · dsimp only
    split
    · exact keepsGames_takeOffer _ s hs
    · exact keepsGames_takeAnswer _ s hs
    · exact keepsGames_takeIdent _ s hs
    · exact keepsGames_takeBalls _ s hs
    · exact keepsGames_takeCommit _ s hs
    · exact keepsGames_takeDone _ s hs
    · exact hs.takeFrame _
  · exact hs.takeFrame _

theorem keepsGames_takeRequest (c : ReqClass) (f : RawFrame) : keepsGames (takeRequest c f) := by
  intro s hs
  unfold takeRequest
  split
  · dsimp only
    split
    · exact keepsGames_takeNamed _ _ s hs
    · exact keepsGames_takeUnknown _ _ _ s hs
  · exact hs.takeFrame _

theorem keepsGames_takeClass (f : RawFrame) : keepsGames (takeClass f) := by
  intro s hs
  unfold takeClass
  dsimp only
  split
  · exact keepsGames_takeStartNotice _ s hs
  · exact keepsGames_takeStartNotice _ s hs
  · exact keepsGames_takeCensus _ s hs
  · exact keepsGames_takeTransfer f s hs
  · exact keepsGames_takeTime _ s hs
  · exact .ite (keepsGames_takeSetupRequest _ s hs) (keepsGames_takeSetupAnswer _ s hs)
  · exact keepsGames_takeRequest .lane f s hs
  · exact keepsGames_takeRequest .session f s hs
  · exact keepsGames_takeRequest .billing f s hs
  · exact keepsGames_takeRequest .report f s hs
  · exact hs.takeFrame _

theorem keepsGames_takeRaw (f : RawFrame) : keepsGames (takeRaw f) := by
  intro s hs
  unfold takeRaw
  split
  · exact keepsGames_takeClass f s hs
  · exact hs

/-! ## Events -/

theorem gamesSound.frameGone {s : State} (h : gamesSound s) (f : QueuedFrame) (acked : Bool) :
    gamesSound (frameGone f acked s) := by
  unfold Machine.frameGone
  split
  · exact .ite (h.partAcked _ _) h
  · exact h.warmReset _ _
  · exact h

/-- A command that is taken as an event. -/
theorem gamesSound.live {s t : State} (h : gamesSound s) {e : State → State} (he : keepsGames e)
    (ht : live s e = .next t) : gamesSound t := by
  unfold Machine.live at ht
  split at ht
  · cases ht
    exact (he s h).of_same (by simp) (by simp)
  · cases ht
    exact h

theorem gamesSound.execClockTick {s t : State} (h : gamesSound s) (ht : execClockTick s = .next t) : gamesSound t := by
  unfold Machine.execClockTick at ht
  split at ht
  · cases ht
    exact h
  · dsimp only at ht
    split at ht <;> cases ht
    · exact h.of_same (by simp) (by simp)
    · exact h

theorem gamesSound.execWarmReset {s t : State} (h : gamesSound s) {c : WarmCause} {low : Bool}
    (ht : execWarmReset c low s = .next t) : gamesSound t := by
  have hc : gamesSound (s.setCtl (s.ctl.letGo c)) := h
  unfold Machine.execWarmReset at ht
  dsimp only at ht
  split at ht <;> cases ht
  · exact hc.warmReset c low
  · exact hc

theorem keepsGames_sourceStepTimeout {s t : State} (h : gamesSound s) (ht : execSourceStepTimeout s = .next t) :
    gamesSound t := by
  refine h.live (fun u hu => ?_) ht
  split
  · exact (hu.transferIdle.park _).deferredReply _ _ _ _ _
  · exact hu.moveFails _ _ _ _
  · exact hu.moveFails _ _ _ _
  · exact hu

/-- Every command leaves the games scored. -/
theorem gamesSound.exec {s t : State} (h : gamesSound s) {i : Instr} (ht : exec i s = .next t) : gamesSound t := by
  cases i with
  | ball l =>
    unfold Machine.exec execBall at ht
    exact h.live (keepsGames_of_same fun u => by split <;> simp [beginBallCycle, strayBall, apply_ite]) ht
  | foul l =>
    unfold Machine.exec execFoul at ht
    exact h.live (keepsGames_of_same fun u => by split <;> simp) ht
  | settleExpiry l =>
    unfold Machine.exec execSettleExpiry at ht
    exact h.live (keepsGames_of_same fun u => by split <;> simp) ht
  | spacingWait2W l =>
    unfold Machine.exec execSpacingWait2W at ht
    exact h.live (keepsGames_of_same fun u => by simp) ht
  | readDone l levels =>
    unfold Machine.exec execReadDone at ht
    refine h.live (fun u hu => ?_) ht
    split
    · exact hu.deckRead l levels
    · exact hu.calibrationRead l levels
    · exact hu
  | clearDone l =>
    unfold Machine.exec execClearDone at ht
    exact h.live (keepsGames_of_same fun u => by split <;> simp) ht
  | setDone l =>
    unfold Machine.exec execSetDone at ht
    exact h.live (fun u hu => .ite (hu.cycleEnds l) hu) ht
  | phaseLimitExpiry l =>
    unfold Machine.exec execPhaseLimitExpiry at ht
    exact h.live (keepsGames_of_same fun u => by split <;> simp) ht
  | liftTop =>
    unfold Machine.exec execLiftTop at ht
    exact h.live (keepsGames_of_same fun u => by simp) ht
  | rackFullChange a =>
    unfold Machine.exec execRackFullChange at ht
    exact h.live (keepsGames_of_same fun u => by simp) ht
  | liftCurrentSample v =>
    unfold Machine.exec execLiftCurrentSample at ht
    exact h.live (keepsGames_of_same fun u => by simp) ht
  | runOnExpiry =>
    unfold Machine.exec execRunOnExpiry at ht
    exact h.live (keepsGames_of_same fun u => by split <;> simp) ht
  | transitOverdue =>
    unfold Machine.exec execTransitOverdue at ht
    exact h.live (keepsGames_of_same fun u => by split <;> simp) ht
  | purgeEnd =>
    unfold Machine.exec execPurgeEnd at ht
    exact h.live (keepsGames_of_same fun u => by split <;> simp) ht
  | clockTick => exact h.execClockTick ht
  | windowEntryExpiry n =>
    unfold Machine.exec execWindowEntryExpiry at ht
    exact h.live (keepsGames_of_same fun u => by split <;> simp) ht
  | quietPeriodEnd =>
    unfold Machine.exec execQuietPeriodEnd at ht
    exact h.live (keepsGames_of_same fun u => by split <;> simp) ht
  | idleWatchExpiry =>
    unfold Machine.exec execIdleWatchExpiry at ht
    exact h.live (keepsGames_of_same fun u => by simp) ht
  | lineIdle =>
    unfold Machine.exec execLineIdle at ht
    exact h.live (keepsGames_of_same fun u => by simp) ht
  | startNoticeOutcome sent =>
    unfold Machine.exec execStartNoticeOutcome at ht
    exact h.live (keepsGames_of_same fun u => by split <;> simp) ht
  | queuedFrameOutcome o =>
    unfold Machine.exec execQueuedFrameOutcome at ht
    refine h.live (fun u hu => ?_) ht
    split
    · exact hu
    · have hq (q : List QueuedFrame) : gamesSound (u.setLink { u.link with queue := q }) := hu
      split
      · exact hu
      · exact (hq _).frameGone _ _
      · exact (hq _).frameGone _ _
  | startNoticeReceived urgent f => exact h.live (keepsGames_takeStartNotice f) ht
  | census f => exact h.live (keepsGames_takeCensus f) ht
  | receiveFrame f => exact h.live (keepsGames_takeRaw f) ht
  | offer m => exact h.live (keepsGames_takeOffer m) ht
  | answer m => exact h.live (keepsGames_takeAnswer m) ht
  | ident m => exact h.live (keepsGames_takeIdent m) ht
  | balls m => exact h.live (keepsGames_takeBalls m) ht
  | commit m => exact h.live (keepsGames_takeCommit m) ht
  | transferDone m declined =>
    unfold Machine.exec execTransferDone at ht
    exact h.live (fun u hu => .ite (keepsGames_takeDecline m u hu) (keepsGames_takeDone m u hu)) ht
  | sourceStepTimeout => exact keepsGames_sourceStepTimeout h ht
  | targetStepTimeout =>
    unfold Machine.exec execTargetStepTimeout at ht
    refine h.live (fun u hu => ?_) ht
    split
    · exact hu.transferIdle
    · exact hu
  | time f => exact h.live (keepsGames_takeTime f) ht
  | setupRequest f => exact h.live (keepsGames_takeSetupRequest f) ht
  | setupAnswer f => exact h.live (keepsGames_takeSetupAnswer f) ht
  | setupWaitExpiry =>
    unfold Machine.exec execSetupWaitExpiry at ht
    exact h.live (keepsGames_of_same fun u => by split <;> simp) ht
  | setupAnswerDelayExpiry r =>
    unfold Machine.exec execSetupAnswerDelayExpiry at ht
    exact h.live (keepsGames_of_same fun u => by dsimp only; split <;> simp) ht
  | supplyWarningFall =>
    unfold Machine.exec execSupplyWarningFall at ht
    exact h.live (keepsGames_of_same fun u => by split <;> simp) ht
  | supplyWarningRelease =>
    unfold Machine.exec execSupplyWarningRelease at ht
    exact h.live (keepsGames_of_same fun u => by split <;> simp) ht
  | powerOn kept strap full low =>
    cases ht
    exact h.powerUp _ _ _ _
  | warmReset c low => exact h.execWarmReset ht
  | stationResetTimeout =>
    unfold Machine.exec execStationResetTimeout at ht
    exact h.live (fun u hu => .ite (hu.warmReset _ _) hu) ht
  | unknownRequest c code m => exact h.live (keepsGames_takeUnknown c code m) ht
  | hold m => exact h.live (keepsGames_takeHold m) ht
  | release m => exact h.live (keepsGames_takeRelease m) ht
  | setHoldMode m => exact h.live (keepsGames_takeSetHoldMode m) ht
  | laneReset m => exact h.live (keepsGames_takeLaneReset m) ht
  | clearFault m => exact h.live (keepsGames_takeClearFault m) ht
  | calibrate m => exact h.live (keepsGames_takeCalibrate m) ht
  | clearJam m => exact h.live (keepsGames_takeClearJam m) ht
  | setGroup m => exact h.live (keepsGames_takeSetGroup m) ht
  | setCensusSilent m => exact h.live (keepsGames_takeSetCensusSilent m) ht
  | stationReset m => exact h.live (keepsGames_takeStationReset m) ht
  | startSession m => exact h.live (keepsGames_takeStartSession m) ht
  | addBowler m => exact h.live (keepsGames_takeAddBowler m) ht
  | beginSession m => exact h.live (keepsGames_takeBeginSession m) ht
  | setHandicap m => exact h.live (keepsGames_takeSetHandicap m) ht
  | setAbsent m => exact h.live (keepsGames_takeSetAbsent m) ht
  | endSession m => exact h.live (keepsGames_takeEndSession m) ht
  | correctFrame m => exact h.live (keepsGames_takeCorrectFrame m) ht
  | moveSession m => exact h.live (keepsGames_takeMoveSession m) ht
  | resumeParked m => exact h.live (keepsGames_takeResumeParked m) ht
  | discardParked m => exact h.live (keepsGames_takeDiscardParked m) ht
  | openLane m => exact h.live (keepsGames_takeOpenLane m) ht
  | closeLane m => exact h.live (keepsGames_takeCloseLane m) ht
  | addCredit m => exact h.live (keepsGames_takeAddCredit m) ht
  | tariffBand m => exact h.live (keepsGames_takeTariffBand m) ht
  | tariffCommit m => exact h.live (keepsGames_takeTariffCommit m) ht
  | releaseJournal m => exact h.live (keepsGames_takeReleaseJournal m) ht
  | archiveClear m => exact h.live (keepsGames_takeArchiveClear m) ht
  | laneStatus m => exact h.live (keepsGames_takeLaneStatus m) ht
  | stationStatus m => exact h.live (keepsGames_takeStationStatus m) ht
  | session m => exact h.live (keepsGames_takeSession m) ht
  | game m => exact h.live (keepsGames_takeGame m) ht
  | calibration m => exact h.live (keepsGames_takeCalibration m) ht
  | journal m => exact h.live (keepsGames_takeJournal m) ht
  | archive m => exact h.live (keepsGames_takeArchive m) ht
  | resetCause m => exact h.live (keepsGames_takeResetCause m) ht
  | brownout | resetLineAsserted =>
    cases ht
    exact h

/-! ## The statement -/

/-- Settles O10. A step is a tenth of a second or a command; whatever it writes of a game it recomputes. -/
theorem gamesKept : Obligations.GamesKept := by
  intro s hs t ht
  unfold step at ht
  split at ht
  · cases ht
    exact hs.tick
  · rename_i c rest _
    have hrest : gamesSound { s with pending := rest } := hs
    exact hrest.exec ht

end Sys2Proof.Machine
end

section
/-! SUPPORT. Requests that reach their owner (R176, R178): the reply queued, the line taken, and what the rest of the owner's
effect leaves of them. -/

namespace Sys2Proof.Machine

/-- The station with a request's reply queued: what an owner works on. -/
def State.replied (s : State) (m : Msg) (n : ReqName) (r : Result) (d : ReplyData) : State :=
  reply m n r d (takeFrame m.dest s)

theorem takeFrame_eq (d : Byte) (s : State) : takeFrame d s = { s with link := (takeFrame d s).link } := rfl

theorem State.replied_eq (s : State) (m : Msg) (n : ReqName) (r : Result) (d : ReplyData) :
    s.replied m n r d = { s with link := (s.replied m n r d).link } := by
  unfold State.replied reply
  rw [send_eq]
  rfl

theorem send_lineIdle (s : State) (d : Nat) (k : FrameMark) (p : Payload) :
    (send d k p s).link.lineIdle = s.link.lineIdle := by
  rw [send_link]

theorem State.replied_lineIdle (s : State) (m : Msg) (n : ReqName) (r : Result) (d : ReplyData) :
    (s.replied m n r d).link.lineIdle = false := send_lineIdle _ _ _ _

/-- A command that is a request and reaches its owner with its fields. -/
theorem exec_request {α : Type} {c : Instr} {m : Msg} {n : ReqName} {parse : List Byte → Option α} {owner : α → State → State}
    {s : State} {a : α} (hc : exec c s = live s (request n parse owner m)) (h : s.reaches m n)
    (hp : parse m.args = some a) : exec c s = .next (beginTx (owner a (takeFrame m.dest s))) := by
  rw [hc, live_running h.1, request_taken h hp]

section
variable {s : State} {m : Msg} {n n0 : ReqName} {r : Result} {d : ReplyData}

theorem State.answered_replied (h : s.reaches m n0) (hr : s.room 1) : s.answered (s.replied m n r d) m n r d :=
  answered_reply h hr n r d

/-- An event whose only frame is the reply: nothing begins on the line it took. -/
theorem answered_event {u : State} (h : s.reaches m n0) (hr : s.room 1) (hu : u.link = (s.replied m n r d).link) :
    s.answered (beginTx u) m n r d ∧ beginTx u = u := by
  have hbusy : beginTx u = u := beginTx_busy (hu ▸ s.replied_lineIdle m n r d)
  have hreply := State.answered_replied (n := n) (r := r) (d := d) h hr
  rw [State.answered, State.acked, ← hu] at hreply
  exact ⟨by rw [hbusy]; exact hreply, hbusy⟩

/-- A request that is refused changes nothing but the line and the queue. -/
theorem refused_event {c : Instr} {r : RefuseReason} (h : s.reaches m n0) (hr : s.room 1)
    (hc : exec c s = .next (beginTx (refuse m n r (takeFrame m.dest s)))) :
    ∃ t, exec c s = .next t ∧ s.answered t m n (.refused r) .none ∧ t = { s with link := t.link } := by
  change exec c s = .next (beginTx (s.replied m n (.refused r) .none)) at hc
  obtain ⟨hans, hbusy⟩ := answered_event (u := s.replied m n (.refused r) .none) h hr rfl
  exact ⟨_, hc, hans, by rw [hbusy]; exact s.replied_eq m n (.refused r) .none⟩

/-- A request that is answered at once and writes one session. -/
theorem written_event {c : Instr} {y : Session} (h : s.reaches m n0) (hr : s.room 1)
    (hc : exec c s = .next (beginTx (putSession y (s.replied m n r d)))) :
    ∃ t, exec c s = .next t ∧ s.answered t m n r d ∧
      t = { s with link := t.link, sessions := s.sessions.map fun z => if z.id = y.id then y else z } := by
  obtain ⟨hans, hbusy⟩ := answered_event (n := n) (r := r) (d := d) (u := putSession y (s.replied m n r d)) h hr (by simp)
  refine ⟨_, hc, hans, ?_⟩
  rw [hbusy, s.replied_eq]
  rfl

end

end Sys2Proof.Machine
end

section
/-! SUPPORT. SET_HANDICAP, SET_ABSENT and CORRECT_FRAME (R60 to R62, R71, R72), and the statement about them. -/

namespace Sys2Proof.Machine

/-! ## The tests SET_HANDICAP and SET_ABSENT share (R71) -/

theorem SessionState.sealed_iff (q : SessionState) :
    q.sealed = true ↔ q = .moving .sending ∨ q = .moving .committed ∨ q = .parked := by
  cases q with
  | moving p => cases p <;> simp [SessionState.sealed]
  | _ => simp [SessionState.sealed]

section
variable {s : State} {id i : Nat} {x : Session}

theorem bowlerTest_noSession (h : s.session? id = none) : bowlerTest s id i = .error .noSession := by
  simp only [bowlerTest, h]

theorem bowlerTest_range (h : s.session? id = some x) (hb : x.bowler? i = none) : bowlerTest s id i = .error .range := by
  simp [bowlerTest, h, hb]

theorem bowlerTest_state (h : s.session? id = some x) (hb : x.bowler? i ≠ none) (hx : x.state.sealed = true) :
    bowlerTest s id i = .error .state := by
  simp [bowlerTest, h, hb, hx]

theorem bowlerTest_taken (h : s.session? id = some x) (hb : x.bowler? i ≠ none) (hx : x.state.sealed = false) :
    bowlerTest s id i = .ok x := by
  simp [bowlerTest, h, hb, hx]

end

/-- The refusals of R71, of a request whose owner begins with the shared test. -/
theorem bowlerTest_refusals {m : Msg} {n : ReqName} {c : Instr} {s : State} {id i : Nat}
    (h : s.reaches m n) (hr : s.room 1)
    (hc : ∀ r, bowlerTest s id i = .error r → exec c s = .next (beginTx (refuse m n r (takeFrame m.dest s)))) :
    (s.session? id = none → ∃ t, exec c s = .next t ∧ s.answered t m n (.refused .noSession) .none ∧
      t = { s with link := t.link }) ∧
    ∀ x, s.session? id = some x →
      (x.bowler? i = none → ∃ t, exec c s = .next t ∧ s.answered t m n (.refused .range) .none ∧
        t = { s with link := t.link }) ∧
      (x.bowler? i ≠ none → (x.state = .moving .sending ∨ x.state = .moving .committed ∨ x.state = .parked) →
        ∃ t, exec c s = .next t ∧ s.answered t m n (.refused .state) .none ∧ t = { s with link := t.link }) :=
  ⟨fun hx => refused_event h hr (hc _ (bowlerTest_noSession hx)), fun _ hx =>
    ⟨fun hb => refused_event h hr (hc _ (bowlerTest_range hx hb)), fun hb hshut =>
      refused_event h hr (hc _ (bowlerTest_state hx hb ((SessionState.sealed_iff _).2 hshut)))⟩⟩

/-! ## Sessions with one bowler changed -/

theorem Session.bowler?_eq (x : Session) (i : Nat) : x.bowler? (i + 1) = x.bowlers[i]? := rfl

@[simp] theorem Session.modifyBowler_id (x : Session) (i : Nat) (f : Bowler → Bowler) : (x.modifyBowler i f).id = x.id := by
  unfold Session.modifyBowler
  split <;> rfl

@[simp] theorem Session.modifyGame_id (x : Session) (i : Nat) (f : Game → Game) : (x.modifyGame i f).id = x.id :=
  x.modifyBowler_id i _

/-- A bowler changed in two ways that agree on it. -/
theorem Session.modifyBowler_congr {x : Session} {i : Nat} {b : Bowler} (hb : x.bowler? i = some b) {f g : Bowler → Bowler}
    (h : f b = g b) : x.modifyBowler i f = x.modifyBowler i g := by
  cases i with
  | zero => rfl
  | succ i =>
    have hbowlers : x.bowlers.modify i f = x.bowlers.modify i g := by
      refine List.ext_getElem? fun k => ?_
      rw [List.getElem?_modify, List.getElem?_modify]
      by_cases hk : i = k
      · subst hk
        rw [x.bowler?_eq] at hb
        simp [hb, h]
      · simp [hk]
    show ({ x with bowlers := x.bowlers.modify i f } : Session) = { x with bowlers := x.bowlers.modify i g }
    rw [hbowlers]

theorem Session.modifyGame_const {x : Session} {i : Nat} {b : Bowler} {g : Game} (hb : x.bowler? i = some b)
    (hg : b.game = some g) (f : Game → Game) : x.modifyGame i f = x.modifyGame i fun _ => f g :=
  Session.modifyBowler_congr hb (by simp [hg])

/-! ## Corrections (R60 to R62) -/

theorem BallEntry.correct_eq (e : BallEntry) (v : Nat) :
    e.correct v = if e.pins = v then e
      else { e with pins := v, corrected := true, estimated := false, foul := e.foul && v == 0 } := rfl

/-- The structure test says that the frame has ended with these pinfalls (R61). -/
theorem structureOk_iff {f count : Nat} {ps : List Nat} (hps : ∀ v ∈ ps, v ≤ 10) :
    structureOk f count ps = true ↔ ps.length = count ∧ endedPins f ps = true := by
  unfold structureOk
  rw [Bool.and_eq_true, beq_iff_eq]
  refine and_congr_right fun _ => ?_
  match ps with
  | [] | [_] | _ :: _ :: _ :: _ :: _ => rfl
  | [b1, b2] =>
    unfold endedPins
    by_cases h10 : f < 10 <;> simp [h10]
  | [b1, b2, b3] =>
    have h1 : b1 ≤ 10 := hps b1 (by simp)
    have h3 : b3 ≤ 10 := hps b3 (by simp)
    unfold endedPins
    dsimp only
    by_cases hb : b1 = 10
    · simp [hb, h3]
    · simp [hb, h3]
      omega

section
variable {g : Game} {f : Nat} {ps : List Nat}

theorem Game.slot_le {r : FrameRec} (h : g.slot f = some r) : 1 ≤ f ∧ f ≤ g.frames.length := by
  cases f with
  | zero => cases h
  | succ i =>
    rw [Game.slot_succ, Option.join_eq_some_iff] at h
    exact ⟨by omega, (List.getElem?_eq_some_iff.1 h).1⟩

theorem Game.correct_same (h : (g.ballsOf f).map (·.pins) = ps) : g.correct f ps = g := by
  simp [Game.correct, h]

theorem Game.correct_changed (h : (g.ballsOf f).map (·.pins) ≠ ps) :
    ∃ r : FrameRec, r.balls = List.zipWith BallEntry.correct (g.ballsOf f) ps ∧
      g.correct f ps = (g.setSlot f r).recompute := by
  refine ⟨_, ?_, by rw [Game.correct, if_neg h]⟩
  rw [List.zip_eq_zipWith, List.map_zipWith]

theorem Game.correct_ballsOf_same (hf : 1 ≤ f ∧ f ≤ g.frames.length) :
    (g.correct f ps).ballsOf f = List.zipWith BallEntry.correct (g.ballsOf f) ps := by
  by_cases h : (g.ballsOf f).map (·.pins) = ps
  · rw [Game.correct_same h, ← h]
    have hself (bs : List BallEntry) : List.zipWith BallEntry.correct bs (bs.map (·.pins)) = bs := by
      induction bs with
      | nil => rfl
      | cons b bs ih => simp [ih, BallEntry.correct_eq]
    rw [hself]
  · obtain ⟨r, hr, hcorrect⟩ := Game.correct_changed h
    rw [hcorrect, Game.recompute_ballsOf, Game.ballsOf_setSlot r hf.1 hf.2, if_pos rfl, hr]

theorem Game.correct_ballsOf_other (hf : 1 ≤ f ∧ f ≤ g.frames.length) {k : Nat} (hk : k ≠ f) :
    (g.correct f ps).ballsOf k = g.ballsOf k := by
  by_cases h : (g.ballsOf f).map (·.pins) = ps
  · rw [Game.correct_same h]
  · obtain ⟨r, -, hcorrect⟩ := Game.correct_changed h
    rw [hcorrect, Game.recompute_ballsOf, Game.ballsOf_setSlot r hf.1 hf.2, if_neg hk]

theorem Game.correct_revision (h : (g.ballsOf f).map (·.pins) ≠ ps) :
    (g.correct f ps).revision = (g.revision + 1) % 256 := by
  obtain ⟨r, -, hcorrect⟩ := Game.correct_changed h
  rw [hcorrect]
  rfl

/-- What a correction may write: the frames and what follows from them. -/
theorem Game.correct_frame (g : Game) (f : Nat) (ps : List Nat) :
    g.correct f ps = { g with
      frames := (g.correct f ps).frames, scratch := (g.correct f ps).scratch, total := (g.correct f ps).total
      revision := (g.correct f ps).revision } := by
  by_cases h : (g.ballsOf f).map (·.pins) = ps
  · rw [Game.correct_same h]
  · obtain ⟨r, -, hcorrect⟩ := Game.correct_changed h
    rw [hcorrect]
    rfl

end

/-- The fields of a correction are out of range for the session (R60 step 2). -/
def CorrectArgs.outside (a : CorrectArgs) (x : Session) : Prop :=
  a.bowler = 0 ∨ x.bowlers.length < a.bowler ∨ a.frame = 0 ∨ 10 < a.frame ∨ a.pins = [] ∨ 3 < a.pins.length ∨
    ∃ v ∈ a.pins, 10 < v

/-- The session, the bowler or the frame takes no correction (R60 step 3). -/
def CorrectArgs.unfit (a : CorrectArgs) (x : Session) (g : Game) : Prop :=
  x.state = .forming ∨ (x.state = .moving .sending ∨ x.state = .moving .committed ∨ x.state = .parked) ∨
    (∀ r ∈ g.slot a.frame, r.mark = .incomplete) ∨
    ((x.turn = .active ∨ x.turn = .ended) ∧ x.current = some a.bowler ∧ x.pos.map (fun p => p.frame) = some a.frame)

theorem Session.bowler?_eq_none (x : Session) (i : Nat) : x.bowler? i = none ↔ i = 0 ∨ x.bowlers.length < i := by
  cases i with
  | zero => simp [Session.bowler?]
  | succ i => rw [x.bowler?_eq, List.getElem?_eq_none_iff]; omega

theorem SessionState.noCorrection_iff (q : SessionState) :
    q.noCorrection = true ↔ q = .forming ∨ q = .moving .sending ∨ q = .moving .committed ∨ q = .parked := by
  cases q with
  | moving p => cases p <;> simp [SessionState.noCorrection]
  | _ => simp [SessionState.noCorrection]

theorem Turn.holds_iff (t : Turn) : t.holds = true ↔ t = .active ∨ t = .ended := by
  cases t <;> simp [Turn.holds]

theorem CorrectArgs.unfit_iff (a : CorrectArgs) (x : Session) (g : Game) :
    a.unfit x g ↔ x.state.noCorrection = true ∨ (g.slot a.frame).all (·.mark == .incomplete) = true ∨
      x.playsFrame a.bowler a.frame = true := by
  have hslot : (g.slot a.frame).all (·.mark == .incomplete) = true ↔ ∀ r ∈ g.slot a.frame, r.mark = .incomplete := by
    cases g.slot a.frame <;> simp
  rw [CorrectArgs.unfit, SessionState.noCorrection_iff, hslot, Session.playsFrame]
  simp only [Bool.and_eq_true, beq_iff_eq, Turn.holds_iff, or_assoc, and_assoc]

section
variable {s : State} {a : CorrectArgs} {x : Session}

theorem correctTest_noSession (h : s.session? a.session = none) : correctTest s a = .error .noSession := by
  simp only [correctTest, h]

theorem correctTest_range (h : s.session? a.session = some x) (ho : a.outside x) : correctTest s a = .error .range := by
  unfold correctTest
  simp only [h]
  split
  · rfl
  · rename_i b hb
    have hin : ¬ (a.bowler = 0 ∨ x.bowlers.length < a.bowler) := by
      rw [← x.bowler?_eq_none, hb]
      simp
    refine if_pos ?_
    rcases ho with h | h | h | h | h | h | ⟨v, hv, h⟩
    · exact absurd (.inl h) hin
    · exact absurd (.inr h) hin
    · exact .inl (by omega)
    · exact .inr (.inl h)
    · exact .inr (.inr (.inl h))
    · exact .inr (.inr (.inr (.inl h)))
    · exact .inr (.inr (.inr (.inr (List.any_eq_true.2 ⟨v, hv, by simpa using h⟩))))

/-- In range, the tests are those of R60 steps 3 and 4. -/
theorem correctTest_inside (h : s.session? a.session = some x) (ho : ¬ a.outside x) {b : Bowler}
    (hb : x.bowler? a.bowler = some b) :
    correctTest s a =
      b.game.elim (.error .state) fun g =>
        if x.state.noCorrection ∨ (g.slot a.frame).all (·.mark == .incomplete) ∨ x.playsFrame a.bowler a.frame then
          .error .state
        else if structureOk a.frame (g.ballsOf a.frame).length a.pins then .ok (x, g) else .error .badStructure := by
  have hrange : ¬ (a.frame < 1 ∨ 10 < a.frame ∨ a.pins = [] ∨ 3 < a.pins.length ∨ a.pins.any (10 < ·) = true) := by
    rintro (h | h | h | h | h)
    · exact ho (.inr (.inr (.inl (by omega))))
    · exact ho (.inr (.inr (.inr (.inl h))))
    · exact ho (.inr (.inr (.inr (.inr (.inl h)))))
    · exact ho (.inr (.inr (.inr (.inr (.inr (.inl h))))))
    · obtain ⟨v, hv, h⟩ := List.any_eq_true.1 h
      exact ho (.inr (.inr (.inr (.inr (.inr (.inr ⟨v, hv, by simpa using h⟩))))))
  unfold correctTest
  simp only [h, hb, if_neg hrange]
  cases b.game <;> rfl

end

theorem CorrectArgs.inside_range {a : CorrectArgs} {x : Session} (h : ¬ a.outside x) :
    (1 ≤ a.frame ∧ a.frame ≤ 10) ∧ ∀ v ∈ a.pins, v ≤ 10 := by
  simp only [CorrectArgs.outside, not_or, not_exists, not_and] at h
  obtain ⟨-, -, hzero, hten, -, -, hpins⟩ := h
  exact ⟨⟨by omega, by omega⟩, fun v hv => Nat.le_of_not_lt (hpins v hv)⟩

/-! ## The owners -/

theorem ownSetHandicap_error {m : Msg} {a : Nat × Nat × Nat} {s : State} {r : RefuseReason}
    (h : bowlerTest s a.1 a.2.1 = .error r) : ownSetHandicap m a s = refuse m .setHandicap r s := by
  simp only [ownSetHandicap, h]

theorem ownSetHandicap_ok {m : Msg} {a : Nat × Nat × Nat} {s : State} {x : Session} (h : bowlerTest s a.1 a.2.1 = .ok x) :
    ownSetHandicap m a s =
      putSession (x.modifyBowler a.2.1 fun b => { b with
        handicap := min a.2.2 255
        game := b.game.map fun g => ({ g with handicap := min a.2.2 255 } : Game).recompute })
        (reply m .setHandicap (if 255 < a.2.2 then .clamped else .done) .none s) := by
  have hcut : (if enterHandicap a.2.2 ≠ a.2.2 then Result.clamped else .done) =
      if 255 < a.2.2 then Result.clamped else .done := by
    refine if_congr ?_ rfl rfl
    unfold enterHandicap
    omega
  simp only [ownSetHandicap, h, hcut]
  rfl

theorem ownSetAbsent_error {m : Msg} {a : Nat × Nat × Nat} {s : State} {r : RefuseReason}
    (h : bowlerTest s a.1 a.2.1 = .error r) : ownSetAbsent m a s = refuse m .setAbsent r s := by
  simp only [ownSetAbsent, h]

theorem ownSetAbsent_ok {m : Msg} {a : Nat × Nat × Nat} {s : State} {x : Session} (h : bowlerTest s a.1 a.2.1 = .ok x) :
    ownSetAbsent m a s =
      if a.2.2 ≠ 0 then
        putSession (x.modifyBowler a.2.1 fun b => { b with absent := true }) (reply m .setAbsent .done .none s)
      else presentAgain x
        (putSession (x.modifyBowler a.2.1 fun b => { b with absent := false }) (reply m .setAbsent .done .none s)) := by
  by_cases hv : a.2.2 = 0
  · simp [ownSetAbsent, h, flagOf, hv]
  · have hflag : flagOf a.2.2 = true := bne_iff_ne.2 hv
    simp [ownSetAbsent, h, hflag, hv]

/-- A clear acts on a session without a turn, and on one that waits for its partner; on no other (R72). -/
theorem presentAgain_other {x : Session} {s : State} (h : x.state ≠ .playing ∨ x.turn ≠ .none)
    (hw : ∀ b, x.state ≠ .waitPartner b) : presentAgain x s = s := by
  unfold presentAgain
  split
  · rename_i hp
    rw [if_neg (h.resolve_left fun hn => hn hp)]
  · exact absurd ‹_› (hw _)
  · rfl

theorem ownCorrectFrame_error {m : Msg} {a : CorrectArgs} {s : State} {r : RefuseReason} (h : correctTest s a = .error r) :
    ownCorrectFrame m a s = refuse m .correctFrame r s := by
  simp only [ownCorrectFrame, h]

theorem ownCorrectFrame_ok {m : Msg} {a : CorrectArgs} {s : State} {x : Session} {g : Game}
    (h : correctTest s a = .ok (x, g)) :
    ownCorrectFrame m a s =
      putSession (x.modifyGame a.bowler fun g => g.correct a.frame a.pins) (reply m .correctFrame .done .none s) := by
  simp only [ownCorrectFrame, h]

/-! ## The requests -/

section
variable {m : Msg} {s : State}

/-- SET_HANDICAP taken (R71). -/
theorem setHandicap_taken (hr : s.room 1) (h : s.reaches m .setHandicap) {a : Nat × Nat × Nat}
    (hp : parseHandicap m.args = some a) {x : Session} (hx : bowlerTest s a.1 a.2.1 = .ok x) :
    ∃ t, exec (.setHandicap m) s = .next t ∧
      s.answered t m .setHandicap (if 255 < a.2.2 then .clamped else .done) .none ∧
      t = { s with
        link := t.link
        sessions := s.sessions.map fun y =>
          if y.id = x.id then
            x.modifyBowler a.2.1 fun b => { b with
              handicap := min a.2.2 255
              game := b.game.map fun g => ({ g with handicap := min a.2.2 255 } : Game).recompute }
          else y } := by
  have hc := exec_request (c := .setHandicap m) rfl h hp
  rw [ownSetHandicap_ok (s := takeFrame m.dest s) hx] at hc
  obtain ⟨t, ht, hans, heq⟩ := written_event h hr hc
  exact ⟨t, ht, hans, by rwa [Session.modifyBowler_id] at heq⟩

/-- SET_ABSENT taken, with nothing to select for (R72). -/
theorem setAbsent_written (hr : s.room 1) (h : s.reaches m .setAbsent) {a : Nat × Nat × Nat} (hp : parse3 m.args = some a)
    {x : Session} (hx : bowlerTest s a.1 a.2.1 = .ok x)
    (hq : a.2.2 ≠ 0 ∨ (x.state ≠ .playing ∨ x.turn ≠ .none) ∧ ∀ b, x.state ≠ .waitPartner b) :
    ∃ t, exec (.setAbsent m) s = .next t ∧ s.answered t m .setAbsent .done .none ∧
      t = { s with
        link := t.link
        sessions := s.sessions.map fun y =>
          if y.id = x.id then x.modifyBowler a.2.1 fun b => { b with absent := decide (a.2.2 ≠ 0) } else y } := by
  have hc := exec_request (c := .setAbsent m) rfl h hp
  have hown : ownSetAbsent m a (takeFrame m.dest s) =
      putSession (x.modifyBowler a.2.1 fun b => { b with absent := decide (a.2.2 ≠ 0) })
        (s.replied m .setAbsent .done .none) := by
    rw [ownSetAbsent_ok (s := takeFrame m.dest s) hx]
    by_cases hv : a.2.2 = 0
    · obtain ⟨hturn, hwait⟩ := hq.resolve_left fun hn => hn hv
      simp only [hv, ne_eq, not_true_eq_false, if_false, decide_false]
      exact presentAgain_other hturn hwait
    · simp only [ne_eq, hv, not_false_eq_true, if_true, decide_true]
      rfl
  rw [hown] at hc
  obtain ⟨t, ht, hans, heq⟩ := written_event h hr hc
  exact ⟨t, ht, hans, by rwa [Session.modifyBowler_id] at heq⟩

/-- CORRECT_FRAME refused (R60, R61). -/
theorem correctFrame_refused (hr : s.room 1) (h : s.reaches m .correctFrame) {a : CorrectArgs}
    (hp : parseCorrect m.args = some a) {r : RefuseReason} (ht : correctTest s a = .error r) :
    ∃ t, exec (.correctFrame m) s = .next t ∧ s.answered t m .correctFrame (.refused r) .none ∧
      t = { s with link := t.link } := by
  have hc := exec_request (c := .correctFrame m) rfl h hp
  rw [ownCorrectFrame_error (s := takeFrame m.dest s) ht] at hc
  exact refused_event h hr hc

/-- CORRECT_FRAME taken (R62). -/
theorem correctFrame_taken (hr : s.room 1) (h : s.reaches m .correctFrame) {a : CorrectArgs}
    (hp : parseCorrect m.args = some a) {x : Session} {b : Bowler} {g : Game} (hb : x.bowler? a.bowler = some b)
    (hg : b.game = some g) (ht : correctTest s a = .ok (x, g)) :
    ∃ t, exec (.correctFrame m) s = .next t ∧ s.answered t m .correctFrame .done .none ∧
      t = { s with
        link := t.link
        sessions := s.sessions.map fun y =>
          if y.id = x.id then x.modifyGame a.bowler fun _ => g.correct a.frame a.pins else y } := by
  have hc := exec_request (c := .correctFrame m) rfl h hp
  rw [ownCorrectFrame_ok (s := takeFrame m.dest s) ht, Session.modifyGame_const hb hg] at hc
  obtain ⟨t, ht, hans, heq⟩ := written_event h hr hc
  exact ⟨t, ht, hans, by rwa [Session.modifyGame_id] at heq⟩

end

end Sys2Proof.Machine
end

section
/-! SUPPORT. The turn selection and the turn start (R76, R77, R81, R116): the bowler chosen, the record written, and what a
turn start makes of the station. -/

namespace Sys2Proof.Machine

/-! ## Frames queued one behind another -/

theorem display_eq (d : Display) (s : State) : display d s = { s with link := (display d s).link } := send_eq _ _ _ _

section
variable {s : State} {d e : Nat} {k : FrameMark} {p q : Payload}

theorem send_queued (h : s.sends 1) : (send d k p s).queued d p :=
  ⟨_, by rw [send_room d k p h, placeFrame_mem]; exact .inl rfl, rfl, rfl⟩

theorem State.queued.send (hq : s.queued e q) (h : s.sends 1) : (send d k p s).queued e q := by
  obtain ⟨f, hf, hdest, hpay⟩ := hq
  exact ⟨f, by rw [send_room d k p h, placeFrame_mem]; exact .inr hf, hdest, hpay⟩

theorem State.sends.send {n : Nat} (h : s.sends (n + 1)) : (send d k p s).sends n := by
  obtain ⟨hpair, hroom⟩ := h
  have hone : s.sends 1 := ⟨hpair, by unfold State.room at hroom ⊢; omega⟩
  refine ⟨by rwa [send_eq], ?_⟩
  unfold State.room at hroom ⊢
  rw [send_room d k p hone, placeFrame_length]
  omega

theorem State.sends.less {n m : Nat} (h : s.sends n) (hm : m ≤ n) : s.sends m :=
  ⟨h.1, by have := h.2; unfold State.room at this ⊢; omega⟩

end

theorem State.queued.of_link {s t : State} {d : Nat} {p : Payload} (h : s.queued d p) (hl : t.link = s.link) : t.queued d p := by
  unfold State.queued
  rwa [hl]

theorem State.sends.of_same {s t : State} {n : Nat} (h : s.sends n) (hl : t.link = s.link) (hc : t.ctl = s.ctl) : t.sends n := by
  unfold State.sends State.room
  rw [hl, hc]
  exact h

section
variable {s : State} {m : Msg} {n n0 : ReqName} {r : Result} {d : ReplyData}

theorem State.takeFrame_sends {c : Nat} (h : s.reaches m n0) (hr : s.room c) : (takeFrame m.dest s).sends c :=
  ⟨by simp [h.2.1], hr⟩

theorem State.replied_sends {c : Nat} (h : s.reaches m n0) (hr : s.room (c + 1)) : (s.replied m n r d).sends c :=
  State.sends.send (State.takeFrame_sends h hr)

theorem State.replied_queued (h : s.reaches m n0) (hr : s.room 1) :
    (s.replied m n r d).queued m.sender.toNat (firstReply m n r d) :=
  send_queued (State.takeFrame_sends h hr)

theorem State.replied_acked (h : s.reaches m n0) (hr : s.room 1) : s.acked (s.replied m n r d) :=
  (State.answered_replied (n := n) (r := r) (d := d) h hr).2

end

/-- What is queued later leaves the acknowledgement as it is. -/
theorem State.acked.send {s t : State} (h : s.acked t) (d : Nat) (k : FrameMark) (p : Payload) : s.acked (send d k p t) := by
  unfold State.acked at h ⊢
  rw [send_link, h]

theorem State.acked.lineIdle {s t : State} (h : s.acked t) : t.link.lineIdle = false := by rw [h]

theorem State.acked.of_link {s t u : State} (h : s.acked t) (hl : u.link = t.link) : s.acked u := by
  unfold State.acked
  rwa [hl]

/-! ## The session table -/

theorem session?_id {s : State} {id : Nat} {x : Session} (h : s.session? id = some x) : x.id = id := by
  simpa using List.find?_some h

/-- The record with an id, after another took its place. -/
theorem session?_putSession {s : State} {x y : Session} (h : s.session? y.id = some x) :
    (putSession y s).session? y.id = some y := by
  unfold State.session? at h ⊢
  show (s.sessions.map fun z => if z.id = y.id then y else z).find? (·.id == y.id) = some y
  rw [List.find?_map]
  have hsame : ((fun z : Session => z.id == y.id) ∘ fun z => if z.id = y.id then y else z) = (·.id == y.id) := by
    funext z
    by_cases hz : z.id = y.id <;> simp [hz]
  rw [hsame, h, Option.map_some, if_pos (by simpa using List.find?_some h)]

/-- A record put twice is the one put last. -/
theorem putSession_twice {x y : Session} (h : x.id = y.id) (s : State) : putSession y (putSession x s) = putSession y s := by
  show ({ s with sessions := _ } : State) = { s with sessions := _ }
  congr 1
  rw [putSession, State.setSessions_sessions, List.map_map]
  refine List.map_congr_left fun z _ => ?_
  by_cases hz : z.id = y.id <;> simp [hz, h]

/-! ## The turn selection (R76) -/

/-- The absent bowlers at the front are passed over, and the first other one is chosen. -/
theorem passOver_eq (f i : Nat) (bs : List Bowler) :
    passOver f i bs =
      (blanks f 0 (bs.findIdx fun b => !b.absent) bs,
        if bs.findIdx (fun b => !b.absent) < bs.length then some (i + bs.findIdx fun b => !b.absent) else none) := by
  induction bs generalizing i with
  | nil => rfl
  | cons b bs ih =>
    by_cases hb : b.absent = true
    · have hblanks (j : Nat) : blanks f 0 (j + 1) (b :: bs) =
          { b with game := b.game.map fun g => g.blank f } :: blanks f 0 j bs := by
        simp [blanks, List.mapIdx_cons]
      simp only [passOver, hb, if_true, ih, List.findIdx_cons, Bool.not_true, cond_false, hblanks, List.length_cons,
        Nat.add_lt_add_iff_right]
      refine congrArg _ (if_congr Iff.rfl ?_ rfl)
      exact congrArg some (by omega)
    · have hblanks : blanks f 0 0 (b :: bs) = b :: bs := by
        refine List.ext_getElem? fun n => ?_
        rw [blanks, List.getElem?_mapIdx]
        simp
      simp only [passOver, hb, List.findIdx_cons, Bool.not_false, cond_true, hblanks, List.length_cons]
      simp

theorem blanks_getElem? (f lo hi : Nat) (bs : List Bowler) (n : Nat) :
    (blanks f lo hi bs)[n]? = bs[n]?.map fun b =>
      if lo ≤ n ∧ n < hi then { b with game := b.game.map fun g => g.blank f } else b := by
  simp [blanks]

/-- Passing over from place k on leaves the bowlers before it. -/
theorem take_append_blanks (f k j : Nat) (bs : List Bowler) :
    bs.take k ++ blanks f 0 j (bs.drop k) = blanks f k (k + j) bs := by
  refine List.ext_getElem? fun n => ?_
  rw [List.getElem?_append, List.length_take, blanks_getElem?, blanks_getElem?]
  by_cases hn : n < min k bs.length
  · have hlo : ¬ (k ≤ n ∧ n < k + j) := by omega
    rw [if_pos hn, List.getElem?_take_of_lt (by omega)]
    simp only [hlo, if_false, Option.map_id']
  · rw [if_neg hn, List.getElem?_drop]
    by_cases hk : k ≤ bs.length
    · rw [Nat.min_eq_left hk, show k + (n - k) = n by omega]
      exact congrArg (Option.map · _) (funext fun b => if_congr (by omega) rfl rfl)
    · rw [List.getElem?_eq_none (by omega), List.getElem?_eq_none (by omega)]
      rfl

/-- The record with the first bowler behind its index who is not absent chosen for the frame of p (R76). -/
def Session.selected (p : GamePos) (x : Session) : Session :=
  { x with
    bowlers := blanks p.frame (x.current.getD 0) (firstPresent (x.current.getD 0) x.bowlers) x.bowlers
    current := some (firstPresent (x.current.getD 0) x.bowlers + 1), turn := .outstanding }

section
variable {x : Session} {p : GamePos}

/-- A bowler who is not absent is chosen (R76). -/
theorem Session.choose_chosen (hp : x.pos = some p)
    (h : firstPresent (x.current.getD 0) x.bowlers < x.bowlers.length) : x.choose = (x.selected p, .chosen) := by
  unfold Session.selected
  unfold firstPresent at h ⊢
  have hidx : (x.bowlers.drop (x.current.getD 0)).findIdx (fun b => !b.absent) < (x.bowlers.drop (x.current.getD 0)).length := by
    rw [List.length_drop]
    omega
  have hpresent : x.allAbsent = false := by
    obtain ⟨b, hb, hpres⟩ := List.findIdx_lt_length.1 hidx
    exact List.all_eq_false.2 ⟨b, List.mem_of_mem_drop hb, by simpa using hpres⟩
  unfold Session.choose
  rw [hpresent, Bool.and_false, if_neg Bool.false_ne_true]
  simp only [passOver_eq, if_pos hidx, take_append_blanks, hp, Option.map_some, Option.getD_some]
  refine congrArg (·, Choice.chosen) ?_
  congr 2
  omega

/-- The bowler chosen plays a game. -/
theorem Session.selected_bowler (h : firstPresent (x.current.getD 0) x.bowlers < x.bowlers.length)
    (hg : ∀ b ∈ x.bowlers, b.game.isSome = true) :
    ∃ b g, (x.selected p).bowler? (firstPresent (x.current.getD 0) x.bowlers + 1) = some b ∧ b.game = some g := by
  obtain ⟨g, hgame⟩ := Option.isSome_iff_exists.1 (hg _ (List.getElem_mem h))
  refine ⟨_, g, ?_, hgame⟩
  show (blanks _ _ _ x.bowlers)[_]? = _
  rw [Nat.add_sub_cancel, blanks_getElem?, List.getElem?_eq_getElem h, Option.map_some, if_neg (by omega)]

end

/-! ## The turn start (R81) -/

/-- A lane that is not ARMED starts no turn. -/
theorem startTurn_unarmed {l : LaneId} {s : State} (h : (s.seq l).state ≠ .armed) (id : Nat) : startTurn l id s = s := by
  unfold startTurn
  repeat' split
  all_goals simp_all

/-- A lane starts no turn of a session on the other lane. -/
theorem startTurn_elsewhere {l : LaneId} {id : Nat} {s : State} {x : Session} {p : GamePos} (hx : s.session? id = some x)
    (hp : x.pos = some p) (hl : p.lane ≠ l) : startTurn l id s = s := by
  unfold startTurn
  simp only [hx, hp]
  repeat' split
  all_goals simp_all

/-- What the start of an OUTSTANDING turn does once the meter has answered (R81, R116). -/
def turnAnswered (l : LaneId) (id : Nat) (r : Admission × State) : State :=
  match r.1 with
  | .admitted =>
    let s := match r.2.session? id with
      | some y => putSession { y with turn := .active } r.2
      | none => r.2
    s.setSeq l { s.seq l with foul := false }
  | _ => r.2

section
variable {s : State} {id i : Nat} {x : Session} {p : GamePos} {b : Bowler} {g : Game}

/-- The turn OUTSTANDING of a PLAYING session on its ARMED lane starts: the meter answers, and the console is shown it. -/
theorem startTurn_starts (hx : s.session? id = some x) (hp : x.pos = some p) (hi : x.current = some i)
    (hb : x.bowler? i = some b) (hg : b.game = some g) (hstate : x.state = .playing) (hturn : x.turn = .outstanding)
    (harmed : (s.seq p.lane).state = .armed) :
    startTurn p.lane id s =
      display (.turn (displayHead x i b g p) (admission p.lane x i g p s).1)
        (turnAnswered p.lane id (admission p.lane x i g p s)) := by
  unfold startTurn
  simp only [hx, hp, hi, hb, hg, Option.bind_some, Option.map_some]
  rw [if_pos ⟨hstate, hturn, trivial, harmed⟩]
  generalize admission p.lane x i g p s = r
  obtain ⟨a, v⟩ := r
  cases a <;> rfl

/-- A lane that does not charge admits the turn (R116). -/
theorem admission_free {l : LaneId} (hm : (s.meter l).mode = .none) (x : Session) (i : Nat) (g : Game) (p : GamePos) :
    admission l x i g p s = (.admitted, s.setMeter l { s.meter l with wait := none }) := by
  simp only [admission, hm]

/-- The station with the turn of session y ACTIVE on a lane, admitted without a charge (R81, R116). -/
def State.turnMade (s : State) (l : LaneId) (y : Session) : State :=
  { s with
    seqs := s.seqs.set l { s.seq l with foul := false }, meters := s.meters.set l { s.meter l with wait := none }
    sessions := s.sessions.map fun z => if z.id = y.id then { y with turn := .active } else z }

/-- The turn of a session just put into the table. -/
theorem turnMade_putSession (s : State) (l : LaneId) (y : Session) : (putSession y s).turnMade l y = s.turnMade l y := by
  have hput := congrArg State.sessions (putSession_twice (x := y) (y := { y with turn := .active }) rfl s)
  show ({ s with seqs := _, meters := _, sessions := _ } : State) = _
  rw [State.turnMade]
  congr 1

/-- An admitted turn becomes ACTIVE. -/
theorem turnAnswered_admitted {v : State} {l : LaneId} {id : Nat} {y : Session} (hy : v.session? id = some y) :
    turnAnswered l id (.admitted, v.setMeter l { v.meter l with wait := none }) = v.turnMade l y := by
  have hy' : (v.setMeter l { v.meter l with wait := none }).session? id = some y := hy
  simp only [turnAnswered, hy']
  rfl

theorem startTurn_free (hx : s.session? x.id = some x) (hp : x.pos = some p) (hi : x.current = some i)
    (hb : x.bowler? i = some b) (hg : b.game = some g) (hstate : x.state = .playing) (hturn : x.turn = .outstanding)
    (harmed : (s.seq p.lane).state = .armed) (hm : (s.meter p.lane).mode = .none) :
    startTurn p.lane x.id s = display (.turn (displayHead x i b g p) .admitted) (s.turnMade p.lane x) := by
  rw [startTurn_starts hx hp hi hb hg hstate hturn harmed, admission_free hm, turnAnswered_admitted hx]

end

/-- A session selected for on a lane that is not ARMED waits with its turn OUTSTANDING. -/
theorem startTurns_unarmed {s : State} {x : Session} {p : GamePos} (hx : s.session? x.id = some x) (hp : x.pos = some p)
    (h : (s.seq p.lane).state ≠ .armed) : startTurns (s, [x.id]) = s := by
  have hnone (l : LaneId) : startTurn l x.id s = s := by
    by_cases hl : p.lane = l
    · exact startTurn_unarmed (hl ▸ h) x.id
    · exact startTurn_elsewhere hx hp hl
  show startTurn .B x.id (startTurn .A x.id s) = s
  rw [hnone, hnone]

/-- The turns of one session start on its own lane only. -/
theorem startTurns_own {s : State} {x y : Session} {p : GamePos} (hx : s.session? x.id = some x) (hp : x.pos = some p)
    (hy : (startTurn p.lane x.id s).session? x.id = some y) (hq : y.pos = some p) :
    startTurns (s, [x.id]) = startTurn p.lane x.id s := by
  show startTurn .B x.id (startTurn .A x.id s) = _
  cases hl : p.lane with
  | A =>
    rw [hl] at hy
    exact startTurn_elsewhere hy hq (by simp [hl])
  | B => rw [startTurn_elsewhere hx hp (by simp [hl])]

theorem State.turnMade_session? {s : State} {x : Session} (l : LaneId) (hx : s.session? x.id = some x) :
    (s.turnMade l x).session? x.id = some { x with turn := .active } :=
  session?_putSession (y := { x with turn := .active }) hx

theorem display_session? (d : Display) (s : State) (id : Nat) : (display d s).session? id = s.session? id := by
  rw [display_eq]
  rfl

/-- The turns that start for a session selected on a lane that does not charge (R81). -/
theorem startTurns_free {s : State} {x : Session} {p : GamePos} {i : Nat} {b : Bowler} {g : Game}
    (hx : s.session? x.id = some x) (hp : x.pos = some p) (hi : x.current = some i) (hb : x.bowler? i = some b)
    (hg : b.game = some g) (hstate : x.state = .playing) (hturn : x.turn = .outstanding)
    (hm : (s.meter p.lane).mode = .none) :
    startTurns (s, [x.id]) =
      if (s.seq p.lane).state = .armed then
        display (.turn (displayHead x i b g p) .admitted) (s.turnMade p.lane x)
      else s := by
  by_cases harmed : (s.seq p.lane).state = .armed
  · have hstart := startTurn_free hx hp hi hb hg hstate hturn harmed hm
    rw [if_pos harmed, ← hstart]
    refine startTurns_own (y := { x with turn := .active }) hx hp ?_ hp
    rw [hstart, display_session?, State.turnMade_session? _ hx]
  · rw [if_neg harmed, startTurns_unarmed hx hp harmed]

/-! ## The selection of a session on a lane that does not charge -/

theorem selectTurn_chosen {s : State} {id : Nat} {x y : Session} (hx : s.session? id = some x) (hy : x.choose = (y, .chosen)) :
    selectTurn id s = (putSession y s, [id]) := by
  simp only [selectTurn, hx, hy]

/-- The station with the selection of session x made at p, and its turn ACTIVE when the lane is ARMED (R76, R81, R116). -/
def State.selectionMade (s : State) (p : GamePos) (x : Session) : State :=
  { s with
    seqs := if (s.seq p.lane).state = .armed then s.seqs.set p.lane { s.seq p.lane with foul := false } else s.seqs
    meters := if (s.seq p.lane).state = .armed then s.meters.set p.lane { s.meter p.lane with wait := none } else s.meters
    sessions := s.sessions.map fun z =>
      if z.id = x.id then
        { x.selected p with turn := if (s.seq p.lane).state = .armed then .active else .outstanding }
      else z }

theorem startTurns_selected {s : State} {x w : Session} {p : GamePos} (hx : s.session? x.id = some w) (hp : x.pos = some p)
    (hstate : x.state = .playing) (hj : firstPresent (x.current.getD 0) x.bowlers < x.bowlers.length)
    (hgames : ∀ b ∈ x.bowlers, b.game.isSome = true) (hm : (s.meter p.lane).mode = .none) :
    ∃ d, startTurns (putSession (x.selected p) s, [x.id]) =
      if (s.seq p.lane).state = .armed then display d (s.selectionMade p x) else s.selectionMade p x := by
  obtain ⟨b, g, hb, hg⟩ := Session.selected_bowler (p := p) hj hgames
  have hput : (putSession (x.selected p) s).session? (x.selected p).id = some (x.selected p) := session?_putSession hx
  have hstart := startTurns_free hput hp rfl hb hg hstate rfl hm
  refine ⟨.turn (displayHead (x.selected p) (firstPresent (x.current.getD 0) x.bowlers + 1) b g p) .admitted,
    hstart.trans ?_⟩
  show (if (s.seq p.lane).state = .armed then _ else _) = _
  by_cases harmed : (s.seq p.lane).state = .armed
  · rw [if_pos harmed, if_pos harmed]
    rw [turnMade_putSession, State.selectionMade]
    simp only [if_pos harmed]
    rfl
  · rw [if_neg harmed, if_neg harmed]
    unfold State.selectionMade
    simp only [if_neg harmed]
    rfl

end Sys2Proof.Machine
end

section
/-! SUPPORT. SET_HANDICAP, SET_ABSENT and CORRECT_FRAME (R60 to R62, R71, R72): the absence cleared, and the statement. -/

namespace Sys2Proof.Machine

theorem Session.modifyBowler_mem {x : Session} {i : Nat} {f : Bowler → Bowler} {b : Bowler}
    (h : b ∈ (x.modifyBowler i f).bowlers) : ∃ c ∈ x.bowlers, b = c ∨ b = f c := by
  unfold Session.modifyBowler at h
  split at h
  · exact ⟨b, h, .inl rfl⟩
  · obtain ⟨n, hn⟩ := List.mem_iff_getElem?.1 h
    rw [List.getElem?_modify] at hn
    obtain ⟨c, hc, rfl⟩ := Option.map_eq_some_iff.1 hn
    refine ⟨c, List.mem_of_getElem? hc, ?_⟩
    by_cases hk : i - 1 = n
    · exact .inr (if_pos hk)
    · exact .inl (if_neg hk)

/-- The bowler with an index changed: every other field of the record stays. -/
theorem Session.modifyBowler_eq (x : Session) (i : Nat) (f : Bowler → Bowler) :
    x.modifyBowler i f = { x with bowlers := (x.modifyBowler i f).bowlers } := by
  unfold Session.modifyBowler
  split <;> rfl

theorem Session.modifyBowler_length (x : Session) (i : Nat) (f : Bowler → Bowler) :
    (x.modifyBowler i f).bowlers.length = x.bowlers.length := by
  unfold Session.modifyBowler
  split <;> simp

theorem session?_alone {s : State} {x : Session} (h : s.sessions = [x]) : s.session? x.id = some x := by
  simp [State.session?, h]

/-- A clear of the absence of a session without a turn (R72): the record is written and the selection made. -/
theorem presentAgain_selects {s : State} {x back : Session} {p : GamePos} (hx : s.session? back.id = some x)
    (hid : back.id = x.id) (hstate : x.state = .playing) (hturn : x.turn = .none) (hpos : back.pos = some p)
    (hj : firstPresent (back.current.getD 0) back.bowlers < back.bowlers.length) :
    presentAgain x (putSession back s) = startTurns (putSession (back.selected p) s, [back.id]) := by
  have hput : (putSession back s).session? x.id = some back := hid ▸ session?_putSession hx
  unfold presentAgain
  simp only [hstate, hturn, if_true]
  rw [selectTurn_chosen hput (Session.choose_chosen hpos hj), ← hid]
  exact congrArg startTurns (congrArg (·, [back.id]) (putSession_twice (x := back) (y := back.selected p) rfl s))

section
variable {m : Msg} {s : State}

/-- SET_ABSENT clears an absence of a session without a turn: the selection is made, and the turn starts (R72, R76, R81). -/
theorem setAbsent_selects (hr : s.room 2) (h : s.reaches m .setAbsent) {a : Nat × Nat × Nat} (hp : parse3 m.args = some a)
    (ha : a.2.2 = 0) {x back : Session} {p : GamePos} (hx : s.sessions = [x]) (hid : x.id = a.1) (hstate : x.state = .playing)
    (hturn : x.turn = .none) (hb : x.bowler? a.2.1 ≠ none) (hpos : x.pos = some p)
    (hgames : ∀ b ∈ x.bowlers, b.game.isSome = true) (hfree : ∀ l, (s.meter l).mode = .none)
    (hback : back = x.modifyBowler a.2.1 fun b => { b with absent := false })
    (hj : firstPresent (back.current.getD 0) back.bowlers < back.bowlers.length) :
    ∃ t, exec (.setAbsent m) s = .next t ∧ s.acked t ∧
      t.queued m.sender.toNat (firstReply m .setAbsent .done .none) ∧
      t = { s.selectionMade p back with link := t.link } := by
  have heq : back = { x with bowlers := back.bowlers } := by rw [hback]; exact x.modifyBowler_eq _ _
  have hbackgames (b : Bowler) (hmem : b ∈ back.bowlers) : b.game.isSome = true := by
    obtain ⟨c, hc, rfl | rfl⟩ := Session.modifyBowler_mem (hback ▸ hmem)
    · exact hgames _ hc
    · exact hgames c hc
  have hbackid : back.id = x.id := by rw [heq]
  have hbackpos : back.pos = some p := by rw [heq]; exact hpos
  have hbackstate : back.state = .playing := by rw [heq]; exact hstate
  let v := s.replied m .setAbsent .done .none
  have hv : v = { s with link := v.link } := s.replied_eq _ _ _ _
  have hvx : v.session? back.id = some x := by rw [hv, hbackid]; exact session?_alone hx
  have htest : bowlerTest (takeFrame m.dest s) a.1 a.2.1 = .ok x :=
    bowlerTest_taken (hid ▸ session?_alone hx) hb (by rw [hstate]; rfl)
  have hown : ownSetAbsent m a (takeFrame m.dest s) = presentAgain x (putSession back v) := by
    rw [ownSetAbsent_ok htest, if_neg (by simp [ha]), hback]
    rfl
  rw [presentAgain_selects hvx hbackid hstate hturn hbackpos hj] at hown
  have hmeter : (v.meter p.lane).mode = .none := by rw [hv]; exact hfree _
  obtain ⟨d, hstart⟩ := startTurns_selected hvx hbackpos hbackstate hj hbackgames hmeter
  have hmade : v.selectionMade p back = { s.selectionMade p back with link := v.link } := by
    rw [hv]
    rfl
  have hacked : s.acked (v.selectionMade p back) := (State.replied_acked h (by unfold State.room at hr ⊢; omega)).of_link rfl
  have hqueued : (v.selectionMade p back).queued m.sender.toNat (firstReply m .setAbsent .done .none) :=
    (State.replied_queued h (by unfold State.room at hr ⊢; omega)).of_link rfl
  have hsends : (v.selectionMade p back).sends 1 := (State.replied_sends h hr).of_same rfl rfl
  have hc := exec_request (c := .setAbsent m) rfl h hp
  rw [hown, hstart] at hc
  refine ⟨_, hc, ?_⟩
  split
  · have hshown := hacked.send (64 + (v.selectionMade p back).ctl.pair.getD 0) .none (.display d)
    change s.acked (display d (v.selectionMade p back)) at hshown
    rw [beginTx_busy hshown.lineIdle]
    refine ⟨hshown, hqueued.send hsends, ?_⟩
    rw [display_eq, hmade]
  · rw [beginTx_busy hacked.lineIdle]
    exact ⟨hacked, hqueued, hmade⟩

end

section
variable {m : Msg} {s : State} {a : CorrectArgs} {x : Session} {b : Bowler} {g : Game}

/-- A correction in range is refused by R60 step 3, or by R61, or it is taken. -/
theorem correctTest_outcomes (hx : s.session? a.session = some x) (ho : ¬ a.outside x) (hb : x.bowler? a.bowler = some b) :
    (b.game = none → correctTest s a = .error .state) ∧
    ∀ g, b.game = some g →
      (a.unfit x g → correctTest s a = .error .state) ∧
      (¬ a.unfit x g → ¬ (a.pins.length = (g.ballsOf a.frame).length ∧ endedPins a.frame a.pins = true) →
        correctTest s a = .error .badStructure) ∧
      (¬ a.unfit x g → a.pins.length = (g.ballsOf a.frame).length ∧ endedPins a.frame a.pins = true →
        correctTest s a = .ok (x, g)) := by
  have htest := correctTest_inside hx ho hb
  have hpins (g : Game) := structureOk_iff (f := a.frame) (count := (g.ballsOf a.frame).length) (CorrectArgs.inside_range ho).2
  refine ⟨fun hg => by rw [htest, hg]; rfl, fun g hg => ?_⟩
  simp only [hg, Option.elim_some] at htest
  refine ⟨fun hu => ?_, fun hu hfit => ?_, fun hu hfit => ?_⟩
  · rw [htest, if_pos ((a.unfit_iff x g).1 hu)]
  · rw [htest, if_neg (mt (a.unfit_iff x g).2 hu), if_neg (mt (hpins g).1 hfit)]
  · rw [htest, if_neg (mt (a.unfit_iff x g).2 hu), if_pos ((hpins g).2 hfit)]

/-- A frame that takes a correction is filled. -/
theorem CorrectArgs.fit_frame (h : ¬ a.unfit x g) : 1 ≤ a.frame ∧ a.frame ≤ g.frames.length := by
  have hslot : ¬ ∀ r ∈ g.slot a.frame, r.mark = .incomplete := fun hn => h (.inr (.inr (.inl hn)))
  cases hr : g.slot a.frame with
  | none => exact absurd (by simp [hr]) hslot
  | some r => exact Game.slot_le hr

end

/-- Settles O52. The requests share their tests; each taken one writes its bowler, and a cleared absence selects. -/
theorem bowlersChanged : Obligations.BowlersChanged := by
  unfold Obligations.BowlersChanged
  intro m s hr
  refine ⟨fun h a hp => ⟨?_, ?_⟩, fun h a hp => ⟨?_, ?_⟩, ?_, fun h a hp => ⟨?_, ?_⟩⟩
  · exact bowlerTest_refusals h hr fun r ht => by
      rw [exec_request (c := .setHandicap m) rfl h hp, ownSetHandicap_error (s := takeFrame m.dest s) ht]
  · intro x hx b hb hshut
    have htest := bowlerTest_taken hx (by rw [hb]; simp) (by simpa using mt (SessionState.sealed_iff _).1 hshut)
    obtain ⟨t, ht, hans, heq⟩ := setHandicap_taken hr h hp htest
    exact ⟨t, ht, hans, heq, fun _ _ => rfl⟩
  · exact bowlerTest_refusals h hr fun r ht => by
      rw [exec_request (c := .setAbsent m) rfl h hp, ownSetAbsent_error (s := takeFrame m.dest s) ht]
  · intro x hx hb hshut
    exact setAbsent_written hr h hp (bowlerTest_taken hx hb (by simpa using mt (SessionState.sealed_iff _).1 hshut))
  · intro h hr2 a hp ha x hx hid hstate hturn hb p hpos hgames hfree back k j starts hj
    have hbackid : back.id = x.id := x.modifyBowler_id _ _
    have hcurrent : back.current = x.current := by simp only [back]; rw [x.modifyBowler_eq]
    have hlength : back.bowlers.length = x.bowlers.length := x.modifyBowler_length _ _
    obtain ⟨t, ht, hacked, hqueued, heq⟩ :=
      setAbsent_selects hr2 h hp ha hx hid hstate hturn hb hpos hgames hfree rfl (back := back)
        (by rw [hcurrent, hlength]; exact hj)
    refine ⟨t, ht, hacked, hqueued, heq.trans ?_⟩
    simp only [State.selectionMade, Session.selected, hx, List.map_cons, List.map_nil, hbackid, hcurrent, if_true]
    rfl
  · intro hx
    exact correctFrame_refused hr h hp (correctTest_noSession hx)
  · intro x hx
    refine ⟨fun ho => correctFrame_refused hr h hp (correctTest_range hx ho), fun ho b hb => ?_⟩
    obtain ⟨hnone, hgame⟩ := correctTest_outcomes hx ho hb
    refine ⟨fun hg => correctFrame_refused hr h hp (hnone hg), fun g hg => ?_⟩
    obtain ⟨hunfit, hshape, htaken⟩ := hgame g hg
    refine ⟨fun hu => correctFrame_refused hr h hp (hunfit hu), fun hu hs => correctFrame_refused hr h hp (hshape hu hs),
      fun hu hs => ?_⟩
    obtain ⟨t, ht, hans, heq⟩ := correctFrame_taken hr h hp hb hg (htaken hu hs)
    have hframe := CorrectArgs.fit_frame hu
    exact ⟨t, ht, hans, _, heq, Game.correct_ballsOf_same hframe, fun k hk => Game.correct_ballsOf_other hframe hk,
      Game.correct_same, Game.correct_revision, g.correct_frame _ _,
      fun hscored => Game.correct_scored hscored _ _⟩

end Sys2Proof.Machine
end

section
/-! SUPPORT. The line's side of the link controller: an owner's effects reach the outbound queue only (R170, R173). -/

namespace Sys2Proof.Machine

/-- The link controller but for its outbound queue. -/
def Link.line (k : Link) : Link := { k with queue := [] }

variable (s : State)

@[simp] theorem send_line (d : Nat) (k : FrameMark) (p : Payload) : (send d k p s).link.line = s.link.line := by
  rw [send_link]
  rfl

@[simp] theorem display_line (d : Display) : (display d s).link.line = s.link.line := send_line s _ _ _

@[simp] theorem writeMeter_line (l : LaneId) (m : Meter) : (writeMeter l m s).link.line = s.link.line := by
  unfold writeMeter notice
  dsimp only
  split
  · exact send_line _ _ _ _
  · rfl

@[simp] theorem makeCharge_line (l : LaneId) (x : Session) (i number band price amount : Nat) :
    (makeCharge l x i number band price amount s).link.line = s.link.line := by
  unfold makeCharge appendEntry
  simp

@[simp] theorem admission_line (l : LaneId) (x : Session) (i : Nat) (g : Game) (p : GamePos) :
    (admission l x i g p s).2.link.line = s.link.line := by
  unfold admission holdTurn addReason
  dsimp only
  repeat' split
  all_goals simp

@[simp] theorem startTurn_line (l : LaneId) (id : Nat) : (startTurn l id s).link.line = s.link.line := by
  unfold startTurn
  dsimp only
  repeat' split
  all_goals simp

/-- What every step of a fold keeps, the fold keeps. -/
theorem foldl_line {α : Type} (f : State → α → State) (hf : ∀ s a, (f s a).link.line = s.link.line) (as : List α) :
    (as.foldl f s).link.line = s.link.line := by
  induction as generalizing s with
  | nil => rfl
  | cons a as ih => exact (ih (f s a)).trans (hf s a)

@[simp] theorem startTurns_line (r : State × List Nat) : (startTurns r).link.line = r.1.link.line :=
  (foldl_line _ _ (fun _ _ => startTurn_line _ _ _) _).trans (foldl_line _ _ (fun _ _ => startTurn_line _ _ _) _)

@[simp] theorem startOffer_line (id : Nat) : (startOffer id s).link.line = s.link.line := by
  unfold startOffer sendTransfer
  split
  · exact send_line _ _ _ _
  · rfl

@[simp] theorem armedTurn_line (l : LaneId) (id : Nat) : (armedTurn l s id).link.line = s.link.line := by
  unfold armedTurn
  repeat' split
  all_goals simp

@[simp] theorem armedReport_line (l : LaneId) : (armedReport l s).link.line = s.link.line := by
  unfold armedReport
  dsimp only
  split <;> simp [foldl_line]

@[simp] theorem testHeld_line (l : LaneId) : (testHeld l s).link.line = s.link.line := by
  unfold testHeld enterArmed
  repeat' split
  all_goals simp

@[simp] theorem meterTold_line (l : LaneId) : (meterTold l s).link.line = s.link.line := by
  unfold meterTold dropReasons setHolds
  simp

@[simp] theorem startTransfer_line (id : Nat) : (startTransfer id s).link.line = s.link.line := by
  unfold startTransfer
  dsimp only
  repeat' split
  all_goals simp

/-- The acknowledgement of a frame is on the line's side. -/
theorem State.acked.of_line {s t u : State} (h : s.acked t) (hl : u.link.line = t.link.line) : s.acked u := by
  unfold State.acked at h ⊢
  have hu : u.link = { u.link.line with queue := u.link.queue } := rfl
  rw [hu, hl, h]
  rfl

end Sys2Proof.Machine
end

section
/-! SUPPORT. MOVE_SESSION (R155) and the start of a transfer (R156), and the statement about them. -/

namespace Sys2Proof.Machine

/-! ## The tests (R155) -/

/-- Why a MOVE_SESSION of session x is refused, in the order of R155. -/
def State.moveRefusal (s : State) (a : MoveArgs) (x : Session) : Option RefuseReason :=
  if ¬ (1 ≤ a.station ∧ a.station ≤ 60) ∨ s.ctl.pair = some a.station ∨ 1 < a.lane then some .range
  else if x.cross = true then some .cross
  else if x.state ≠ .playing then some .state
  else if s.transfer.record ≠ .idle then some .busy
  else none

theorem laneOf_eq_none (n : Nat) : laneOf n = none ↔ 1 < n := by
  match n with
  | 0 | 1 => simp [laneOf]
  | n + 2 => simp [laneOf]

theorem isPair_eq_false (n : Nat) : isPair n = false ↔ ¬ (1 ≤ n ∧ n ≤ 60) := by
  simp [isPair]

section
variable {s : State} {a : MoveArgs} {x : Session}

theorem moveTest_noSession (h : s.session? a.session = none) : moveTest s a = .error .noSession := by
  simp only [moveTest, h]

theorem moveTest_refused (h : s.session? a.session = some x) {r : RefuseReason} (hr : s.moveRefusal a x = some r) :
    moveTest s a = .error r := by
  unfold State.moveRefusal at hr
  unfold moveTest
  simp only [h, isPair_eq_false]
  cases hl : laneOf a.lane with
  | none =>
    rw [if_pos (.inr (.inr ((laneOf_eq_none _).1 hl)))] at hr
    exact congrArg _ (Option.some.inj hr)
  | some l =>
    have hlane : ¬ 1 < a.lane := fun hn => by simp [(laneOf_eq_none _).2 hn] at hl
    simp only [hlane, or_false] at hr
    dsimp only
    split at hr
    · rw [if_pos ‹_›]; exact congrArg _ (Option.some.inj hr)
    · rw [if_neg ‹_›]
      repeat' split at hr
      all_goals simp_all

theorem moveTest_taken (h : s.session? a.session = some x) (hr : s.moveRefusal a x = none) {l : LaneId}
    (hl : laneOf a.lane = some l) : moveTest s a = .ok (x, l) := by
  unfold State.moveRefusal at hr
  unfold moveTest
  simp only [h, hl, isPair_eq_false]
  have hlane : ¬ 1 < a.lane := fun hn => by simp [(laneOf_eq_none _).2 hn] at hl
  simp only [hlane, or_false] at hr
  repeat' split at hr
  all_goals simp_all

end

/-! ## The index of a withdrawn turn (R156 step 1) -/

/-- The last element that a list of numbers in ascending order keeps is the greatest. -/
theorem getLast?_filled (P : Nat → Bool) (n i : Nat) :
    ((List.range n).filterMap fun k => if P k then some (k + 1) else none).getLast? = some i ↔
      (1 ≤ i ∧ i ≤ n ∧ P (i - 1) = true) ∧ ∀ k, 1 ≤ k ∧ k ≤ n ∧ P (k - 1) = true → k ≤ i := by
  induction n with
  | zero => simp; omega
  | succ n ih =>
    rw [List.range_succ, List.filterMap_append, List.getLast?_append]
    by_cases hP : P n = true
    · simp only [List.filterMap_cons, hP, if_true, List.filterMap_nil, List.getLast?_singleton, Option.some_or,
        Option.some.injEq]
      constructor
      · rintro rfl
        exact ⟨⟨by omega, by omega, by simpa using hP⟩, fun k hk => hk.2.1⟩
      · rintro ⟨⟨-, hi, -⟩, hmax⟩
        have := hmax (n + 1) ⟨by omega, by omega, by simpa using hP⟩
        omega
    · have hout (k : Nat) : (1 ≤ k ∧ k ≤ n + 1 ∧ P (k - 1) = true) ↔ (1 ≤ k ∧ k ≤ n ∧ P (k - 1) = true) := by
        refine and_congr_right fun _ => ⟨fun ⟨hk, hPk⟩ => ⟨?_, hPk⟩, fun ⟨hk, hPk⟩ => ⟨by omega, hPk⟩⟩
        rcases Nat.lt_or_eq_of_le hk with hk | rfl
        · omega
        · exact absurd hPk hP
      simp only [List.filterMap_cons, hP, List.filterMap_nil, hout]
      simpa using ih

/-- The bowler with an index has the frame filled. -/
def Session.filledAt (x : Session) (f i : Nat) : Prop :=
  1 ≤ i ∧ ∃ b g, x.bowlers[i - 1]? = some b ∧ b.game = some g ∧ (g.slot f).isSome = true

/-- The index goes back to the last filled slot of the frame. -/
theorem Session.filledUpTo_eq (x : Session) (f i : Nat) :
    x.filledUpTo f = some i ↔ x.filledAt f i ∧ ∀ k, x.filledAt f k → k ≤ i := by
  let P (k : Nat) : Bool := ((x.bowlers[k]?).bind (·.game)).any fun g => (g.slot f).isSome
  have hup : x.filledUpTo f =
      ((List.range x.bowlers.length).filterMap fun k => if P k then some (k + 1) else none).getLast? := by
    unfold Session.filledUpTo
    refine congrArg List.getLast? (congrArg (List.filterMap · _) (funext fun k => ?_))
    simp only [P]
    split
    · next g hg => simp only [hg, Option.any_some]
    · next hg => simp only [hg, Option.any_none, Bool.false_eq_true, if_false]
  have hfilled (k : Nat) : x.filledAt f k ↔ 1 ≤ k ∧ k ≤ x.bowlers.length ∧ P (k - 1) = true := by
    unfold Session.filledAt
    refine and_congr_right fun h1 => ?_
    simp only [P, Option.any_eq_true, Option.bind_eq_some_iff]
    constructor
    · rintro ⟨b, g, hb, hg, hs⟩
      have := (List.getElem?_eq_some_iff.1 hb).1
      exact ⟨by omega, g, ⟨b, hb, hg⟩, hs⟩
    · rintro ⟨-, g, ⟨b, hb, hg⟩, hs⟩
      exact ⟨b, g, hb, hg, hs⟩
  simp only [hup, hfilled]
  exact getLast?_filled P _ i

/-- The turn is OUTSTANDING, or ACTIVE with no ball in the frame (R156). -/
theorem Session.turnUnbegun_iff (z : Session) :
    z.turnUnbegun = true ↔ z.turn = .outstanding ∨ z.turn = .active ∧
      ∀ p b g, z.pos = some p → z.current.bind z.bowler? = some b → b.game = some g → g.ballsOf p.frame = [] := by
  unfold Session.turnUnbegun
  cases hturn : z.turn with
  | none | outstanding | ended => simp
  | active =>
    cases hp : z.pos with
    | none => simp
    | some p =>
      cases hb : z.current.bind z.bowler? with
      | none => simp
      | some b =>
        cases hg : b.game with
        | none =>
          simp only [Option.bind_some, hg]
          refine iff_of_true trivial (.inr ⟨trivial, fun p' b' g' hp' hb' hg' => ?_⟩)
          cases hb'
          exact absurd (hg.symm.trans hg') (by simp)
        | some g =>
          simp only [Option.bind_some, hg, List.isEmpty_iff]
          refine ⟨fun h => .inr ⟨trivial, fun p' b' g' hp' hb' hg' => ?_⟩, fun h => ?_⟩
          · cases hp'
            cases hb'
            rwa [← Option.some.inj (hg.symm.trans hg')]
          · obtain ⟨-, h⟩ := h.resolve_left (by simp)
            exact h p b g rfl rfl hg

/-! ## The OFFER (R156 steps 2 to 4) -/

/-- The fields of the OFFER of a session. -/
def Session.offerFields (y : Session) (l : LaneId) : OfferFields :=
  { size := y.size, number := (y.pos.map (·.number)).getD 1, frame := (y.pos.map (·.frame)).getD 1
    current := y.current.getD 0, limit := y.limit, discount := y.discount, lane := l }

/-- The station with session y in MOVING and the source's record in OFFERED with the next tag. -/
def State.offering (s : State) (y : Session) (peer : Nat) (l : LaneId) (sid : Nat) (req : Nat × Nat) : State :=
  { s with
    sessions := s.sessions.map fun z => if z.id = y.id then { y with turn := .none, state := .moving .sending } else z
    transfer :=
      { record := .source .offered (some (if 255 ≤ s.transfer.lastTag then 1 else s.transfer.lastTag + 1)) peer l sid req (some 1500)
        lastTag := if 255 ≤ s.transfer.lastTag then 1 else s.transfer.lastTag + 1 } }

theorem startOffer_eq {s : State} {y : Session} {st : SourceState} {tag timer : Option Nat} {peer sid : Nat} {l : LaneId}
    {req : Nat × Nat} (hy : s.session? y.id = some y) (hrec : s.transfer.record = .source st tag peer l sid req timer) :
    startOffer y.id s =
      send peer .transfer
        (.transfer (if 255 ≤ s.transfer.lastTag then 1 else s.transfer.lastTag + 1) (.offer (y.offerFields l)))
        (s.offering y peer l sid req) := by
  simp only [startOffer, hy, hrec]
  rfl

/-! ## The lane a withdrawn turn held (R15, R116, log entry 27) -/

/-- An entry into ARMED reported beside one session, which has no turn and is not SUSPENDED, changes nothing. -/
theorem armedReport_idle {s : State} {y : Session} (l : LaneId) (h : s.sessions = [y]) (hturn : y.turn = .none)
    (hstate : ∀ r, y.state ≠ .suspended r) : armedReport l s = s := by
  have hresume : resumeOn l s = ((s, []), none) := by
    unfold resumeOn
    cases hs : y.state with
    | suspended r => exact absurd hs (hstate r)
    | _ => simp [h, hs]
  have harmed (id : Nat) : armedTurn l s id = s := by
    unfold armedTurn
    split
    · rfl
    · next x hx =>
      have : x = y := by
        have := List.mem_of_find?_eq_some hx
        simpa [h] using this
      subst this
      simp [hturn]
  unfold armedReport
  rw [hresume]
  show (s.sessions.map (·.id)).foldl (armedTurn l) s = s
  rw [h]
  exact harmed y.id

theorem Sequencer.letGo_rack {q : Sequencer} {b : Bool} (hq : q.state = .held (.rack b)) (h : HoldSet) :
    q.letGo h = if h.appliesAt (.rack b) then { q with holds := h }
      else { q with holds := h, state := .armed, timer := none } := by
  simp only [Sequencer.letGo, hq]
  rfl

theorem Sequencer.letGo_other {q : Sequencer} (hq : ∀ p, q.state ≠ .held p) (h : HoldSet) :
    q.letGo h = { q with holds := h } := by
  unfold Sequencer.letGo
  split
  · exact absurd ‹_› (hq _)
  · rfl

/-- The meter is told that no turn is outstanding, beside one session without a turn: the lane may enter ARMED. -/
theorem meterTold_idle {s : State} {y : Session} {l : LaneId} (h : s.sessions = [y]) (hturn : y.turn = .none)
    (hstate : ∀ r, y.state ≠ .suspended r) (hread : (s.seq l).state ≠ .held .read) :
    meterTold l s = { s with
      seqs := s.seqs.set l (s.seq l).withoutWait, meters := s.meters.set l { s.meter l with wait := none } } := by
  let hs : HoldSet := { (s.seq l).holds with credit := false, journal := false }
  let u := setHolds l hs (s.setMeter l { s.meter l with wait := none })
  have hseq : u.seq l = { s.seq l with holds := hs } := Pair.get_set_same _ _ _
  show testHeld l u = _
  unfold testHeld Sequencer.withoutWait
  rw [hseq]
  dsimp only
  split
  · next q hq =>
    cases q with
    | read => exact absurd hq hread
    | rack b =>
      rw [Sequencer.letGo_rack hq]
      dsimp only
      split
      · rfl
      · unfold enterArmed
        rw [armedReport_idle l (show (u.setSeq l _).sessions = [y] from h) hturn hstate, hseq]
        show ({ s with seqs := (s.seqs.set l _).set l _, meters := _ } : State) = _
        rw [Pair.set_set]
        rfl
  · next hq =>
    rw [Sequencer.letGo_other hq]
    rfl

/-! ## The transfer starts (R156) -/

/-- The session with its turn withdrawn: the index goes back to the last filled slot of its frame (R156 step 1). -/
def Session.turnBack (z : Session) : Session :=
  { z with turn := .none, current := z.filledUpTo ((z.pos.map (·.frame)).getD 1) }

/-- A session put into the table before its OFFER leaves nothing of itself there. -/
theorem offering_putSession {z y : Session} (h : z.id = y.id) (s : State) (peer sid : Nat) (l : LaneId) (req : Nat × Nat) :
    (putSession z s).offering y peer l sid req = s.offering y peer l sid req := by
  have := congrArg State.sessions (putSession_twice (x := z) (y := { y with turn := .none, state := .moving .sending }) h s)
  unfold State.offering
  show ({ s with sessions := _, transfer := _ } : State) = _
  congr 1

section
variable {s : State} {z : Session} {st : SourceState} {tag timer : Option Nat} {peer sid : Nat} {l : LaneId} {req : Nat × Nat}

theorem startTransfer_begun (hz : s.session? z.id = some z) (hrec : s.transfer.record = .source st tag peer l sid req timer)
    (h : ¬ z.turnUnbegun = true) :
    startTransfer z.id s =
      send peer .transfer
        (.transfer (if 255 ≤ s.transfer.lastTag then 1 else s.transfer.lastTag + 1) (.offer (z.offerFields l)))
        (s.offering z peer l sid req) := by
  rw [← startOffer_eq hz hrec]
  simp only [startTransfer, hz, h, Bool.false_eq_true, if_false]

theorem startTransfer_unbegun (hz : s.session? z.id = some z)
    (hrec : s.transfer.record = .source st tag peer l sid req timer) (h : z.turnUnbegun = true) {p : GamePos}
    (hp : z.pos = some p) :
    startTransfer z.id s = meterTold p.lane
      (send peer .transfer
        (.transfer (if 255 ≤ s.transfer.lastTag then 1 else s.transfer.lastTag + 1) (.offer (z.turnBack.offerFields l)))
        (s.offering z.turnBack peer l sid req)) := by
  have hput : (putSession z.turnBack s).session? z.turnBack.id = some z.turnBack := session?_putSession hz
  have hoffer := startOffer_eq hput hrec
  rw [offering_putSession rfl] at hoffer
  have hlane : z.frameLane = some p.lane := by simp [Session.frameLane, hp]
  simp only [startTransfer, hz, h, if_true, hlane]
  exact congrArg (meterTold p.lane) hoffer

end

/-! ## MOVE_SESSION (R155) -/

/-- The session as a forced move takes it, with the frame in play truncated (R58). -/
def Session.forced (x : Session) (force : Bool) : Session :=
  x.current.elim x fun i => if force then x.truncate i else x

/-- The frame truncation rule writes the bowlers and the turn. -/
theorem Session.truncate_eq (x : Session) (i : Nat) :
    x.truncate i = { x with bowlers := (x.truncate i).bowlers, turn := (x.truncate i).turn } := by
  unfold Session.truncate
  split
  · rfl
  · split
    · rfl
    · unfold Session.modifyGame
      rw [x.modifyBowler_eq]

theorem Session.forced_cases (x : Session) (force : Bool) : x.forced force = x ∨ ∃ i, x.forced force = x.truncate i := by
  unfold Session.forced
  cases x.current with
  | none => exact .inl rfl
  | some i =>
    cases force with
    | false => exact .inl rfl
    | true => exact .inr ⟨i, rfl⟩

theorem Session.forced_eq (x : Session) (force : Bool) :
    x.forced force = { x with bowlers := (x.forced force).bowlers, turn := (x.forced force).turn } := by
  obtain h | ⟨i, h⟩ := x.forced_cases force
  · rw [h]
  · rw [h]
    exact x.truncate_eq i

/-- A forced move truncates the frame in play (R58). -/
theorem truncateCurrent_forced {s : State} {x : Session} (hx : s.session? x.id = some x) :
    truncateCurrent x.id s = s ∧ x.forced true = x ∨ truncateCurrent x.id s = putSession (x.forced true) s := by
  unfold truncateCurrent Session.forced
  simp only [hx]
  cases x.current with
  | none => exact .inl ⟨rfl, rfl⟩
  | some i => exact .inr rfl

theorem Session.forced_false (x : Session) : x.forced false = x := by
  unfold Session.forced
  cases x.current <;> rfl

theorem Session.forced_offerFields (x : Session) (force : Bool) (l : LaneId) :
    (x.forced force).offerFields l = x.offerFields l := by
  rw [x.forced_eq]
  rfl

/-- The station with the reply queued and the source's record WAITING, with no tag (R155). -/
def State.moveAccepted (s : State) (m : Msg) (a : MoveArgs) (x : Session) (l : LaneId) : State :=
  { s.replied m .moveSession .accepted .none with
    transfer := { s.transfer with record := .source .waiting none a.station l x.id (m.sender.toNat, m.tag.toNat) none } }

section
variable {m : Msg} {a : MoveArgs} {s : State} {x : Session} {l : LaneId}

theorem ownMoveSession_error {r : RefuseReason} (h : moveTest s a = .error r) :
    ownMoveSession m a s = refuse m .moveSession r s := by
  simp only [ownMoveSession, h]

theorem State.moveAccepted_eq (s : State) (m : Msg) (a : MoveArgs) (x : Session) (l : LaneId) :
    s.moveAccepted m a x l = { s with
      link := (s.moveAccepted m a x l).link
      transfer := { s.transfer with record := .source .waiting none a.station l x.id (m.sender.toNat, m.tag.toNat) none } } := by
  unfold State.moveAccepted
  rw [s.replied_eq]

theorem ownMoveSession_taken (h : moveTest s a = .ok (x, l)) :
    ownMoveSession m a (takeFrame m.dest s) =
      if a.force then startTransfer x.id (truncateCurrent x.id (s.moveAccepted m a x l))
      else if x.turn.holds then putSession { x with state := .waitMove } (s.moveAccepted m a x l)
      else startTransfer x.id (s.moveAccepted m a x l) := by
  have hok : moveTest (takeFrame m.dest s) a = .ok (x, l) := h
  have hw : (reply m .moveSession .accepted .none (takeFrame m.dest s)).setTransfer
      { (reply m .moveSession .accepted .none (takeFrame m.dest s)).transfer with
        record := .source .waiting none a.station l x.id (m.sender.toNat, m.tag.toNat) none } = s.moveAccepted m a x l := by
    have ht : (s.replied m .moveSession .accepted .none).transfer = s.transfer := by rw [s.replied_eq]
    show ({ s.replied m .moveSession .accepted .none with transfer := _ } : State) = _
    unfold State.moveAccepted
    rw [← ht]
    rfl
  simp only [ownMoveSession, hok, hw]

/-- A move that starts its transfer at once: the station it starts from holds the session as the move takes it. -/
theorem ownMoveSession_starts (h : moveTest s a = .ok (x, l)) (hx : s.session? x.id = some x)
    (hstart : a.force = true ∨ x.turn.holds = false) :
    ∃ u : State, ownMoveSession m a (takeFrame m.dest s) = startTransfer (x.forced a.force).id u ∧
      u.session? (x.forced a.force).id = some (x.forced a.force) ∧
      u.transfer = (s.moveAccepted m a x l).transfer ∧
      ∀ y : Session, y.id = x.id → ∀ peer sid lane req,
        u.offering y peer lane sid req = (s.moveAccepted m a x l).offering y peer lane sid req := by
  let w := s.moveAccepted m a x l
  have hw : w.session? x.id = some x := by
    show (s.moveAccepted m a x l).session? x.id = some x
    rw [s.moveAccepted_eq]
    exact hx
  have hid : (x.forced a.force).id = x.id := by rw [x.forced_eq]
  rw [ownMoveSession_taken h, hid]
  cases hforce : a.force with
  | false =>
    simp only [Bool.false_eq_true, if_false, hstart.resolve_left (by simp [hforce])]
    exact ⟨w, rfl, by rw [x.forced_false]; exact hw, rfl, fun _ _ _ _ _ _ => rfl⟩
  | true =>
    have hforced : (x.forced true).id = x.id := by rw [x.forced_eq]
    rw [if_pos rfl]
    obtain ⟨htrunc, hsame⟩ | htrunc := truncateCurrent_forced hw
    · exact ⟨w, by rw [htrunc], by rw [hsame]; exact hw, rfl, fun _ _ _ _ _ _ => rfl⟩
    · refine ⟨putSession (x.forced true) w, by rw [htrunc], ?_, rfl, fun y hy peer sid lane req => ?_⟩
      · exact hforced ▸ session?_putSession (hforced.symm ▸ hw)
      · exact offering_putSession (hforced.trans hy.symm) w peer sid lane req

/-- The tag that the next transfer takes (R156). -/
def State.nextTag (s : State) : Nat := if 255 ≤ s.transfer.lastTag then 1 else s.transfer.lastTag + 1

/-- The station with the move accepted, session y in MOVING and its OFFER queued. -/
def State.moveOffered (s : State) (m : Msg) (a : MoveArgs) (l : LaneId) (x y : Session) : State :=
  send a.station .transfer (.transfer s.nextTag (.offer (y.offerFields l)))
    ((s.moveAccepted m a x l).offering y a.station l x.id (m.sender.toNat, m.tag.toNat))

theorem State.moveOffered_eq (s : State) (m : Msg) (a : MoveArgs) (l : LaneId) (x y : Session) :
    s.moveOffered m a l x y = { s with
      link := (s.moveOffered m a l x y).link
      transfer :=
        { record := .source .offered (some s.nextTag) a.station l x.id (m.sender.toNat, m.tag.toNat) (some 1500)
          lastTag := s.nextTag }
      sessions := s.sessions.map fun z => if z.id = y.id then { y with turn := .none, state := .moving .sending } else z } := by
  unfold State.moveOffered
  rw [send_eq, s.moveAccepted_eq]
  rfl

theorem State.moveOffered_queued (hr : s.room 2) (h : s.reaches m .moveSession) (y : Session) :
    let t := s.moveOffered m a l x y
    s.acked t ∧ t.queued m.sender.toNat (firstReply m .moveSession .accepted .none) ∧
      t.queued a.station (.transfer s.nextTag (.offer (y.offerFields l))) := by
  have hone : s.room 1 := by unfold State.room at hr ⊢; omega
  let u := (s.moveAccepted m a x l).offering y a.station l x.id (m.sender.toNat, m.tag.toNat)
  have hacked : s.acked u := (State.replied_acked (n := .moveSession) (r := .accepted) (d := .none) h hone).of_link rfl
  have hqueued : u.queued m.sender.toNat (firstReply m .moveSession .accepted .none) :=
    (State.replied_queued h hone).of_link rfl
  have hsends : u.sends 1 := (State.replied_sends (n := .moveSession) (r := .accepted) (d := .none) h hr).of_same rfl rfl
  exact ⟨hacked.send _ _ _, hqueued.send hsends, send_queued hsends⟩

/-- What a move that starts queues and records, the OFFER naming this index (R156). -/
def State.offersMove (s t : State) (m : Msg) (a : MoveArgs) (l : LaneId) (x : Session) (index : Option Nat) : Prop :=
  t.queued m.sender.toNat (firstReply m .moveSession .accepted .none) ∧
    t.transfer =
      { record := .source .offered (some s.nextTag) a.station l x.id (m.sender.toNat, m.tag.toNat) (some 1500)
        lastTag := s.nextTag } ∧
    t.queued a.station (.transfer s.nextTag (.offer { x.offerFields l with current := index.getD 0 }))

variable (hr : s.room 2) (h : s.reaches m .moveSession) (hp : parseMove m.args = some a)
include hr h hp

/-- A move that is taken is acknowledged, whatever it begins. -/
theorem moveSession_acked (ht : moveTest s a = .ok (x, l)) : ∃ t, exec (.moveSession m) s = .next t ∧ s.acked t := by
  have hw : s.acked (s.moveAccepted m a x l) :=
    (State.replied_acked (n := .moveSession) (r := .accepted) (d := .none) h (by unfold State.room at hr ⊢; omega)).of_link rfl
  have hown : s.acked (ownMoveSession m a (takeFrame m.dest s)) := by
    rw [ownMoveSession_taken ht]
    refine hw.of_line ?_
    split
    · simp
    · split <;> simp
  refine ⟨_, exec_request (c := .moveSession m) rfl h hp, ?_⟩
  rwa [beginTx_busy hown.lineIdle]

theorem moveSession_refused {r : RefuseReason} (ht : moveTest s a = .error r) :
    ∃ t, exec (.moveSession m) s = .next t ∧ s.answered t m .moveSession (.refused r) .none ∧ t = { s with link := t.link } := by
  have hc := exec_request (c := .moveSession m) rfl h hp
  rw [ownMoveSession_error (s := takeFrame m.dest s) ht] at hc
  exact refused_event h (by unfold State.room at hr ⊢; omega) hc

/-- Without force, a session in the middle of a frame waits for the frame's end (R155). -/
theorem moveSession_waits (ht : moveTest s a = .ok (x, l)) (hforce : a.force = false) (hturn : x.turn.holds = true) :
    ∃ t, exec (.moveSession m) s = .next t ∧ s.answered t m .moveSession .accepted .none ∧
      t = { s with
        link := t.link, sessions := s.sessions.map fun y => if y.id = x.id then { x with state := .waitMove } else y
        transfer := { s.transfer with
          record := .source .waiting none a.station l x.id (m.sender.toNat, m.tag.toNat) none } } := by
  have hc := exec_request (c := .moveSession m) rfl h hp
  rw [ownMoveSession_taken ht, hforce, if_neg Bool.false_ne_true, if_pos hturn] at hc
  obtain ⟨hans, hbusy⟩ := answered_event (n := .moveSession) (r := .accepted) (d := .none)
    (u := putSession { x with state := .waitMove } (s.moveAccepted m a x l)) h (by unfold State.room at hr ⊢; omega) rfl
  refine ⟨_, hc, hans, ?_⟩
  rw [hbusy, s.moveAccepted_eq]
  rfl

/-- A move that starts its transfer at once, with no turn to withdraw (R156). -/
theorem moveSession_offers (ht : moveTest s a = .ok (x, l)) (hx : s.session? x.id = some x)
    (hstart : a.force = true ∨ x.turn.holds = false) (hbegun : ¬ (x.forced a.force).turnUnbegun = true) :
    exec (.moveSession m) s = .next (s.moveOffered m a l x (x.forced a.force)) := by
  obtain ⟨u, hu, husession, hutransfer, huoffer⟩ := ownMoveSession_starts (m := m) ht hx hstart
  have hid : (x.forced a.force).id = x.id := by rw [x.forced_eq]
  have hrec : u.transfer.record = .source .waiting none a.station l x.id (m.sender.toNat, m.tag.toNat) none := by
    rw [hutransfer]; rfl
  have hoffer := startTransfer_begun husession hrec hbegun
  rw [huoffer _ hid, hutransfer, ← hu] at hoffer
  rw [exec_request (c := .moveSession m) rfl h hp, hoffer]
  exact congrArg _ (beginTx_busy (State.moveOffered_queued hr h _).1.lineIdle)

/-- A move that starts its transfer at once and withdraws the turn of the one session (R116, R156). -/
theorem moveSession_withdraws (ht : moveTest s a = .ok (x, l)) (hx : s.sessions = [x])
    (hstart : a.force = true ∨ x.turn.holds = false) (hunbegun : (x.forced a.force).turnUnbegun = true) {p : GamePos}
    (hpos : x.pos = some p) (hread : (s.seq p.lane).state ≠ .held .read) :
    let f := s.moveOffered m a l x (x.forced a.force).turnBack
    exec (.moveSession m) s = .next { f with
      seqs := s.seqs.set p.lane (s.seq p.lane).withoutWait
      meters := s.meters.set p.lane { s.meter p.lane with wait := none } } := by
  intro f
  obtain ⟨u, hu, husession, hutransfer, huoffer⟩ := ownMoveSession_starts (m := m) ht (session?_alone hx) hstart
  have hid : (x.forced a.force).turnBack.id = x.id := by show (x.forced a.force).id = x.id; rw [x.forced_eq]
  have hrec : u.transfer.record = .source .waiting none a.station l x.id (m.sender.toNat, m.tag.toNat) none := by
    rw [hutransfer]; rfl
  have hoffer := startTransfer_unbegun (p := p) husession hrec hunbegun (by rw [x.forced_eq]; exact hpos)
  rw [huoffer _ hid, hutransfer, ← hu] at hoffer
  change ownMoveSession m a (takeFrame m.dest s) = meterTold p.lane f at hoffer
  have hf : f = _ := s.moveOffered_eq m a l x (x.forced a.force).turnBack
  have hsessions : f.sessions = [{ (x.forced a.force).turnBack with turn := .none, state := .moving .sending }] := by
    rw [hf, hx, List.map_cons, List.map_nil, if_pos hid.symm]
  have hseq (k : LaneId) : f.seq k = s.seq k := by rw [hf]; rfl
  have hmeter (k : LaneId) : f.meter k = s.meter k := by rw [hf]; rfl
  have hseqs : f.seqs = s.seqs := by rw [hf]
  have hmeters : f.meters = s.meters := by rw [hf]
  have htold := meterTold_idle hsessions rfl (by simp) (l := p.lane) (by rw [hseq]; exact hread)
  rw [hseq, hmeter, hseqs, hmeters] at htold
  rw [exec_request (c := .moveSession m) rfl h hp, hoffer, htold]
  exact congrArg _ (beginTx_busy (State.moveOffered_queued (x := x) (l := l) hr h _).1.lineIdle)

/-- A transfer that starts at once: both frames are queued, and the session leaves for the transfer unit, with its turn
withdrawn or without one (R155, R156). -/
theorem moveSession_starts (ht : moveTest s a = .ok (x, l)) (hx : s.session? x.id = some x)
    (hstart : a.force = true ∨ x.turn.holds = false) :
    ∃ t, exec (.moveSession m) s = .next t ∧ s.acked t ∧
      (¬ (x.forced a.force).turnUnbegun = true → s.offersMove t m a l x x.current ∧
        t = { s with
          link := t.link, transfer := t.transfer
          sessions := s.sessions.map fun y =>
            if y.id = x.id then { x.forced a.force with state := .moving .sending, turn := .none } else y }) ∧
      ((x.forced a.force).turnUnbegun = true → s.sessions = [x] → ∀ p, x.pos = some p →
        (s.seq p.lane).state ≠ .held .read →
        s.offersMove t m a l x ((x.forced a.force).filledUpTo p.frame) ∧
        t = { s with
          link := t.link, transfer := t.transfer
          seqs := s.seqs.set p.lane (s.seq p.lane).withoutWait
          meters := s.meters.set p.lane { s.meter p.lane with wait := none }
          sessions := [{ x.forced a.force with
            state := .moving .sending, turn := .none, current := (x.forced a.force).filledUpTo p.frame }] }) := by
  have hid : (x.forced a.force).id = x.id := by rw [x.forced_eq]
  by_cases hunbegun : (x.forced a.force).turnUnbegun = true
  · by_cases halone : s.sessions = [x] ∧ ∃ p, x.pos = some p ∧ (s.seq p.lane).state ≠ .held .read
    · obtain ⟨hsessions, p, hpos, hread⟩ := halone
      have hback : (x.forced a.force).turnBack =
          { x.forced a.force with turn := .none, current := (x.forced a.force).filledUpTo p.frame } := by
        have hforced : (x.forced a.force).pos = some p := by rw [x.forced_eq]; exact hpos
        simp only [Session.turnBack, hforced, Option.map_some, Option.getD_some]
      have hfields : (x.forced a.force).turnBack.offerFields l =
          { x.offerFields l with current := ((x.forced a.force).filledUpTo p.frame).getD 0 } := by
        rw [hback, ← x.forced_offerFields a.force]
        rfl
      obtain ⟨hacked, hreply, hoffer⟩ := State.moveOffered_queued (a := a) (l := l) (x := x) hr h (x.forced a.force).turnBack
      rw [hfields] at hoffer
      have heq := s.moveOffered_eq m a l x (x.forced a.force).turnBack
      refine ⟨_, moveSession_withdraws hr h hp ht hsessions hstart hunbegun hpos hread, hacked,
        fun hn => absurd hunbegun hn, fun _ _ p' hpos' _ => ?_⟩
      cases Option.some.inj (hpos.symm.trans hpos')
      refine ⟨⟨hreply, congrArg State.transfer heq, hoffer⟩, ?_⟩
      rw [heq, hsessions, List.map_cons, List.map_nil, hback, if_pos hid.symm]
    · obtain ⟨t, hc, hacked⟩ := moveSession_acked hr h hp ht
      exact ⟨t, hc, hacked, fun hn => absurd hunbegun hn,
        fun _ hsessions p hpos hread => absurd ⟨hsessions, p, hpos, hread⟩ halone⟩
  · obtain ⟨hacked, hreply, hoffer⟩ := State.moveOffered_queued (a := a) (l := l) (x := x) hr h (x.forced a.force)
    rw [x.forced_offerFields] at hoffer
    have heq := s.moveOffered_eq m a l x (x.forced a.force)
    refine ⟨_, moveSession_offers hr h hp ht hx hstart hunbegun, hacked,
      fun _ => ⟨⟨hreply, congrArg State.transfer heq, hoffer⟩, ?_⟩, fun hn => absurd hn hunbegun⟩
    rw [heq]
    simp only [hid]

end

/-- Settles O54. The requests are tested in order; a taken one waits, or starts its transfer with or without a turn to
withdraw. -/
theorem moveBegins : Obligations.MoveBegins := by
  unfold Obligations.MoveBegins
  intro m s hr h a hp why
  refine ⟨fun r hwhy => ?_, fun hwhy x hx l hl => ?_⟩
  · cases hx : s.session? a.session with
    | none =>
      simp only [why, hx] at hwhy
      exact moveSession_refused hr h hp ((moveTest_noSession hx).trans (congrArg _ (Option.some.inj hwhy)))
    | some x =>
      simp only [why, hx] at hwhy
      exact moveSession_refused hr h hp (moveTest_refused hx hwhy)
  simp only [why, hx] at hwhy
  have ht := moveTest_taken hx hwhy hl
  by_cases hwaits : a.force = false ∧ x.turn.holds = true
  · obtain ⟨t, hc, hans, heq⟩ := moveSession_waits hr h hp ht hwaits.1 hwaits.2
    refine ⟨t, hc, hans.2, fun _ _ => ⟨hans, heq⟩, fun hstart => ?_⟩
    obtain ⟨hforce, hholds⟩ := hwaits
    rcases hstart with hn | hn | hn
    · exact absurd (hn.symm.trans hforce) (by decide)
    · exact absurd hholds (by rw [hn]; decide)
    · exact absurd hholds (by rw [hn]; decide)
  have hstart : a.force = true ∨ x.turn.holds = false := by
    cases hf : a.force with
    | true => exact .inl rfl
    | false => exact .inr (by simpa [hf] using hwaits)
  obtain ⟨t, hc, hacked, hbegun, hunbegun⟩ := moveSession_starts hr h hp ht (session?_id hx ▸ hx) hstart
  refine ⟨t, hc, hacked, fun hforce hturn => absurd ⟨hforce, (Turn.holds_iff _).2 hturn⟩ hwaits, fun _ => ?_⟩
  intro z unbegun tag offered
  have hz : z = x.forced a.force := by
    unfold Session.forced
    simp only [z]
    cases x.current <;> rfl
  have hiff : z.turnUnbegun = true ↔ unbegun := z.turnUnbegun_iff
  rw [← hz] at hbegun hunbegun
  refine ⟨fun hn => hbegun (mt hiff.1 hn), fun hn hsessions p hpos hread => ?_⟩
  obtain ⟨hoffers, heq⟩ := hunbegun (hiff.2 hn) hsessions p hpos hread
  exact ⟨_, hoffers, z.filledUpTo_eq p.frame, heq⟩

end Sys2Proof.Machine
end

section
/-! SUPPORT. COMMIT at the target: the completeness and structure checks (R161) and the bowlers a session comes with (R162). -/

namespace Sys2Proof.Machine

/-! ## The balls of a carried frame -/

/-- The balls of frame j + 1 of a frame shape (R159). -/
def BallsFields.frameBalls (f : BallsFields) (j : Nat) : List CarriedBall :=
  (f.balls.drop (f.counts.take j).sum).take (f.counts.getD j 0)

theorem carriedEntries_eq (f j : Nat) (cs : List CarriedBall) :
    carriedEntries f j cs = cs.mapIdx fun k c => c.entry f (j + k) := by
  induction cs generalizing j with
  | nil => rfl
  | cons c cs ih =>
    rw [carriedEntries, ih, List.mapIdx_cons]
    refine congrArg (c.entry f j :: ·) (congrArg (List.mapIdx · cs) (funext fun k => funext fun c => ?_))
    rw [Nat.add_right_comm, Nat.add_assoc]

theorem shapeFrames_getElem? (n : Nat) (counts : List Nat) (bs : List CarriedBall) (j : Nat) :
    (shapeFrames n counts bs)[j]? =
      if j < counts.length then some (carriedEntries (n + j) 1 ((bs.drop (counts.take j).sum).take (counts.getD j 0)))
      else none := by
  induction counts generalizing n bs j with
  | nil => rfl
  | cons c counts ih =>
    cases j with
    | zero => simp [shapeFrames]
    | succ j =>
      rw [shapeFrames, List.getElem?_cons_succ, ih, Nat.add_right_comm]
      simp [List.drop_drop, Nat.add_assoc]

theorem shapeFrames_frameBalls (f : BallsFields) (j : Nat) :
    (shapeFrames 1 f.counts f.balls)[j]? =
      if j < f.counts.length then some ((f.frameBalls j).mapIdx fun k c => c.entry (j + 1) (k + 1)) else none := by
  rw [shapeFrames_getElem?, carriedEntries_eq, Nat.add_comm 1 j]
  simp only [Nat.add_comm 1, BallsFields.frameBalls]

/-! ## The structure check (R161) -/

/-- A frame's shape, in which a foul ball has no pins: empty, or ended with every rack's sum at most 10. -/
theorem frameSound_iff (f : Nat) (bs : List BallEntry) :
    frameSound f bs = true ↔
      (bs = [] ∨ endedPins f (bs.map (·.pins)) = true) ∧ ∀ e ∈ bs, e.foul = true → e.pins = 0 := by
  have hfoul : (bs.all fun b => !b.foul || b.pins == 0) = true ↔ ∀ e ∈ bs, e.foul = true → e.pins = 0 := by
    simp only [List.all_eq_true, Bool.or_eq_true, Bool.not_eq_true', beq_iff_eq]
    refine forall₂_congr fun e _ => ?_
    cases e.foul <;> simp
  unfold frameSound
  rw [Bool.and_eq_true, hfoul]
  refine and_congr_left fun hf => ?_
  have hstrike (e : BallEntry) (he : e ∈ bs) : e.isStrike = (e.pins == 10) := by
    unfold BallEntry.isStrike
    cases h : e.foul with
    | false => rfl
    | true => rw [hf e he h]; rfl
  match bs with
  | [] => simp [endedShape, racksOk]
  | [b1] =>
    simp only [endedShape, racksOk, endedPins, hstrike b1 (by simp), List.map_cons, List.map_nil]
    simp
    omega
  | [b1, b2] =>
    simp only [endedShape, racksOk, endedPins, hstrike b1 (by simp), List.map_cons, List.map_nil]
    by_cases h10 : f < 10
    · simp [h10]; omega
    · simp [h10]; omega
  | [b1, b2, b3] =>
    simp only [endedShape, racksOk, endedPins, hstrike b1 (by simp), hstrike b2 (by simp), List.map_cons, List.map_nil]
    by_cases h1 : b1.pins = 10
    · by_cases h2 : b2.pins = 10
      · simp [h1, h2]
        omega
      · simp [h1, h2]
    · simp [h1]
      omega
  | _ :: _ :: _ :: _ :: _ => simp [endedShape, endedPins]

theorem framesSound_iff (n : Nat) (fs : List (List BallEntry)) :
    framesSound n fs = true ↔ ∀ j bs, fs[j]? = some bs → frameSound (n + j) bs = true := by
  induction fs generalizing n with
  | nil => simp [framesSound]
  | cons b fs ih =>
    rw [framesSound, Bool.and_eq_true, ih]
    constructor
    · rintro ⟨hb, hfs⟩ j bs hj
      cases j with
      | zero => cases hj; exact hb
      | succ j => rw [← Nat.add_assoc, Nat.add_right_comm]; exact hfs j bs hj
    · refine fun h => ⟨h 0 b rfl, fun j bs hj => ?_⟩
      rw [Nat.add_right_comm, Nat.add_assoc]
      exact h (j + 1) bs hj

/-- The test of a carried frame is a test of its carried balls. -/
theorem frameSound_carried (f j : Nat) (cs : List CarriedBall) :
    frameSound f (cs.mapIdx fun k c => c.entry j (k + 1)) = true ↔
      (cs = [] ∨ endedPins f (cs.map (·.pins)) = true) ∧ ∀ e ∈ cs, e.foul = true → e.pins = 0 := by
  have hpins : (cs.mapIdx fun k c => c.entry j (k + 1)).map (·.pins) = cs.map (·.pins) := by
    refine List.ext_getElem? fun k => ?_
    simp only [List.getElem?_map, List.getElem?_mapIdx, Option.map_map]
    rfl
  rw [frameSound_iff, hpins, List.mapIdx_eq_nil_iff]
  refine and_congr_right fun _ => ⟨fun h c hc => ?_, fun h e he => ?_⟩
  · obtain ⟨k, hk, rfl⟩ := List.mem_iff_getElem.1 hc
    exact h _ (List.mem_mapIdx.2 ⟨k, hk, rfl⟩)
  · obtain ⟨k, hk, rfl⟩ := List.mem_mapIdx.1 he
    exact h _ (List.getElem_mem hk)

/-- R161's test on one bowler's frames, from the fields of its BALLS. -/
def BallsFields.fits (f : BallsFields) (filled : Nat) : Prop :=
  f.counts.length = filled ∧ ∀ j < f.counts.length,
    (f.frameBalls j = [] ∨ endedPins (j + 1) ((f.frameBalls j).map (·.pins)) = true) ∧
      ∀ e ∈ f.frameBalls j, e.foul = true → e.pins = 0

theorem bowlerSound_iff (o : OfferFields) (i : Nat) (f : BallsFields) :
    bowlerSound o (i + 1) f = true ↔ f.fits (if i < o.current then o.frame else o.frame - 1) := by
  unfold bowlerSound BallsFields.fits
  rw [Bool.and_eq_true, beq_iff_eq, framesSound_iff]
  refine and_congr Iff.rfl ?_
  simp only [shapeFrames_frameBalls]
  have hone (j : Nat) := frameSound_carried (1 + j) (j + 1) (f.frameBalls j)
  simp only [Nat.add_comm 1] at hone ⊢
  constructor
  · exact fun h j hj => (hone j).1 (h j _ (if_pos hj))
  · intro h j bs hj
    split at hj
    · cases hj
      exact (hone j).2 (h j ‹_›)
    · cases hj

theorem allSound_iff (o : OfferFields) (n : Nat) (ps : List (IdentFields × BallsFields)) :
    allSound o n ps = true ↔ ∀ i p, ps[i]? = some p → bowlerSound o (n + i) p.2 = true := by
  induction ps generalizing n with
  | nil => simp [allSound]
  | cons p ps ih =>
    rw [allSound, Bool.and_eq_true, ih]
    constructor
    · rintro ⟨hp, hps⟩ i q hi
      cases i with
      | zero => cases hi; exact hp
      | succ i => rw [← Nat.add_assoc, Nat.add_right_comm]; exact hps i q hi
    · refine fun h => ⟨h 0 p rfl, fun i q hi => ?_⟩
      rw [Nat.add_right_comm, Nat.add_assoc]
      exact h (i + 1) q hi

/-! ## Complete parts (R161) -/

/-- The parts of a bowler of whom both have come. -/
def fullParts (p : IdentFields × BallsFields) : BowlerParts := { ident := some p.1, balls := some p.2 }

theorem completeParts_full (ps : List (IdentFields × BallsFields)) : completeParts (ps.map fullParts) = some ps := by
  induction ps with
  | nil => rfl
  | cons p ps ih =>
    rw [List.map_cons, completeParts, ih]
    rfl

theorem parts_complete {parts : List BowlerParts} (h : ∀ p ∈ parts, p.ident.isSome = true ∧ p.balls.isSome = true) :
    ∃ ps : List (IdentFields × BallsFields), parts = ps.map fullParts := by
  induction parts with
  | nil => exact ⟨[], rfl⟩
  | cons p parts ih =>
    obtain ⟨ps, rfl⟩ := ih fun q hq => h q (List.mem_cons_of_mem _ hq)
    obtain ⟨hi, hb⟩ := h p List.mem_cons_self
    obtain ⟨d, hd⟩ := Option.isSome_iff_exists.1 hi
    obtain ⟨f, hf⟩ := Option.isSome_iff_exists.1 hb
    exact ⟨(d, f) :: ps, by rw [List.map_cons, fullParts, ← hd, ← hf]⟩

theorem parts_incomplete {parts : List BowlerParts} (h : ¬ ∀ p ∈ parts, p.ident.isSome = true ∧ p.balls.isSome = true) :
    completeParts parts = none := by
  induction parts with
  | nil => exact absurd (by simp) h
  | cons p parts ih =>
    rw [List.forall_mem_cons] at h
    rw [completeParts]
    cases hi : p.ident with
    | none => rfl
    | some d =>
      cases hb : p.balls with
      | none => rfl
      | some f =>
        rw [ih fun hall => h ⟨⟨by rw [hi]; rfl, by rw [hb]; rfl⟩, hall⟩]

/-- R161's structure check of the parts: the structure fault, and every bowler's frames. -/
def OfferFields.partsSound (o : OfferFields) (bad : Bool) (parts : List BowlerParts) : Prop :=
  bad = false ∧ ∀ i < parts.length, ∀ f ∈ (parts[i]?).bind (·.balls), f.fits (if i < o.current then o.frame else o.frame - 1)

theorem partsSound_full (o : OfferFields) (bad : Bool) (ps : List (IdentFields × BallsFields)) :
    o.partsSound bad (ps.map fullParts) ↔ bad = false ∧ allSound o 1 ps = true := by
  unfold OfferFields.partsSound
  refine and_congr_right fun _ => ?_
  rw [allSound_iff]
  simp only [Nat.add_comm 1, bowlerSound_iff, List.length_map, List.getElem?_map]
  constructor
  · intro h i p hp
    exact h i (List.getElem?_eq_some_iff.1 hp).1 p.2 (by rw [hp]; rfl)
  · intro h i hi f hf
    rw [List.getElem?_eq_getElem hi] at hf
    cases hf
    exact h i _ (List.getElem?_eq_getElem hi)

theorem commitCheck_incomplete {parts : List BowlerParts} (o : OfferFields) (bad : Bool)
    (h : ¬ ∀ p ∈ parts, p.ident.isSome = true ∧ p.balls.isSome = true) : commitCheck o parts bad = .error .incomplete := by
  rw [commitCheck, parts_incomplete h]

theorem commitCheck_badStructure {o : OfferFields} {bad : Bool} {ps : List (IdentFields × BallsFields)}
    (h : ¬ o.partsSound bad (ps.map fullParts)) : commitCheck o (ps.map fullParts) bad = .error .badStructure := by
  rw [partsSound_full] at h
  rw [commitCheck, completeParts_full]
  refine if_pos ?_
  cases bad <;> simp_all

theorem commitCheck_taken {o : OfferFields} {bad : Bool} {ps : List (IdentFields × BallsFields)}
    (h : o.partsSound bad (ps.map fullParts)) : commitCheck o (ps.map fullParts) bad = .ok ps := by
  obtain ⟨rfl, hall⟩ := (partsSound_full o bad ps).1 h
  rw [commitCheck, completeParts_full]
  simp [hall]

/-! ## The bowlers installed (R162) -/

/-- The slots of a carried game: the filled frames with their balls, then empty ones. -/
theorem carriedFrames_slot (f : BallsFields) {j : Nat} (hj : j < 10) :
    ((carriedFrames f)[j]?).join = if j < f.counts.length then
      some { balls := (f.frameBalls j).mapIdx fun k c => c.entry (j + 1) (k + 1), mark := .incomplete, score := none, cum := none }
    else none := by
  unfold carriedFrames
  dsimp only
  rw [List.getElem?_append, List.length_map, shapeFrames_length]
  by_cases h : j < f.counts.length
  · rw [if_pos h, if_pos h, List.getElem?_map, shapeFrames_frameBalls, if_pos h]
    rfl
  · rw [if_neg h, if_neg h, List.getElem?_replicate_of_lt (by omega)]
    rfl

theorem BallsFields.frameBalls_beyond (f : BallsFields) {j : Nat} (h : ¬ j < f.counts.length) : f.frameBalls j = [] := by
  rw [BallsFields.frameBalls, List.getD_eq_default _ _ (by omega), List.take_zero]

/-- What a bowler installed with its carried game is (R55, R66, R162). -/
theorem installBowler_fields (o : OfferFields) (d : IdentFields) (f : BallsFields) :
    let b := installBowler o (d, f)
    b = { name := (d.name.take 12).map fun c => if 32 ≤ c.toNat ∧ c.toNat ≤ 126 then c else 63#8
          handicap := min d.handicap 255, absent := d.absent, completed := min 99 d.completed, game := b.game
          first := if f.counts = [] then ballLane o.lane else .remote } ∧
    b.game.isSome = true ∧ ∀ g : Game, b.game = some g →
      g = { name := b.name, handicap := b.handicap, number := o.number, frames := g.frames
            status := if f.counts.length = 10 then .complete else .playing, charged := d.charged
            scratch := g.scratch, total := g.total, revision := g.revision } ∧
      ∀ j < 10, (g.slot (j + 1)).isSome = decide (j < f.counts.length) ∧
        g.ballsOf (j + 1) = (f.frameBalls j).mapIdx fun k c => c.entry (j + 1) (k + 1) := by
  intro b
  have hname : enterName d.name = (d.name.take 12).map fun c => if 32 ≤ c.toNat ∧ c.toNat ≤ 126 then c else 63#8 := by
    unfold enterName printable
    refine congrArg (List.map · _) (funext fun c => if_congr ?_ rfl rfl)
    simp
  refine ⟨?_, rfl, fun g hg => ?_⟩
  · rw [← hname]
    show installBowler o (d, f) = _
    unfold installBowler
    dsimp only
    congr 1
    exact if_congr List.isEmpty_iff rfl rfl
  · cases hg
    refine ⟨rfl, fun j hj => ?_⟩
    rw [Game.recompute_slot_isSome, Game.recompute_ballsOf, Game.ballsOf_eq, Game.slot_succ, carriedFrames_slot f hj]
    by_cases h : j < f.counts.length
    · simp [h]
    · simp [h, f.frameBalls_beyond h]

end Sys2Proof.Machine
end

section
/-! SUPPORT. The meter's answer to a turn start (R115, R116), and the turn start as the statements say it (`State.turnStarts`). -/

namespace Sys2Proof.Machine

/-! ## What the answer depends on (R116) -/

/-- The turn start owes the game charge (R115). -/
def State.owes (u : State) (l : LaneId) (g : Game) (p : GamePos) : Prop :=
  (u.meter l).mode = .game ∧ p.frame = 1 ∧ g.charged = false

/-- The price of a game to the session, less its discount (R115). -/
def State.gameCost (u : State) (x : Session) : Nat := (u.gameBand.2 * (100 - x.discount) + 50) / 100

/-- The journal takes a GAME entry (R130). -/
def State.entryFits (u : State) : Prop := openLanes u.meters + 1 ≤ u.store.freeCount

/-- The balance does not cover the turn (R116). -/
def State.lacksCredit (u : State) (l : LaneId) (x : Session) (g : Game) (p : GamePos) : Prop :=
  (u.owes l g p ∧ u.entryFits ∧ (u.meter l).prepaid = true ∧ (u.meter l).balance < u.gameCost x) ∨
    ((u.meter l).mode = .time ∧ (u.meter l).prepaid = true ∧ (u.meter l).balance ≤ 0)

/-- The admission wait of a held turn (R116). -/
def State.waitFor (u : State) (l : LaneId) (r : WaitReason) (x : Session) (i : Nat) (p : GamePos) : AdmissionWait :=
  AdmissionWait.mk r x.id i p.number p.frame x.discount
    (if (u.meter l).mode = .game then some (u.gameCost x, u.gameBand.1) else none)

/-- The station with the turn held: the wait written, and an ARMED lane held at its rack position (R14, R116). -/
def State.turnHeld (u : State) (l : LaneId) (w : AdmissionWait) : State :=
  { u with
    meters := u.meters.set l { u.meter l with wait := some w }
    seqs := u.seqs.set l { u.seq l with holds := (u.seq l).holds.put w.reason.hold true, state := .held (.rack false) } }

section
variable {u : State} {l : LaneId} {x : Session} {i : Nat} {g : Game} {p : GamePos}

theorem State.journalRoom_eq_false (u : State) : u.journalRoom 1 = false ↔ ¬ u.entryFits := by
  simp [State.journalRoom, State.entryFits]

theorem holdTurn_armed (h : (u.seq l).state = .armed) (w : AdmissionWait) : holdTurn l w u = u.turnHeld l w := by
  have hreason : w.reason.hold.appliesArmed = true := by cases w.reason <;> rfl
  unfold holdTurn addReason
  dsimp only
  rw [State.setMeter_seq, if_pos ⟨h, hreason⟩]
  rfl

theorem admission_noJournal (harmed : (u.seq l).state = .armed) (howes : u.owes l g p) (hroom : ¬ u.entryFits) :
    admission l x i g p u = (.holdJournal, u.turnHeld l (u.waitFor l .journal x i p)) := by
  obtain ⟨hmode, hfirst, hcharged⟩ := howes
  have hjournal := (u.journalRoom_eq_false).2 hroom
  simp only [admission, hmode, hfirst, hcharged, hjournal, and_self, if_true, holdTurn_armed harmed, State.waitFor]
  rfl

theorem admission_noCredit (harmed : (u.seq l).state = .armed) (h : u.lacksCredit l x g p) :
    admission l x i g p u = (.holdCredit, u.turnHeld l (u.waitFor l .credit x i p)) := by
  rcases h with ⟨⟨hmode, hfirst, hcharged⟩, hroom, hprepaid, hbalance⟩ | ⟨hmode, hprepaid, hbalance⟩
  · have hjournal : ¬ u.journalRoom 1 = false := mt (u.journalRoom_eq_false).1 (not_not.2 hroom)
    have hlacks : (u.meter l).balance < (gameCharge u.gameBand.2 x.discount : Nat) := hbalance
    simp only [admission, hmode, hfirst, hcharged, hjournal, hprepaid, hlacks, and_self, if_true, decide_true,
      Bool.and_self, holdTurn_armed harmed, State.waitFor]
    rfl
  · simp only [admission, hmode, hprepaid, hbalance, if_true, decide_true, Bool.and_self, holdTurn_armed harmed,
      State.waitFor]
    rfl

/-- A turn that owes nothing and lacks no credit is admitted. -/
theorem admission_admits (howes : ¬ u.owes l g p) (hcredit : ¬ u.lacksCredit l x g p) :
    admission l x i g p u = (.admitted, u.setMeter l { u.meter l with wait := none }) := by
  unfold admission
  dsimp only
  cases hmode : (u.meter l).mode with
  | none => rfl
  | time =>
    have htime : ¬ ((u.meter l).prepaid = true ∧ (u.meter l).balance ≤ 0) := fun h => hcredit (.inr ⟨hmode, h⟩)
    simp only [Bool.and_eq_true, decide_eq_true_eq, htime, if_false]
  | game =>
    have hnone : ¬ (p.frame = 1 ∧ g.charged = false) := fun h => howes ⟨hmode, h⟩
    simp only [hnone, if_false]

/-- A turn that owes the game charge pays it (R115). -/
theorem admission_charges (howes : u.owes l g p) (hroom : u.entryFits) (hcredit : ¬ u.lacksCredit l x g p) :
    admission l x i g p u =
      (.admitted,
        let v := makeCharge l x i p.number u.gameBand.1 u.gameBand.2 (u.gameCost x) u
        v.setMeter l { v.meter l with wait := none }) := by
  obtain ⟨hmode, hfirst, hcharged⟩ := id howes
  have hjournal : ¬ u.journalRoom 1 = false := mt (u.journalRoom_eq_false).1 (not_not.2 hroom)
  have hpays : ¬ ((u.meter l).prepaid = true ∧ (u.meter l).balance < (gameCharge u.gameBand.2 x.discount : Nat)) :=
    fun h => hcredit (.inl ⟨howes, hroom, h⟩)
  simp only [admission, hmode, hfirst, hcharged, hjournal, and_self, if_true, if_false, Bool.and_eq_true, decide_eq_true_eq,
    hpays]
  rfl

/-- The meter after a game charge (R112, R115). -/
def State.chargedMeter (u : State) (l : LaneId) (x : Session) : Meter :=
  { u.meter l with
    balance := if (u.meter l).prepaid then (u.meter l).balance - u.gameCost x else (u.meter l).balance
    total := min 99999999 ((u.meter l).total + u.gameCost x), games := min 65535 ((u.meter l).games + 1)
    subtotals := addSubtotal u.gameBand.1 0 (u.gameCost x) (u.meter l).subtotals }

theorem writeMeter_eq (l : LaneId) (m : Meter) (u : State) :
    writeMeter l m u = { u with meters := u.meters.set l m, link := (writeMeter l m u).link } := by
  unfold writeMeter notice
  dsimp only
  split
  · rw [send_eq]
    rfl
  · rfl

/-- The station with the turn admitted at the price of a game: the meter charged, the GAME entry appended, the game marked
charged (R115). -/
def State.turnPaid (u : State) (l : LaneId) (x : Session) (i : Nat) (p : GamePos) : State :=
  { u with
    link := (writeMeter l (u.chargedMeter l x) u).link
    seqs := u.seqs.set l { u.seq l with foul := false }
    meters := u.meters.set l { u.chargedMeter l x with wait := none }
    sessions := u.sessions.map fun z =>
      if z.id = x.id then { x.modifyGame i (fun y => { y with charged := true }) with turn := .active } else z
    store := { u.store with
      lastSeq := u.store.lastSeq + 1
      journal := u.store.journal ++
        [{ seq := u.store.lastSeq + 1, lane := l, time := u.ctl.clock
           body := .game x.id i p.number u.gameBand.1 u.gameBand.2 (if x.discount = 0 then none else some x.discount)
             (u.gameCost x) }] } }

theorem turnAnswered_charges (hx : u.session? x.id = some x) (howes : u.owes l g p) (hroom : u.entryFits)
    (hcredit : ¬ u.lacksCredit l x g p) :
    turnAnswered l x.id (admission l x i g p u) = u.turnPaid l x i p := by
  let y := x.modifyGame i fun g => { g with charged := true }
  have hyid : y.id = x.id := x.modifyGame_id _ _
  let w := appendEntry l
    (.game x.id i p.number u.gameBand.1 u.gameBand.2 (if x.discount = 0 then none else some x.discount) (u.gameCost x))
    (writeMeter l (u.chargedMeter l x) u)
  have hcharge : makeCharge l x i p.number u.gameBand.1 u.gameBand.2 (u.gameCost x) u = putSession y w := rfl
  have hw : w = { u with
      link := w.link, meters := u.meters.set l (u.chargedMeter l x), store := (u.turnPaid l x i p).store } := by
    simp only [w, appendEntry]
    rw [writeMeter_eq]
    rfl
  have hwx : w.session? y.id = some x := by
    rw [hyid, hw]
    exact hx
  have hput : (putSession y w).session? x.id = some y := hyid ▸ session?_putSession hwx
  rw [admission_charges howes hroom hcredit, hcharge]
  refine (turnAnswered_admitted hput).trans ?_
  rw [turnMade_putSession]
  have hmeter : w.meter l = u.chargedMeter l x := by rw [hw]; exact Pair.get_set_same _ _ _
  have hmeters : w.meters = u.meters.set l (u.chargedMeter l x) := by rw [hw]
  have hplace : (fun z : Session => if z.id = y.id then { y with turn := .active } else z) =
      fun z => if z.id = x.id then { y with turn := .active } else z :=
    funext fun z => if_congr (by rw [hyid]) rfl rfl
  unfold State.turnMade
  rw [hmeter, hmeters, Pair.set_set, hplace, hw]
  rfl

theorem turnAnswered_admits (hx : u.session? x.id = some x) (howes : ¬ u.owes l g p) (hcredit : ¬ u.lacksCredit l x g p) :
    turnAnswered l x.id (admission l x i g p u) = u.turnMade l x := by
  rw [admission_admits howes hcredit, turnAnswered_admitted hx]

/-! ## The turn start, as the statements say it (R81, R116) -/

/-- A turn start writes nothing outside its lane, its meter, the table, the journal and the queue. -/
def State.startsOnly (u t : State) (l : LaneId) : Prop :=
  t = { u with
    link := t.link, sessions := t.sessions, store := t.store, seqs := u.seqs.set l (t.seq l)
    meters := u.meters.set l (t.meter l) } ∧
  t.seq l = { u.seq l with holds := (t.seq l).holds, state := (t.seq l).state, foul := (t.seq l).foul }

variable {b : Bowler} {t : State}

/-- What the console is shown of a turn start (R81, R82). -/
def State.showsTurn (u t : State) (x : Session) (i : Nat) (b : Bowler) (g : Game) (p : GamePos) (a : Admission) : Prop :=
  t.queued (64 + u.ctl.pair.getD 0) (.display (.turn (displayHead x i b g p) a))

theorem State.startsOnly.of_eq {v : State} {q : Sequencer} {n : Meter} (ht : t = { v with link := t.link })
    (hv : v = { u with
      link := v.link, sessions := v.sessions, store := v.store, seqs := u.seqs.set l q, meters := u.meters.set l n })
    (hq : q = { u.seq l with holds := q.holds, state := q.state, foul := q.foul }) :
    u.startsOnly t l ∧ t.seq l = q ∧ t.meter l = n ∧ t.sessions = v.sessions ∧ t.store = v.store := by
  have hseq : t.seq l = q := by rw [ht, hv]; exact Pair.get_set_same _ _ _
  have hmeter : t.meter l = n := by rw [ht, hv]; exact Pair.get_set_same _ _ _
  have hsessions : t.sessions = v.sessions := by rw [ht]
  have hstore : t.store = v.store := by rw [ht]
  refine ⟨⟨?_, by rw [hseq]; exact hq⟩, hseq, hmeter, hsessions, hstore⟩
  rw [hseq, hmeter, hsessions, hstore]
  exact ht.trans (congrArg (fun w : State => { w with link := t.link }) hv)

/-- The lane of a held turn. -/
def Sequencer.turnHeld (q : Sequencer) (r : WaitReason) : Sequencer :=
  { q with holds := q.holds.put r.hold true, state := .held (.rack false) }

theorem turnStarts_journal (howes : u.owes l g p) (hroom : ¬ u.entryFits)
    (ht : t.seq l = (u.seq l).turnHeld .journal ∧ t.meter l = { u.meter l with wait := some (u.waitFor l .journal x i p) } ∧
      t.sessions = u.sessions ∧ t.store = u.store)
    (hshown : u.showsTurn t x i b g p .holdJournal) : u.turnStarts t l x i b g p := by
  obtain ⟨hseq, hheld⟩ := ht
  refine ⟨fun _ => ⟨hheld, by rw [hseq]; rfl, by rw [hseq]; rfl, hshown⟩, fun hc => ?_,
    fun hn => absurd ⟨howes, hroom⟩ hn⟩
  rcases hc with ⟨-, hfits, -⟩ | ⟨htime, -⟩
  · exact absurd hfits hroom
  · exact absurd (howes.1.symm.trans htime) (by decide)

theorem turnStarts_credit (hcredit : u.lacksCredit l x g p)
    (ht : t.seq l = (u.seq l).turnHeld .credit ∧ t.meter l = { u.meter l with wait := some (u.waitFor l .credit x i p) } ∧
      t.sessions = u.sessions ∧ t.store = u.store)
    (hshown : u.showsTurn t x i b g p .holdCredit) : u.turnStarts t l x i b g p := by
  obtain ⟨hseq, hheld⟩ := ht
  refine ⟨fun hj => ?_, fun _ => ⟨hheld, by rw [hseq]; rfl, by rw [hseq]; rfl, hshown⟩, fun _ hn => absurd hcredit hn⟩
  obtain ⟨howes, hroom⟩ := hj
  rcases hcredit with ⟨-, hfits, -⟩ | ⟨htime, -⟩
  · exact absurd hfits hroom
  · exact absurd (howes.1.symm.trans htime) (by decide)

/-- An admitted turn is one that no wait holds. -/
theorem turnStarts_admitted (hj : ¬ (u.owes l g p ∧ ¬ u.entryFits)) (hcredit : ¬ u.lacksCredit l x g p)
    (harmed : (u.seq l).state = .armed) (hseq : t.seq l = { u.seq l with foul := false })
    (hshown : u.showsTurn t x i b g p .admitted)
    (hpaid : u.owes l g p → (t.meter l = { u.chargedMeter l x with wait := none } ∧
      t.sessions = (u.turnPaid l x i p).sessions ∧ t.store = (u.turnPaid l x i p).store) ∧
      ((u.meter l).prepaid = true → (u.ctl.setup.low : Int) ≤ (u.meter l).balance →
        (u.meter l).balance - u.gameCost x < u.ctl.setup.low →
        t.queued 255 (.notice (.creditLow l ((u.meter l).balance - u.gameCost x)))))
    (hfree : ¬ u.owes l g p → t.meter l = { u.meter l with wait := none } ∧ t.sessions = (u.turnMade l x).sessions ∧
      t.store = u.store) : u.turnStarts t l x i b g p := by
  refine ⟨fun h => absurd h hj, fun h => absurd h hcredit, fun _ _ =>
    ⟨by rw [hseq]; exact harmed, by rw [hseq], by rw [hseq], hshown, fun h => ?_, hfree⟩⟩
  obtain ⟨⟨hmeter, hsessions, hstore⟩, hlow⟩ := hpaid h
  exact ⟨hmeter, hsessions, hstore, hlow⟩

/-! ## The turn start of a session on its ARMED lane -/

/-- A prepaid balance that a charge takes below the low-credit level is noticed (R114). -/
theorem writeMeter_queued {n : Meter} (hsends : u.sends 1) (hprepaid : n.prepaid = true)
    (hbefore : (u.ctl.setup.low : Int) ≤ (u.meter l).balance) (hafter : n.balance < u.ctl.setup.low) :
    (writeMeter l n u).queued 255 (.notice (.creditLow l n.balance)) := by
  unfold writeMeter notice
  dsimp only
  rw [if_pos (by simp [hprepaid, hbefore, hafter])]
  exact send_queued (hsends.of_same rfl rfl)

theorem writeMeter_sends {c : Nat} (n : Meter) (hsends : u.sends (c + 1)) : (writeMeter l n u).sends c := by
  unfold writeMeter notice
  dsimp only
  split
  · exact State.sends.send (hsends.of_same rfl rfl)
  · exact hsends.less (Nat.le_succ c)

theorem State.queued.writeMeter {d : Nat} {q : Payload} (hq : u.queued d q) (n : Meter) (hsends : u.sends 1) :
    (writeMeter l n u).queued d q := by
  unfold Machine.writeMeter notice
  dsimp only
  split
  · exact (hq.of_link (t := u.setMeter l n) rfl).send (hsends.of_same rfl rfl)
  · exact hq.of_link rfl

theorem turnPaid_session? (hx : u.session? x.id = some x) :
    (u.turnPaid l x i p).session? x.id = some { x.modifyGame i (fun y => { y with charged := true }) with turn := .active } := by
  let y : Session := { x.modifyGame i (fun y => { y with charged := true }) with turn := .active }
  have hid : y.id = x.id := x.modifyGame_id _ _
  have hput : (putSession y u).session? y.id = some y := session?_putSession (hid ▸ hx)
  rw [hid] at hput
  rw [← hput]
  unfold State.session?
  refine congrArg (List.find? _) (List.map_congr_left fun z _ => if_congr (by rw [hid]) rfl rfl)

/-- The turn start (R81): the meter's answer, what is shown, and what stays; frames queued before it stay queued. -/
theorem startTurn_turnStarts (hx : u.session? x.id = some x) (hp : x.pos = some p) (hi : x.current = some i)
    (hb : x.bowler? i = some b) (hg : b.game = some g) (hstate : x.state = .playing) (hturn : x.turn = .outstanding)
    (harmed : (u.seq p.lane).state = .armed) (hsends : u.sends 2) :
    u.turnStarts (startTurn p.lane x.id u) p.lane x i b g p ∧ u.startsOnly (startTurn p.lane x.id u) p.lane ∧
      (∀ d q, u.queued d q → (startTurn p.lane x.id u).queued d q) ∧
      ∃ y, (startTurn p.lane x.id u).session? x.id = some y ∧ y.pos = some p := by
  have hstart := startTurn_starts hx hp hi hb hg hstate hturn harmed
  have hone : u.sends 1 := hsends.less (by omega)
  rw [hstart]
  by_cases hj : u.owes p.lane g p ∧ ¬ u.entryFits
  · obtain ⟨howes, hroom⟩ := hj
    rw [admission_noJournal harmed howes hroom]
    obtain ⟨honly, hfields⟩ := State.startsOnly.of_eq (u := u) (l := p.lane) (q := (u.seq p.lane).turnHeld .journal)
      (n := { u.meter p.lane with wait := some (u.waitFor p.lane .journal x i p) })
      (display_eq (.turn (displayHead x i b g p) .holdJournal) (u.turnHeld p.lane (u.waitFor p.lane .journal x i p))) rfl rfl
    have hv : (u.turnHeld p.lane (u.waitFor p.lane .journal x i p)).sends 1 := hone.of_same rfl rfl
    exact ⟨turnStarts_journal howes hroom hfields (send_queued hv), honly, fun d q hq => State.queued.send (hq.of_link rfl) hv,
      x, (display_session? _ _ _).trans hx, hp⟩
  by_cases hcredit : u.lacksCredit p.lane x g p
  · rw [admission_noCredit harmed hcredit]
    obtain ⟨honly, hfields⟩ := State.startsOnly.of_eq (u := u) (l := p.lane) (q := (u.seq p.lane).turnHeld .credit)
      (n := { u.meter p.lane with wait := some (u.waitFor p.lane .credit x i p) })
      (display_eq (.turn (displayHead x i b g p) .holdCredit) (u.turnHeld p.lane (u.waitFor p.lane .credit x i p))) rfl rfl
    have hv : (u.turnHeld p.lane (u.waitFor p.lane .credit x i p)).sends 1 := hone.of_same rfl rfl
    exact ⟨turnStarts_credit hcredit hfields (send_queued hv), honly, fun d q hq => State.queued.send (hq.of_link rfl) hv,
      x, (display_session? _ _ _).trans hx, hp⟩
  by_cases howes : u.owes p.lane g p
  · have hroom : u.entryFits := not_not.1 fun hn => hj ⟨howes, hn⟩
    rw [turnAnswered_charges hx howes hroom hcredit, admission_charges howes hroom hcredit]
    obtain ⟨honly, hseq, hfields⟩ := State.startsOnly.of_eq (u := u) (l := p.lane)
      (q := { u.seq p.lane with foul := false }) (n := { u.chargedMeter p.lane x with wait := none })
      (display_eq (.turn (displayHead x i b g p) .admitted) (u.turnPaid p.lane x i p)) rfl rfl
    have hv : (u.turnPaid p.lane x i p).sends 1 := (writeMeter_sends _ hsends).of_same rfl (by rw [writeMeter_eq]; rfl)
    refine ⟨turnStarts_admitted hj hcredit harmed hseq (send_queued hv) (fun _ => ⟨hfields, fun hprepaid hbefore hafter => ?_⟩)
      (fun hn => absurd howes hn), honly, fun d q hq => State.queued.send ((hq.writeMeter _ hone).of_link rfl) hv,
      _, (display_session? _ _ _).trans (turnPaid_session? hx), ?_⟩
    · have hbalance : (u.chargedMeter p.lane x).balance = (u.meter p.lane).balance - u.gameCost x := if_pos hprepaid
      rw [← hbalance] at hafter ⊢
      exact State.queued.send ((writeMeter_queued (n := u.chargedMeter p.lane x) hone hprepaid hbefore hafter).of_link rfl) hv
    · show (x.modifyBowler i _).pos = some p
      rw [x.modifyBowler_eq]
      exact hp
  · rw [turnAnswered_admits hx howes hcredit, admission_admits howes hcredit]
    obtain ⟨honly, hseq, hfields⟩ := State.startsOnly.of_eq (u := u) (l := p.lane)
      (q := { u.seq p.lane with foul := false }) (n := { u.meter p.lane with wait := none })
      (display_eq (.turn (displayHead x i b g p) .admitted) (u.turnMade p.lane x)) rfl rfl
    have hv : (u.turnMade p.lane x).sends 1 := hone.of_same rfl rfl
    exact ⟨turnStarts_admitted hj hcredit harmed hseq (send_queued hv) (fun h => absurd h howes) (fun _ => hfields), honly,
      fun d q hq => State.queued.send (hq.of_link rfl) hv, _,
      (display_session? _ _ _).trans (State.turnMade_session? _ hx), hp⟩

end

end Sys2Proof.Machine
end

section
/-! SUPPORT. The session a COMMIT installs and the one it finds: the table they share, the un-crossing (R79) and the turns
that start (R81, R162). -/

namespace Sys2Proof.Machine

/-! ## A record joins the table (R65, R67) -/

/-- The table with a new record in its place. -/
def joined (x : Session) (ys : List Session) : List Session :=
  (ys.filter fun y => decide (y.id < x.id)) ++ x :: ys.filter fun y => decide (x.id < y.id)

/-- The table of a new record beside one other, in order of ids. -/
theorem joined_one (x y : Session) (h : y.id ≠ x.id) : joined x [y] = if x.id < y.id then [x, y] else [y, x] := by
  unfold joined
  by_cases hlt : x.id < y.id
  · simp [hlt, Nat.lt_asymm hlt]
  · have hgt : y.id < x.id := by omega
    simp [hlt, hgt]

theorem insertSession_joined {x : Session} {ys : List Session} (hlen : ys.length ≤ 1) (h : ∀ y ∈ ys, y.id ≠ x.id) :
    insertSession x ys = joined x ys := by
  match ys with
  | [] => rfl
  | [y] =>
    rw [joined_one x y (h y (by simp))]
    rfl
  | _ :: _ :: _ => simp at hlen

theorem joined_mem {x z : Session} {ys : List Session} (hz : z ∈ joined x ys) : z = x ∨ z ∈ ys := by
  unfold joined at hz
  simp only [List.mem_append, List.mem_filter, List.mem_cons] at hz
  rcases hz with h | h | h
  · exact .inr h.1
  · exact .inl h
  · exact .inr h.1

theorem joined_find? {x : Session} {ys : List Session} : (joined x ys).find? (·.id == x.id) = some x := by
  have hfront : (ys.filter fun y => decide (y.id < x.id)).find? (·.id == x.id) = none := by
    refine List.find?_eq_none.2 fun y hy => ?_
    have : y.id < x.id := by simpa using (List.mem_filter.1 hy).2
    simp only [beq_iff_eq]
    omega
  rw [joined, List.find?_append, hfront]
  simp

theorem joined_find?_other {x y : Session} (h : y.id ≠ x.id) : (joined x [y]).find? (·.id == y.id) = some y := by
  rw [joined_one x y h]
  split <;> simp [Ne.symm h]

/-- The new record replaced by another with its id. -/
theorem joined_replace {x x' : Session} {ys : List Session} (hid : x'.id = x.id) (h : ∀ y ∈ ys, y.id ≠ x.id) :
    (joined x ys).map (fun z => if z.id = x'.id then x' else z) = joined x' ys := by
  have hkeep {zs : List Session} (hzs : ∀ z ∈ zs, z ∈ ys) : zs.map (fun z => if z.id = x'.id then x' else z) = zs := by
    refine List.map_congr_left (g := id) (fun z hz => if_neg ?_) |>.trans (List.map_id _)
    rw [hid]
    exact h z (hzs z hz)
  unfold joined
  rw [List.map_append, List.map_cons, hkeep fun z hz => (List.mem_filter.1 hz).1,
    hkeep fun z hz => (List.mem_filter.1 hz).1, if_pos hid.symm, hid]

/-- The other record replaced by another with its id. -/
theorem joined_replace_other {x y y' : Session} (hid : y'.id = y.id) (h : y.id ≠ x.id) :
    (joined x [y]).map (fun z => if z.id = y'.id then y' else z) = joined x [y'] := by
  rw [joined_one x y h, joined_one x y' (hid ▸ h), hid]
  split <;> simp [Ne.symm h]

/-- The id that a new record takes is no other's (R67). -/
theorem newId_fresh {s : State} (h : s.sessions.length ≤ 1) : ∀ y ∈ s.sessions, y.id ≠ s.newId := by
  intro y hy hid
  have hsessions : s.sessions = [y] := by
    match hs : s.sessions with
    | [] => simp [hs] at hy
    | [z] => simp [hs] at hy; rw [hy]
    | _ :: _ :: _ => simp [hs] at h
  have hfree (n : Nat) (hn : n ≠ y.id) : (s.session? n).isNone = true := by
    simp [State.session?, hsessions, Ne.symm hn]
  unfold State.newId at hid
  dsimp only at hid
  cases hfind : ((List.range 255).map fun k => (s.nextId - 1 + k) % 255 + 1).find? fun n => (s.session? n).isNone with
  | some n =>
    have hnone : (s.session? n).isNone = true := List.find?_some (p := fun n => (s.session? n).isNone) hfind
    rw [hfind, Option.getD_some] at hid
    rw [← hid, session?_alone hsessions] at hnone
    exact absurd hnone (by simp)
  | none =>
    have htaken (k : Nat) (hk : k < 255) : (s.nextId - 1 + k) % 255 + 1 = y.id := by
      refine Decidable.byContradiction fun hne => ?_
      exact List.find?_eq_none.1 hfind _ (List.mem_map.2 ⟨k, List.mem_range.2 hk, rfl⟩) (hfree _ hne)
    have h0 := htaken 0 (by omega)
    have h1 := htaken 1 (by omega)
    omega

/-! ## A frame entered without a partner (R76, R77) -/

/-- The session at the start of the frame of p, with no turn and no index (R77, R78). -/
def Session.atFrame (p : GamePos) (z : Session) : Session :=
  { z with state := .playing, pos := some p, turn := .none, current := none }

/-- Every bowler is absent: a session that is not crossed is idle at the start of a frame (R77). -/
theorem Session.choose_idle {x : Session} (hcross : x.cross = false) (hcurrent : x.current = none)
    (h : ¬ firstPresent 0 x.bowlers < x.bowlers.length) : x.choose = ({ x with turn := .none }, .idle) := by
  have habsent : x.allAbsent = true := by
    refine List.all_eq_true.2 fun b hb => ?_
    refine Decidable.byContradiction fun hpresent => h ?_
    unfold firstPresent
    rw [Nat.zero_add, List.drop_zero]
    exact List.findIdx_lt_length_of_exists ⟨b, hb, by simpa using hpresent⟩
  unfold Session.choose
  rw [hcross, hcurrent, habsent]
  rfl

section
variable {z : Session} {p : GamePos} {armed : LaneId → Bool}

theorem Session.entered_chosen (h : firstPresent 0 z.bowlers < z.bowlers.length) :
    z.entered armed p = { (z.atFrame p).selected p with turn := if armed p.lane then .active else .outstanding } := by
  unfold Session.entered
  dsimp only
  rw [if_pos h]
  rfl

theorem Session.entered_idle (h : ¬ firstPresent 0 z.bowlers < z.bowlers.length) (hcross : z.cross = false) :
    z.entered armed p = z.atFrame p := by
  unfold Session.entered
  dsimp only
  rw [if_neg h, if_neg (by simp [hcross])]
  rfl

end

/-- A session that is selected for: its turn is OUTSTANDING at a position, for a bowler who plays a game. -/
def Session.awaits (z : Session) (p : GamePos) : Prop :=
  z.pos = some p ∧ z.state = .playing ∧ z.turn = .outstanding ∧
    ∃ i b g, z.current = some i ∧ z.bowler? i = some b ∧ b.game = some g

/-- What an un-crossing comes to: the session waits for its turn start, or no turn is to start (R79). -/
def Session.uncrossing (y z : Session) (ids : List Nat) : Prop :=
  z.id = y.id ∧
    (ids = [] ∧ (∀ armed, y.uncrossed armed = z) ∨
      ids = [y.id] ∧ ∃ p, p.lane = y.home ∧ z.awaits p ∧
        ∀ armed, y.uncrossed armed = { z with turn := if armed p.lane then .active else .outstanding })

/-- The selection of a session that enters a frame of its own (R76, R77). -/
theorem selectFresh_entered {s : State} {w z : Session} {p : GamePos} (hw : s.session? z.id = some w)
    (hcross : z.cross = false) (hgames : ∀ b ∈ z.bowlers, b.game.isSome = true) :
    ∃ y ids, selectFresh z.id (putSession (z.atFrame p) s) = (putSession y s, ids) ∧ y.id = z.id ∧
      (ids = [] ∧ (∀ armed, z.entered armed p = y) ∨
        ids = [z.id] ∧ y.awaits p ∧
          ∀ armed, z.entered armed p = { y with turn := if armed p.lane then .active else .outstanding }) := by
  have hput : (putSession (z.atFrame p) s).session? z.id = some (z.atFrame p) := session?_putSession (y := z.atFrame p) hw
  by_cases hj : firstPresent 0 z.bowlers < z.bowlers.length
  · refine ⟨(z.atFrame p).selected p, [z.id], ?_, rfl, .inr ⟨rfl, ?_, fun armed => Session.entered_chosen hj⟩⟩
    · simp only [selectFresh, hput, Session.choose_chosen (x := z.atFrame p) rfl hj]
      exact congrArg (·, [z.id]) (putSession_twice (x := z.atFrame p) (y := (z.atFrame p).selected p) rfl s)
    · obtain ⟨b, g, hb, hg⟩ := Session.selected_bowler (p := p) (x := z.atFrame p) hj hgames
      exact ⟨rfl, rfl, rfl, _, b, g, rfl, hb, hg⟩
  · refine ⟨z.atFrame p, [], ?_, rfl, .inl ⟨rfl, fun armed => Session.entered_idle hj hcross⟩⟩
    simp only [selectFresh, hput, Session.choose_idle (x := z.atFrame p) hcross rfl hj]
    exact congrArg (·, []) (putSession_twice (x := z.atFrame p) (y := z.atFrame p) rfl s)

/-! ## The un-crossing (R79) -/

theorem uncross_uncrossing {s : State} {y : Session} (hy : s.session? y.id = some y)
    (hgames : y.pos ≠ none → ∀ b ∈ y.bowlers, b.game.isSome = true)
    (hwait : ∀ b, y.state = .waitPartner b → b ≠ .frame 10 ∧ (b ≠ .start → y.pos ≠ none)) :
    ∃ z ids, uncross y.id s = (putSession z s, ids) ∧ y.uncrossing z ids := by
  let z : Session := { y with cross := false }
  have hstays (hstate : ∀ b, y.state ≠ .waitPartner b) :
      uncross y.id s = (putSession z s, []) ∧ ∀ armed, y.uncrossed armed = z := by
    refine ⟨?_, fun armed => ?_⟩
    · unfold uncross
      simp only [hy]
      split
      · exact absurd ‹_› (hstate _)
      · exact absurd ‹_› (hstate _)
      · rfl
    · unfold Session.uncrossed
      dsimp only
      split
      · exact absurd ‹_› (hstate _)
      · exact absurd ‹_› (hstate _)
      · rfl
  cases hs : y.state with
  | waitPartner b =>
    obtain ⟨hten, hpos⟩ := hwait b hs
    cases b with
    | start =>
      obtain ⟨w, ids, hselect, hid, hids⟩ := selectFresh_entered (z := z.withGames 1) (p := ⟨1, 1, y.home⟩) hy rfl
        (fun b hb => by obtain ⟨c, -, rfl⟩ := List.mem_map.1 hb; rfl)
      have huncrossed (armed : LaneId → Bool) : y.uncrossed armed = (z.withGames 1).entered armed ⟨1, 1, y.home⟩ := by
        simp only [Session.uncrossed, hs]
        rfl
      refine ⟨w, ids, ?_, hid, ?_⟩
      · rw [← hselect]
        simp only [uncross, hy, hs]
        rfl
      · simp only [huncrossed]
        exact hids.imp id fun ⟨hone, hawaits, hall⟩ => ⟨hone, _, rfl, hawaits, hall⟩
    | frame f =>
      obtain ⟨p, hp⟩ := Option.ne_none_iff_exists'.1 (hpos (by simp))
      have hf : f ≠ 10 := fun h => hten (by rw [h])
      obtain ⟨w, ids, hselect, hid, hids⟩ := selectFresh_entered (z := z) (p := ⟨p.number, f + 1, y.home⟩) hy rfl
        (hgames (by simp [hp]))
      have huncrossed (armed : LaneId → Bool) : y.uncrossed armed = z.entered armed ⟨p.number, f + 1, y.home⟩ := by
        simp only [Session.uncrossed, hs, hp]
        rfl
      have henter : z.enterFrame (f + 1) = z.atFrame ⟨p.number, f + 1, y.home⟩ := by
        show ({ z with pos := y.pos.map _, state := _, turn := _, current := _ } : Session) = _
        rw [hp]
        rfl
      refine ⟨w, ids, ?_, hid, ?_⟩
      · have hput : (putSession z s).session? y.id = some z := session?_putSession (y := z) hy
        have hnext : nextFrame y.id f (putSession z s) = (putSession w s, ids) := by
          simp only [nextFrame, if_neg hf, hput, henter]
          rw [putSession_twice (x := z) (y := z.atFrame ⟨p.number, f + 1, y.home⟩) rfl]
          exact hselect
        rw [← hnext]
        unfold uncross
        simp only [hy]
        split
        · next h => exact absurd (hs.symm.trans h) (by simp)
        · next h => cases hs.symm.trans h; rfl
        · next h => exact absurd hs (h f)
      · simp only [huncrossed]
        exact hids.imp id fun ⟨hone, hawaits, hall⟩ => ⟨hone, _, rfl, hawaits, hall⟩
  | _ =>
    obtain ⟨hput, hall⟩ := hstays fun b hb => by simp [hs] at hb
    exact ⟨z, [], hput, rfl, .inl ⟨rfl, hall⟩⟩

/-! ## Turns that start on lanes that do not charge (R81) -/

/-- Turns started without a charge: the table, the foul-pending flags and the waits of the meters are written, and frames
queued. -/
def State.startsFree (w t : State) : Prop :=
  t = { w with link := t.link, seqs := t.seqs, meters := t.meters, sessions := t.sessions } ∧
    (∀ k, t.seq k = { w.seq k with foul := (t.seq k).foul } ∧ t.meter k = { w.meter k with wait := (t.meter k).wait }) ∧
    ∀ d q, w.queued d q → t.queued d q

theorem State.startsFree.refl (w : State) : w.startsFree w := ⟨rfl, fun _ => ⟨rfl, rfl⟩, fun _ _ h => h⟩

theorem State.startsFree.trans {u v w : State} (h : u.startsFree v) (h' : v.startsFree w) : u.startsFree w := by
  obtain ⟨hv, hlanes, hqueued⟩ := h
  obtain ⟨hw, hlanes', hqueued'⟩ := h'
  refine ⟨?_, fun k => ⟨?_, ?_⟩, fun d q hq => hqueued' d q (hqueued d q hq)⟩
  · rw [hw, hv]
  · rw [(hlanes' k).1, (hlanes k).1]
  · rw [(hlanes' k).2, (hlanes k).2]

theorem State.startsFree.state {w t : State} (h : w.startsFree t) (k : LaneId) : (t.seq k).state = (w.seq k).state := by
  rw [(h.2.1 k).1]

theorem State.startsFree.mode {w t : State} (h : w.startsFree t) (k : LaneId) : (t.meter k).mode = (w.meter k).mode := by
  rw [(h.2.1 k).2]

/-- The turn that a selected session comes to on a lane (R81). -/
def State.turnOn (w : State) (l : LaneId) : Turn := if (w.seq l).state = .armed then .active else .outstanding

theorem turnMade_startsFree {w : State} {z : Session} {l : LaneId} (hsends : w.sends 1) (d : Display) :
    w.startsFree (display d (w.turnMade l z)) := by
  refine ⟨?_, fun k => ?_, fun e q hq => State.queued.send (hq.of_link rfl) (hsends.of_same rfl rfl)⟩
  · rw [display_eq]
    rfl
  · rw [display_eq]
    have hseq : (w.turnMade l z).seq k = if k = l then { w.seq l with foul := false } else w.seq k := Pair.get_set _ _ _ _
    have hmeter : (w.turnMade l z).meter k = if k = l then { w.meter l with wait := none } else w.meter k :=
      Pair.get_set _ _ _ _
    change (w.turnMade l z).seq k = { w.seq k with foul := ((w.turnMade l z).seq k).foul } ∧
      (w.turnMade l z).meter k = { w.meter k with wait := ((w.turnMade l z).meter k).wait }
    rw [hseq, hmeter]
    by_cases hk : k = l
    · subst hk
      rw [if_pos rfl, if_pos rfl]
      exact ⟨rfl, rfl⟩
    · rw [if_neg hk, if_neg hk]
      exact ⟨rfl, rfl⟩

/-- One turn start on a lane that does not charge, whether the lane is ARMED or not. -/
theorem startTurn_step {w : State} {z : Session} {p : GamePos} (hz : w.session? z.id = some z) (ha : z.awaits p)
    (hm : (w.meter p.lane).mode = .none) {n : Nat} (hsends : w.sends (n + 1)) :
    w.startsFree (startTurn p.lane z.id w) ∧ (startTurn p.lane z.id w).sends n ∧
      ((w.sessions.map fun c => if c.id = z.id then z else c) = w.sessions →
        (startTurn p.lane z.id w).sessions =
          w.sessions.map fun c => if c.id = z.id then { z with turn := w.turnOn p.lane } else c) := by
  obtain ⟨hpos, hstate, hturn, i, b, g, hi, hb, hg⟩ := ha
  by_cases harmed : (w.seq p.lane).state = .armed
  · rw [startTurn_free hz hpos hi hb hg hstate hturn harmed hm]
    refine ⟨turnMade_startsFree (hsends.less (by omega)) _, State.sends.send (hsends.of_same rfl rfl), fun _ => ?_⟩
    rw [display_eq, State.turnOn, if_pos harmed]
    rfl
  · rw [startTurn_unarmed harmed]
    refine ⟨State.startsFree.refl w, hsends.less (Nat.le_succ n), fun hsame => ?_⟩
    rw [State.turnOn, if_neg harmed, ← hturn]
    exact hsame.symm

section
variable {w : State} {x y : Session} {p q : GamePos} {n : Nat}

theorem joined_session? (hw : w.sessions = joined x [y]) (hid : y.id ≠ x.id) :
    w.session? x.id = some x ∧ w.session? y.id = some y := by
  unfold State.session?
  rw [hw]
  exact ⟨joined_find?, joined_find?_other hid⟩

/-- The turn start of the session that joined. -/
theorem startTurn_joined (hw : w.sessions = joined x [y]) (hid : y.id ≠ x.id) (hx : x.awaits p)
    (hm : (w.meter p.lane).mode = .none) (hsends : w.sends (n + 1)) :
    w.startsFree (startTurn p.lane x.id w) ∧ (startTurn p.lane x.id w).sends n ∧
      (startTurn p.lane x.id w).sessions = joined { x with turn := w.turnOn p.lane } [y] := by
  have hne : ∀ c ∈ [y], c.id ≠ x.id := by simpa using hid
  obtain ⟨hfree, hn, hsessions⟩ := startTurn_step (joined_session? hw hid).1 hx hm hsends
  refine ⟨hfree, hn, ?_⟩
  rw [hsessions (by rw [hw]; exact joined_replace rfl hne), hw]
  exact joined_replace (x' := { x with turn := w.turnOn p.lane }) rfl hne

/-- The turn start of the session that was there. -/
theorem startTurn_beside (hw : w.sessions = joined x [y]) (hid : y.id ≠ x.id) (hy : y.awaits q)
    (hm : (w.meter q.lane).mode = .none) (hsends : w.sends (n + 1)) :
    w.startsFree (startTurn q.lane y.id w) ∧ (startTurn q.lane y.id w).sends n ∧
      (startTurn q.lane y.id w).sessions = joined x [{ y with turn := w.turnOn q.lane }] := by
  obtain ⟨hfree, hn, hsessions⟩ := startTurn_step (joined_session? hw hid).2 hy hm hsends
  refine ⟨hfree, hn, ?_⟩
  rw [hsessions (by rw [hw]; exact joined_replace_other rfl hid), hw]
  exact joined_replace_other (y' := { y with turn := w.turnOn q.lane }) rfl hid

theorem State.startsFree.turnOn {t : State} (h : w.startsFree t) (l : LaneId) : t.turnOn l = w.turnOn l := by
  unfold State.turnOn
  rw [h.state]

/-- The turns of two sessions on different lanes, lane A's first (R81). -/
theorem startTurns_two (hw : w.sessions = joined x [y]) (hid : y.id ≠ x.id) (hx : x.awaits p) (hy : y.awaits q)
    (hlane : q.lane = other p.lane) (hm : ∀ k, (w.meter k).mode = .none) (hsends : w.sends 2) :
    w.startsFree (startTurns (w, [y.id, x.id])) ∧
      (startTurns (w, [y.id, x.id])).sessions =
        joined { x with turn := w.turnOn p.lane } [{ y with turn := w.turnOn q.lane }] := by
  show w.startsFree (startTurn .B x.id (startTurn .B y.id (startTurn .A x.id (startTurn .A y.id w)))) ∧
    (startTurn .B x.id (startTurn .B y.id (startTurn .A x.id (startTurn .A y.id w)))).sessions = _
  have hpos : x.pos = some p := hx.1
  have hpos' : y.pos = some q := hy.1
  cases hl : p.lane with
  | A =>
    have hq : q.lane = .B := by rw [hlane, hl]; rfl
    obtain ⟨hfree, hone, hsessions⟩ := startTurn_joined hw hid hx (hm _) hsends
    obtain ⟨hfree', -, hsessions'⟩ := startTurn_beside (n := 0) hsessions hid hy (by rw [hfree.mode]; exact hm _) hone
    rw [hfree.turnOn] at hsessions'
    rw [hq] at hfree' hsessions' ⊢
    rw [hl] at hfree hsessions hsessions' hfree'
    rw [startTurn_elsewhere (joined_session? hw hid).2 hpos' (by simp [hq]),
      startTurn_elsewhere (l := .B) (joined_session? hsessions' hid).1 hpos (by simp [hl])]
    exact ⟨hfree.trans hfree', hsessions'⟩
  | B =>
    have hq : q.lane = .A := by rw [hlane, hl]; rfl
    obtain ⟨hfree, hone, hsessions⟩ := startTurn_beside hw hid hy (hm _) hsends
    obtain ⟨hfree', -, hsessions'⟩ := startTurn_joined (n := 0) hsessions hid hx (by rw [hfree.mode]; exact hm _) hone
    rw [hfree.turnOn] at hsessions'
    rw [hl] at hfree' hsessions'
    rw [hq] at hfree hsessions hsessions' hfree' ⊢
    rw [startTurn_elsewhere (l := .A) (joined_session? hsessions hid).1 hpos (by simp [hl]),
      startTurn_elsewhere (l := .B) (joined_session? hsessions hid).2 hpos' (by simp [hq])]
    exact ⟨hfree.trans hfree', hsessions'⟩

/-- The turn of the session that joined, beside one without a turn to start. -/
theorem startTurns_joined (hw : w.sessions = joined x [y]) (hid : y.id ≠ x.id) (hx : x.awaits p)
    (hm : ∀ k, (w.meter k).mode = .none) (hsends : w.sends 1) :
    w.startsFree (startTurns (w, [x.id])) ∧
      (startTurns (w, [x.id])).sessions = joined { x with turn := w.turnOn p.lane } [y] := by
  obtain ⟨hfree, -, hsessions⟩ := startTurn_joined (n := 0) hw hid hx (hm _) hsends
  rw [startTurns_own (y := { x with turn := w.turnOn p.lane }) (joined_session? hw hid).1 hx.1
    (joined_session? hsessions hid).1 hx.1]
  exact ⟨hfree, hsessions⟩

end

end Sys2Proof.Machine
end

section
/-! SUPPORT. COMMIT at the target (R161, R162): the session installed, and the statement. -/

namespace Sys2Proof.Machine

/-! ## The session (R162) -/

/-- The record a COMMIT adds to the table, before its turn selection. -/
def OfferFields.newcomer (o : OfferFields) (id : Nat) (ps : List (IdentFields × BallsFields)) : Session :=
  { id := id, home := o.lane, cross := false, state := .playing, size := o.size, bowlers := ps.map (installBowler o)
    pos := some { number := o.number, frame := o.frame, lane := o.lane }, turn := .none
    current := if o.current = 0 then none else some o.current, limit := o.limit, discount := o.discount }

/-- The record with the bowler behind the offer's index chosen. -/
def OfferFields.installed (o : OfferFields) (id : Nat) (ps : List (IdentFields × BallsFields)) : Session :=
  { o.newcomer id ps with turn := .outstanding, current := some (o.current + 1) }

theorem blanks_none (f k : Nat) (bs : List Bowler) : blanks f k k bs = bs := by
  refine List.ext_getElem? fun n => ?_
  have hout : ¬ (k ≤ n ∧ n < k) := by omega
  rw [blanks_getElem?]
  simp only [hout, if_false, Option.map_id']

theorem firstPresent_here {k : Nat} {bs : List Bowler} {b : Bowler} (hb : bs[k]? = some b) (hpresent : b.absent = false) :
    firstPresent k bs = k := by
  obtain ⟨hk, hget⟩ := List.getElem?_eq_some_iff.1 hb
  unfold firstPresent
  rw [List.drop_eq_getElem_cons hk, hget, List.findIdx_cons, hpresent]
  rfl

section
variable {o : OfferFields} {id : Nat} {ps : List (IdentFields × BallsFields)} {d : IdentFields} {f : BallsFields}

theorem OfferFields.newcomer_bowler (hp : ps[o.current]? = some (d, f)) :
    (o.newcomer id ps).bowlers[o.current]? = some (installBowler o (d, f)) := by
  show (ps.map (installBowler o))[o.current]? = _
  rw [List.getElem?_map, hp]
  rfl

/-- The first bowler behind the offer's index is chosen when it is not absent (R76, R162). -/
theorem OfferFields.newcomer_choose (hp : ps[o.current]? = some (d, f)) (hpresent : d.absent = false) :
    (o.newcomer id ps).choose = (o.installed id ps, .chosen) := by
  have hbowler := OfferFields.newcomer_bowler (id := id) hp
  have hcurrent : (o.newcomer id ps).current.getD 0 = o.current := by
    show (if o.current = 0 then none else some o.current).getD 0 = o.current
    split <;> simp_all
  have hfirst : firstPresent ((o.newcomer id ps).current.getD 0) (o.newcomer id ps).bowlers = o.current := by
    rw [hcurrent]
    exact firstPresent_here hbowler hpresent
  have hlt : firstPresent ((o.newcomer id ps).current.getD 0) (o.newcomer id ps).bowlers < (o.newcomer id ps).bowlers.length := by
    rw [hfirst]
    exact (List.getElem?_eq_some_iff.1 hbowler).1
  rw [Session.choose_chosen rfl hlt, Session.selected, hfirst, hcurrent, blanks_none]
  rfl

theorem OfferFields.installed_awaits (hp : ps[o.current]? = some (d, f)) :
    (o.installed id ps).awaits { number := o.number, frame := o.frame, lane := o.lane } :=
  ⟨rfl, rfl, rfl, _, _, _, rfl, OfferFields.newcomer_bowler (id := id) hp, rfl⟩

end

/-! ## The install (R162) -/

/-- The station with a new record in the table, DONE queued and the transfer record IDLE. -/
def State.withNewcomer (s : State) (tag peer : Nat) (x : Session) : State :=
  transferIdle (sendTransfer peer tag .done (addSession x s))

section
variable {s : State} {tag peer : Nat} {o : OfferFields} {ps : List (IdentFields × BallsFields)} {x : Session}

theorem State.withNewcomer_eq (hlen : s.sessions.length ≤ 1) (hfresh : ∀ y ∈ s.sessions, y.id ≠ x.id) :
    s.withNewcomer tag peer x = { s with
      link := (s.withNewcomer tag peer x).link, transfer := { s.transfer with record := .idle }
      nextId := if 255 ≤ x.id then 1 else x.id + 1, sessions := joined x s.sessions } := by
  have hadd : addSession x s = { s with nextId := if 255 ≤ x.id then 1 else x.id + 1, sessions := joined x s.sessions } := by
    rw [← insertSession_joined hlen hfresh]
    rfl
  unfold State.withNewcomer transferIdle sendTransfer
  rw [hadd, send_eq]
  rfl

theorem install_line (tag peer : Nat) (o : OfferFields) (ps : List (IdentFields × BallsFields)) (s : State) :
    (install tag peer o ps s).link.line = s.link.line := by
  have hnew (x : Session) : (s.withNewcomer tag peer x).link.line = s.link.line := send_line _ _ _ _
  have hselect (i : Nat) (u : State) : (selectTurn i u).1.link = u.link := by simp
  have huncross (i : Nat) (u : State) : (uncross i u).1.link = u.link := by simp
  unfold install
  dsimp only
  rw [startTurns_line, hselect]
  split
  · rw [huncross]
    exact hnew (o.newcomer s.newId ps)
  · exact hnew (o.newcomer s.newId ps)

theorem install_transfer (tag peer : Nat) (o : OfferFields) (ps : List (IdentFields × BallsFields)) (s : State) :
    (install tag peer o ps s).transfer = { s.transfer with record := .idle } := by
  have hnew (x : Session) : (s.withNewcomer tag peer x).transfer = { s.transfer with record := .idle } := by
    unfold State.withNewcomer transferIdle sendTransfer
    rw [send_eq]
    rfl
  have hselect (i : Nat) (u : State) : (selectTurn i u).1.transfer = u.transfer := by simp
  have huncross (i : Nat) (u : State) : (uncross i u).1.transfer = u.transfer := by simp
  have hstart (r : State × List Nat) : (startTurns r).transfer = r.1.transfer := by simp
  unfold install
  dsimp only
  rw [hstart, hselect]
  split
  · rw [huncross]
    exact hnew (o.newcomer s.newId ps)
  · exact hnew (o.newcomer s.newId ps)

/-- The sessions a COMMIT un-crosses (R79, R162). -/
def crossedBeside (o : OfferFields) (id : Nat) (y : Session) : Bool := y.id != id && y.cross && y.occupies (other o.lane)

theorem install_alone
    (h : (s.withNewcomer tag peer (o.newcomer s.newId ps)).sessions.find? (crossedBeside o s.newId) = none) :
    install tag peer o ps s = startTurns (selectTurn s.newId (s.withNewcomer tag peer (o.newcomer s.newId ps))) := by
  unfold install
  dsimp only
  split
  · next y hy => exact absurd (hy.symm.trans h) (by simp)
  · rfl

theorem install_crossed {y : Session}
    (h : (s.withNewcomer tag peer (o.newcomer s.newId ps)).sessions.find? (crossedBeside o s.newId) = some y) :
    install tag peer o ps s =
      let r := uncross y.id (s.withNewcomer tag peer (o.newcomer s.newId ps))
      let q := selectTurn s.newId r.1
      startTurns (q.1, r.2 ++ q.2) := by
  unfold install
  dsimp only
  split
  · next z hz =>
    cases Option.some.inj (hz.symm.trans h)
    rfl
  · next hz => exact absurd (hz.symm.trans h) (by simp)

/-- The station with the session installed and its first bowler chosen. -/
def State.withInstalled (s : State) (tag peer : Nat) (o : OfferFields) (ps : List (IdentFields × BallsFields)) : State :=
  { s with
    link := (s.withNewcomer tag peer (o.newcomer s.newId ps)).link, transfer := { s.transfer with record := .idle }
    nextId := if 255 ≤ s.newId then 1 else s.newId + 1, sessions := joined (o.installed s.newId ps) s.sessions }

variable {d : IdentFields} {f : BallsFields} (hlen : s.sessions.length ≤ 1) (hp : ps[o.current]? = some (d, f))
  (hpresent : d.absent = false)

theorem withInstalled_queued (hsends : s.sends 1) : (s.withInstalled tag peer o ps).queued peer (.transfer tag .done) :=
  (send_queued (s := addSession (o.newcomer s.newId ps) s) (hsends.of_same rfl rfl)).of_link rfl

theorem withInstalled_placed (hsends : s.sends 1) :
    placed ⟨peer, .transfer tag .done, .transfer, false⟩ s.link.queue (s.withInstalled tag peer o ps).link.queue := by
  show placed _ s.link.queue (send peer .transfer (.transfer tag .done) (addSession (o.newcomer s.newId ps) s)).link.queue
  rw [send_room (s := addSession (o.newcomer s.newId ps) s) _ _ _ (hsends.of_same rfl rfl)]
  exact placed_placeFrame _ rfl _

theorem withInstalled_sends {n : Nat} (hsends : s.sends (n + 1)) : (s.withInstalled tag peer o ps).sends n := by
  refine State.sends.of_same (s := s.withNewcomer tag peer (o.newcomer s.newId ps)) ?_ rfl ?_
  · exact State.sends.send (s := addSession (o.newcomer s.newId ps) s) (hsends.of_same rfl rfl)
  · unfold State.withNewcomer
    simp [State.withInstalled]

include hlen in
theorem State.withNewcomer_sessions :
    (s.withNewcomer tag peer (o.newcomer s.newId ps)).sessions = joined (o.newcomer s.newId ps) s.sessions := by
  rw [State.withNewcomer_eq (x := o.newcomer s.newId ps) hlen (newId_fresh hlen)]

include hp hpresent in
/-- The selection of the new session. -/
theorem selectTurn_newcomer {u : State} (hu : u.session? s.newId = some (o.newcomer s.newId ps)) :
    selectTurn s.newId u = (putSession (o.installed s.newId ps) u, [s.newId]) :=
  selectTurn_chosen hu (OfferFields.newcomer_choose hp hpresent)

include hlen hp hpresent

/-- With no cross session on the other lane, the new session's turn is all that may start. -/
theorem install_alone_eq (halone : ∀ y ∈ s.sessions, y.cross = true → y.occupies (other o.lane) = false) :
    install tag peer o ps s = startTurns (s.withInstalled tag peer o ps, [s.newId]) := by
  have hfresh : ∀ y ∈ s.sessions, y.id ≠ s.newId := newId_fresh hlen
  have hsessions := State.withNewcomer_sessions (tag := tag) (peer := peer) (o := o) (ps := ps) hlen
  have hnone : (s.withNewcomer tag peer (o.newcomer s.newId ps)).sessions.find? (crossedBeside o s.newId) = none := by
    refine List.find?_eq_none.2 fun y hy hcrossed => ?_
    simp only [crossedBeside, Bool.and_eq_true, bne_iff_ne] at hcrossed
    obtain ⟨⟨hid, hcross⟩, hoccupies⟩ := hcrossed
    rcases joined_mem (hsessions ▸ hy) with rfl | hy
    · exact hid rfl
    · exact absurd hoccupies (by rw [halone y hy hcross]; decide)
  rw [install_alone hnone, selectTurn_newcomer hp hpresent]
  · refine congrArg startTurns (congrArg (·, [s.newId]) ?_)
    have hreplace := joined_replace (x := o.newcomer s.newId ps) (x' := o.installed s.newId ps) rfl hfresh
    unfold State.withInstalled
    rw [← hreplace]
    conv_lhs => rw [State.withNewcomer_eq (x := o.newcomer s.newId ps) hlen hfresh]
    rfl
  · unfold State.session?
    rw [hsessions]
    exact joined_find? (x := o.newcomer s.newId ps)

/-- On a lane that is not ARMED the turn waits. -/
theorem install_waits (halone : ∀ y ∈ s.sessions, y.cross = true → y.occupies (other o.lane) = false)
    (harmed : (s.seq o.lane).state ≠ .armed) : install tag peer o ps s = s.withInstalled tag peer o ps := by
  rw [install_alone_eq hlen hp hpresent halone]
  exact startTurns_unarmed (x := o.installed s.newId ps) (p := ⟨o.number, o.frame, o.lane⟩) joined_find? rfl harmed

/-- On an ARMED lane the turn starts, with the meter's admission (R81, R116). -/
theorem install_starts (halone : ∀ y ∈ s.sessions, y.cross = true → y.occupies (other o.lane) = false)
    (harmed : (s.seq o.lane).state = .armed) (hsends : s.sends 3) :
    ∃ b g, (o.installed s.newId ps).bowlers[o.current]? = some b ∧ b.game = some g ∧
      (s.withInstalled tag peer o ps).turnStarts (install tag peer o ps s) o.lane (o.installed s.newId ps) (o.current + 1) b g
        ⟨o.number, o.frame, o.lane⟩ ∧
      (s.withInstalled tag peer o ps).startsOnly (install tag peer o ps s) o.lane ∧
      (install tag peer o ps s).queued peer (.transfer tag .done) := by
  obtain ⟨-, -, -, i, b, g, hi, hb, hg⟩ := OfferFields.installed_awaits (id := s.newId) hp
  cases hi
  have hx : (s.withInstalled tag peer o ps).session? (o.installed s.newId ps).id = some (o.installed s.newId ps) := joined_find?
  obtain ⟨hstarts, honly, hqueued, y, hy, hpos⟩ := startTurn_turnStarts (u := s.withInstalled tag peer o ps)
    (p := ⟨o.number, o.frame, o.lane⟩) hx rfl rfl hb hg rfl rfl harmed (withInstalled_sends hsends)
  rw [install_alone_eq hlen hp hpresent halone]
  have hown := startTurns_own (p := ⟨o.number, o.frame, o.lane⟩) hx rfl hy hpos
  change startTurns (s.withInstalled tag peer o ps, [s.newId]) = _ at hown
  rw [hown]
  exact ⟨b, g, hb, hg, hstarts, honly, hqueued _ _ (withInstalled_queued (hsends.less (by omega)))⟩

/-- The station with the session installed beside another. -/
def State.installedBeside (s : State) (tag peer : Nat) (o : OfferFields) (ps : List (IdentFields × BallsFields)) (z : Session) :
    State :=
  { s.withInstalled tag peer o ps with sessions := joined (o.installed s.newId ps) [z] }

omit hlen hp hpresent in
theorem crossedBeside_found {y : Session} (hid : y.id ≠ s.newId) (hcross : y.cross = true) (hhome : y.home = other o.lane)
    (hparked : y.state ≠ .parked) : (joined (o.newcomer s.newId ps) [y]).find? (crossedBeside o s.newId) = some y := by
  have hoccupies : crossedBeside o s.newId y = true := by
    have hother : (y.home == other o.lane && y.state != .parked) = true := by simp [hhome, hparked]
    simp only [crossedBeside, hcross, Session.occupies, hother, Bool.true_or, Bool.and_true, bne_iff_ne]
    exact hid
  have hself : crossedBeside o s.newId (o.newcomer s.newId ps) = false := by
    simp [crossedBeside, OfferFields.newcomer]
  rw [joined_one _ _ hid]
  split <;> simp [hself, hoccupies]

omit hp hpresent in
/-- The records that stand in the table once the other session is un-crossed and the new one selected for. -/
theorem putInstalled_beside {y z : Session} (hs : s.sessions = [y]) (hid : y.id ≠ s.newId) (hzid : z.id = y.id) :
    (putSession z (s.withNewcomer tag peer (o.newcomer s.newId ps))).session? s.newId = some (o.newcomer s.newId ps) ∧
    putSession (o.installed s.newId ps) (putSession z (s.withNewcomer tag peer (o.newcomer s.newId ps))) =
      s.installedBeside tag peer o ps z := by
  have hznew : z.id ≠ s.newId := hzid ▸ hid
  have hz : (putSession z (s.withNewcomer tag peer (o.newcomer s.newId ps))).sessions = joined (o.newcomer s.newId ps) [z] := by
    show (s.withNewcomer tag peer (o.newcomer s.newId ps)).sessions.map _ = _
    rw [State.withNewcomer_sessions hlen, hs]
    exact joined_replace_other hzid hid
  refine ⟨(joined_session? hz hznew).1, ?_⟩
  have hreplace := joined_replace (x := o.newcomer s.newId ps) (x' := o.installed s.newId ps) (ys := [z]) rfl
    fun c hc => by rw [List.mem_singleton.1 hc]; exact hznew
  rw [← hz] at hreplace
  unfold State.installedBeside
  rw [← hreplace]
  generalize hL : (putSession z (s.withNewcomer tag peer (o.newcomer s.newId ps))).sessions.map _ = L
  have hkeeps (u : State) : putSession (o.installed s.newId ps) u = { u with
      sessions := u.sessions.map fun c => if c.id = (o.installed s.newId ps).id then o.installed s.newId ps else c } := rfl
  rw [hkeeps, hL]
  exact congrArg (fun u : State => { u with sessions := L })
    (State.withNewcomer_eq (x := o.newcomer s.newId ps) hlen (newId_fresh hlen))

omit hlen in
theorem install_beside_eq {y : Session} (hs : s.sessions = [y]) (hcross : y.cross = true) (hhome : y.home = other o.lane)
    (hparked : y.state ≠ .parked) (hgames : y.pos ≠ none → ∀ b ∈ y.bowlers, b.game.isSome = true)
    (hwait : ∀ b, y.state = .waitPartner b → b ≠ .frame 10 ∧ (b ≠ .start → y.pos ≠ none)) :
    ∃ z ids, y.uncrossing z ids ∧ z.id ≠ s.newId ∧
      install tag peer o ps s = startTurns (s.installedBeside tag peer o ps z, ids ++ [s.newId]) := by
  have hlen : s.sessions.length ≤ 1 := by rw [hs]; exact Nat.le_refl 1
  have hid : y.id ≠ s.newId := newId_fresh hlen y (by simp [hs])
  have hv := State.withNewcomer_sessions (tag := tag) (peer := peer) (o := o) (ps := ps) hlen
  rw [hs] at hv
  obtain ⟨z, ids, huncross, huncrossing⟩ := uncross_uncrossing (joined_session? hv hid).2 hgames hwait
  obtain ⟨hnew, hput⟩ := putInstalled_beside (tag := tag) (peer := peer) (o := o) (ps := ps) hlen hs hid huncrossing.1
  refine ⟨z, ids, huncrossing, huncrossing.1 ▸ hid, ?_⟩
  rw [install_crossed (hv ▸ crossedBeside_found hid hcross hhome hparked)]
  dsimp only
  rw [huncross, selectTurn_newcomer hp hpresent hnew, hput]

omit hlen in
/-- A cross session of the other lane is un-crossed, and the turns start on lanes that do not charge (R79, R81, R162). -/
theorem install_beside {y : Session} (hs : s.sessions = [y]) (hcross : y.cross = true) (hhome : y.home = other o.lane)
    (hparked : y.state ≠ .parked) (hsends : s.sends 3) (hm : ∀ k, (s.meter k).mode = .none)
    (hgames : y.pos ≠ none → ∀ b ∈ y.bowlers, b.game.isSome = true)
    (hwait : ∀ b, y.state = .waitPartner b → b ≠ .frame 10 ∧ (b ≠ .start → y.pos ≠ none)) :
    (s.withInstalled tag peer o ps).startsFree (install tag peer o ps s) ∧
      (install tag peer o ps s).sessions = joined { o.installed s.newId ps with turn := s.turnOn o.lane }
        [y.uncrossed fun k => decide ((s.seq k).state = .armed)] := by
  obtain ⟨z, ids, ⟨hzid, hids⟩, hznew, hinstall⟩ :=
    install_beside_eq (tag := tag) (peer := peer) hp hpresent hs hcross hhome hparked hgames hwait
  let w := s.installedBeside tag peer o ps z
  have hw : w.sessions = joined (o.installed s.newId ps) [z] := rfl
  have hawaits := OfferFields.installed_awaits (id := s.newId) hp
  have hwsends : w.sends 2 := (withInstalled_sends (tag := tag) (peer := peer) (o := o) (ps := ps) hsends).of_same rfl rfl
  rw [hinstall]
  rcases hids with ⟨rfl, hall⟩ | ⟨rfl, q, hlane, hzawaits, hall⟩
  · rw [hall]
    exact startTurns_joined hw hznew hawaits hm (hwsends.less (by omega))
  · obtain ⟨hfree, hsessions⟩ := startTurns_two hw hznew hawaits hzawaits (hlane.trans hhome) hm hwsends
    have hlist : [y.id] ++ [s.newId] = [z.id, (o.installed s.newId ps).id] := by rw [hzid]; rfl
    rw [hlist, hall]
    simp only [decide_eq_true_eq]
    exact ⟨hfree, hsessions⟩

end

/-! ## The frame (R161) -/

/-- A frame to the pair address is acknowledged (R170). -/
theorem takeFrame_own {s : State} {d : Byte} (h : s.ctl.pair = some d.toNat) :
    takeFrame d s = { s with link := { s.link with lineIdle := false, ack := true, response := none } } := by
  have hack : (s.ctl.pair.isSome && s.acceptsDest d) = true := by simp [h, State.acceptsDest, accepts]
  rw [takeFrame_eq, takeFrame_link, hack]

section
variable {m : Msg} {s : State} {tag peer n : Nat} {o : OfferFields} {parts : List BowlerParts} {r bad : Bool}
  {ps : List (IdentFields × BallsFields)}

theorem exec_commit (hrun : s.running = true) : exec (.commit m) s = .next (beginTx (takeCommit m s)) := live_running hrun _

variable (hrun : s.running = true) (hpair : s.ctl.pair = some m.dest.toNat)
include hpair

theorem takeFrame_acked : s.acked (takeFrame m.dest s) := by
  rw [takeFrame_own hpair]
  rfl

theorem takeFrame_sends {c : Nat} (hr : s.room c) : (takeFrame m.dest s).sends c := ⟨by simp [hpair], hr⟩

include hrun

/-- A COMMIT that is not the target record's is ignored. -/
theorem commit_ignored (h : ∀ r tag peer o parts bad n, s.transfer.record = .target r tag peer o parts bad n →
    ¬ (m.sender.toNat = peer ∧ m.tag.toNat = tag)) :
    exec (.commit m) s =
      .next { s with link := { s.link with lineIdle := false, ack := true, response := none } } := by
  have htake : takeCommit m s = takeFrame m.dest s := by
    unfold takeCommit forTransfer
    dsimp only
    rw [if_pos (show (takeFrame m.dest s).ctl.pair = some m.dest.toNat from hpair)]
    split
    · next hrec => exact if_neg (h _ _ _ _ _ _ _ hrec)
    · rfl
  rw [exec_commit hrun, htake, beginTx_busy (takeFrame_acked hpair).lineIdle, takeFrame_own hpair]

variable (hrec : s.transfer.record = .target r tag peer o parts bad n)
  (hmine : m.sender.toNat = peer ∧ m.tag.toNat = tag)
include hrec hmine

/-- Parts that fail the check are discarded and declined (R161). -/
theorem commit_declined (hr : s.room 1) {why : AnswerReason} (hcheck : commitCheck o parts bad = .error why) :
    ∃ t, exec (.commit m) s = .next t ∧ s.acked t ∧ t.transfer = { s.transfer with record := .idle } ∧
      t = { s with link := t.link, transfer := t.transfer } ∧
      placed ⟨peer, .transfer tag (.answer (some why)), .transfer, false⟩ s.link.queue t.link.queue := by
  have htake : takeCommit m s =
      sendTransfer peer tag (.answer (some why)) (transferIdle (takeFrame m.dest s)) := by
    unfold takeCommit forTransfer
    dsimp only
    rw [if_pos (show (takeFrame m.dest s).ctl.pair = some m.dest.toNat from hpair)]
    simp only [show (takeFrame m.dest s).transfer.record = _ from hrec, if_pos hmine, hcheck]
  have hsends : (transferIdle (takeFrame m.dest s)).sends 1 := takeFrame_sends hpair hr
  have hacked : s.acked (takeCommit m s) := by
    rw [htake]
    exact ((takeFrame_acked hpair).of_link (u := transferIdle (takeFrame m.dest s)) rfl).send _ _ _
  refine ⟨_, exec_commit hrun, ?_⟩
  rw [beginTx_busy hacked.lineIdle]
  refine ⟨hacked, ?_⟩
  rw [htake]
  unfold sendTransfer
  have htransfer : (send peer .transfer (.transfer tag (.answer (some why))) (transferIdle (takeFrame m.dest s))).transfer =
      { s.transfer with record := .idle } := by
    rw [send_eq]
    rfl
  refine ⟨htransfer, by rw [htransfer]; exact send_eq _ _ _ _, ?_⟩
  rw [send_room _ _ _ hsends]
  exact placed_placeFrame _ rfl _

/-- Parts that pass the check are installed (R162). -/
theorem commit_installs (hcheck : commitCheck o parts bad = .ok ps) :
    exec (.commit m) s = .next (install tag peer o ps (takeFrame m.dest s)) ∧
      s.acked (install tag peer o ps (takeFrame m.dest s)) := by
  have htake : takeCommit m s = install tag peer o ps (takeFrame m.dest s) := by
    unfold takeCommit forTransfer
    dsimp only
    rw [if_pos (show (takeFrame m.dest s).ctl.pair = some m.dest.toNat from hpair)]
    simp only [show (takeFrame m.dest s).transfer.record = _ from hrec, if_pos hmine, hcheck]
  have hacked : s.acked (install tag peer o ps (takeFrame m.dest s)) :=
    (takeFrame_acked hpair).of_line (install_line _ _ _ _ _)
  exact ⟨by rw [exec_commit hrun, htake, beginTx_busy hacked.lineIdle], hacked⟩

end

/-! ## The statement -/

/-- Each bowler of the installed session is as its IDENT and BALLS say (R55, R66, R162). -/
theorem installed_bowler {o : OfferFields} {id i : Nat} {ps : List (IdentFields × BallsFields)} {bad : Bool} {b : Bowler}
    {d : IdentFields} {f : BallsFields} (hsound : o.partsSound bad (ps.map fullParts))
    (hb : (o.installed id ps).bowlers[i]? = some b) (hparts : (ps.map fullParts)[i]? = some ⟨some d, some f⟩) :
    b = installBowler o (d, f) ∧ (o.frame ≤ 10 → b.gameScored) := by
  rw [List.getElem?_map] at hparts
  obtain ⟨p, hp, hfull⟩ := Option.map_eq_some_iff.1 hparts
  obtain ⟨hd, hf⟩ := BowlerParts.mk.inj hfull
  cases hd
  cases hf
  have hbowler : b = installBowler o p := by
    change (ps.map (installBowler o))[i]? = some b at hb
    rw [List.getElem?_map, hp] at hb
    exact (Option.some.inj hb).symm
  refine ⟨hbowler, fun hten => ?_⟩
  rw [hbowler]
  have hall := ((partsSound_full o bad ps).1 hsound).2
  exact installBowler_gameScored o ((allSound_length hall p (List.mem_of_getElem? hp)).trans hten)

/-- The parts of the bowler behind the offer's index, who is not absent. -/
theorem present_part {ps : List (IdentFields × BallsFields)} {i : Nat}
    (h : ∃ d ∈ ((ps.map fullParts)[i]?).bind (·.ident), d.absent = false) :
    ∃ d f, ps[i]? = some (d, f) ∧ d.absent = false := by
  obtain ⟨d, hd, habsent⟩ := h
  rw [List.getElem?_map] at hd
  cases hp : ps[i]? with
  | none => simp [hp] at hd
  | some p =>
    have : p.1 = d := by simpa [hp, fullParts] using hd
    exact ⟨p.1, p.2, rfl, this ▸ habsent⟩

/-- A turn start does not depend on the line, the transfer record or the next id. -/
theorem State.turnStarts.of_rest {u t : State} {l : LaneId} {x : Session} {i : Nat} {b : Bowler} {g : Game} {p : GamePos}
    {k : Link} {tr : Transfer} {n : Nat}
    (h : State.turnStarts { u with link := k, transfer := tr, nextId := n } t l x i b g p) : u.turnStarts t l x i b g p := h

/-- Settles O36. A COMMIT is the target record's or ignored; its parts are declined or installed, alone or beside a cross
session. -/
theorem commitTaken : Obligations.CommitTaken := by
  unfold Obligations.CommitTaken
  intro m s hrun hpair hr ignored
  refine ⟨fun hnone => commit_ignored hrun hpair fun r tag peer o parts bad n hrec => ?_, ?_⟩
  · simp only [State.reserved, hrec] at hnone
    exact absurd hnone (by simp)
  intro r tag peer o parts bad n hrec mine complete filled balls sound armed alone joined' id pos
  refine ⟨fun hn => commit_ignored hrun hpair fun r' tag' peer' o' parts' bad' n' hrec' => ?_, fun hmine => ?_⟩
  · cases hrec.symm.trans hrec'
    exact hn
  by_cases hcomplete : complete
  swap
  · obtain ⟨t, hc, hacked, htransfer, heq, hplaced⟩ :=
      commit_declined hrun hpair hrec hmine hr (commitCheck_incomplete o bad hcomplete)
    refine ⟨t, hc, hacked, htransfer, fun _ => ⟨heq, ?_⟩, fun h => absurd h hcomplete⟩
    rwa [if_neg hcomplete]
  obtain ⟨ps, rfl⟩ := parts_complete hcomplete
  by_cases hsound : o.partsSound bad (ps.map fullParts)
  swap
  · obtain ⟨t, hc, hacked, htransfer, heq, hplaced⟩ :=
      commit_declined hrun hpair hrec hmine hr (commitCheck_badStructure hsound)
    refine ⟨t, hc, hacked, htransfer, fun _ => ⟨heq, ?_⟩, fun _ h => absurd h hsound⟩
    rwa [if_pos hcomplete]
  obtain ⟨hc, hacked⟩ := commit_installs hrun hpair hrec hmine (commitCheck_taken hsound)
  refine ⟨_, hc, hacked, install_transfer _ _ _ _ _, fun h => ?_, fun _ _ hlen hpresent => ?_⟩
  · exact absurd h (not_or.2 ⟨not_not.2 hcomplete, not_not.2 hsound⟩)
  obtain ⟨d, f, hp, habsent⟩ := present_part hpresent
  have hsends {c : Nat} (hroom : s.room c) : (takeFrame m.dest s).sends c := takeFrame_sends hpair hroom
  refine ⟨o.installed s.newId ps, rfl, by simp [OfferFields.installed, OfferFields.newcomer], fun i b hb d f hparts => ?_,
    fun halone harmed => ?_, fun halone harmed hthree => ?_, fun y hy hcross hhome hparked hthree hm hgames hwait => ?_⟩
  · obtain ⟨rfl, hscored⟩ := installed_bowler hsound hb hparts
    obtain ⟨hfields, hgame, hg⟩ := installBowler_fields o d f
    refine ⟨hfields, hgame, fun g hgg => ?_⟩
    obtain ⟨hgfields, hballs⟩ := hg g hgg
    exact ⟨hgfields, fun hten => hscored hten g hgg, hballs⟩
  · rw [install_waits (s := takeFrame m.dest s) hlen hp habsent halone (of_decide_eq_false harmed)]
    exact ⟨withInstalled_placed (hsends hr), rfl⟩
  · obtain ⟨b, g, hb, hg, hstarts, ⟨heq, hseq⟩, hqueued⟩ := install_starts (s := takeFrame m.dest s) (tag := tag) (peer := peer)
      hlen hp habsent halone (of_decide_eq_true harmed) (hsends hthree)
    refine ⟨hqueued, ?_, hseq, b, hb, g, hg, State.turnStarts.of_rest hstarts⟩
    rw [install_transfer]
    exact heq
  · obtain ⟨⟨heq, hlanes, hqueued⟩, hsessions⟩ := install_beside (s := takeFrame m.dest s) (tag := tag) (peer := peer)
      hp habsent hy hcross hhome hparked (hsends hthree) hm hgames hwait
    refine ⟨hqueued _ _ (withInstalled_queued (hsends hr)), ?_, hlanes⟩
    have hturn : (takeFrame m.dest s).turnOn o.lane = if armed o.lane then .active else .outstanding := by
      show (if (s.seq o.lane).state = .armed then _ else _) = _
      simp only [armed, decide_eq_true_eq]
    rw [hsessions, hturn] at heq
    rw [install_transfer]
    exact heq

end Sys2Proof.Machine
end

section
/-! SUPPORT. The blocks whose lists and counters have ranges of their own (R88, R125, R140, R180, R183 to R186): one predicate
for each block, and what each operation that writes one leaves of it. -/

namespace Sys2Proof.Machine

/-! ## The predicates -/

/-- The return's lists and counters are in range (R88). -/
def Return.inRange (r : Return) : Prop :=
  r.transit.length ≤ 6 ∧ (∀ b ∈ r.transit, b.age ≤ 300) ∧ ∀ n ∈ r.purgeCount, n ≤ 6

/-- The archive is within its capacity, and the serial in range (R125). -/
def Store.inRange (t : Store) : Prop :=
  t.archive.length ≤ 4 * (64 - t.share) ∧ 8 ≤ t.share ∧ t.share ≤ 48 ∧ 1 ≤ t.nextSerial ∧ t.nextSerial ≤ 65535

/-- A station time (00_scope 4.2). -/
def StationTime.inRange (k : StationTime) : Prop := k.day ≤ 6 ∧ k.second ≤ 86399

/-- The setup, the clock, the warm reset count and the pair address are in range (R183, R184). -/
def Control.inRange (c : Control) : Prop :=
  setupSound c.setup ∧ (∀ k ∈ c.clock, k.inRange) ∧ c.warmCount ≤ 255 ∧ ∀ p ∈ c.pair, 1 ≤ p ∧ p ≤ 60

/-- Every block but the session table and the transfer unit has its lists and counters in range. -/
structure State.blocksSound (s : State) : Prop where
  window : s.spacing.window.length ≤ 16
  ret : s.ret.inRange
  store : s.store.inRange
  ctl : s.ctl.inRange
  group : s.link.group ≤ 32

theorem lists_numbers_iff (s : State) :
    listsSound s ∧ numbersSound s ↔ s.blocksSound ∧ s.transfer.lastTag ≤ 255 ∧ 1 ≤ s.nextId ∧ s.nextId ≤ 255 := by
  constructor
  · rintro ⟨⟨hwindow, htransit, hages, hpurged, harchive, hlow, hhigh, hsetup⟩, hclock, hwarm, hgroup, hpair, htag, hid, hid',
      hserial, hserial'⟩
    exact ⟨⟨hwindow, ⟨htransit, hages, hpurged⟩, ⟨harchive, hlow, hhigh, hserial, hserial'⟩, ⟨hsetup, hclock, hwarm, hpair⟩,
      hgroup⟩, htag, hid, hid'⟩
  · rintro ⟨⟨hwindow, ⟨htransit, hages, hpurged⟩, ⟨harchive, hlow, hhigh, hserial, hserial'⟩, ⟨hsetup, hclock, hwarm, hpair⟩,
      hgroup⟩, htag, hid, hid'⟩
    exact ⟨⟨hwindow, htransit, hages, hpurged, harchive, hlow, hhigh, hsetup⟩, hclock, hwarm, hgroup, hpair, htag, hid, hid',
      hserial, hserial'⟩

/-- A counter that wraps stays in its range. -/
theorem wrapNext_range (bound n : Nat) (hbound : 1 ≤ bound) : 1 ≤ wrapNext bound n ∧ wrapNext bound n ≤ bound := by
  unfold wrapNext
  split <;> omega

/-! ## The window list (R140 to R148) -/

/-- The window list is within its capacity (R140). -/
def Spacing.inRange (u : Spacing) : Prop := u.window.length ≤ 16

@[simp] theorem Spacing.fillSlot_window (u : Spacing) : u.fillSlot.window = u.window := by
  unfold Spacing.fillSlot
  split <;> rfl

theorem Spacing.inRange.addEntry {u : Spacing} (h : u.inRange) (e : StartEntry) : (u.addEntry e).inRange := by
  unfold Spacing.inRange at h ⊢
  unfold Spacing.addEntry Config.windowCap
  dsimp only
  split
  · rw [List.length_append, List.length_drop, List.length_singleton]
    omega
  · rw [List.length_append, List.length_singleton]
    omega

section
variable {s : State}

theorem Spacing.inRange.of_window {u v : Spacing} (h : u.inRange) (hw : v.window = u.window) : v.inRange := by
  unfold Spacing.inRange
  rwa [hw]

theorem grant_inRange (h : s.spacing.inRange) (l : LaneId) : (grant l s).spacing.inRange := by simpa using h

/-- A grant with the spacing unit refilled after an entry joined the window list. -/
theorem grant_fillSlot_inRange (h : s.spacing.inRange) (l : LaneId) {e : StartEntry} {u : Spacing}
    (hu : u.window = (s.spacing.addEntry e).window) : (grant l (s.setSpacing u.fillSlot)).spacing.inRange :=
  grant_inRange (s := s.setSpacing u.fillSlot) ((h.addEntry e).of_window ((Spacing.fillSlot_window u).trans hu)) l

theorem madeStart_inRange (h : s.spacing.inRange) (n : Notice) : (madeStart n s).spacing.inRange := by
  unfold madeStart
  exact grant_fillSlot_inRange h _ rfl

theorem localStart_inRange (h : s.spacing.inRange) (r : StartRequest) : (localStart r s).spacing.inRange := by
  unfold localStart
  exact grant_fillSlot_inRange h _ rfl

theorem localGrants_inRange (k : Nat) (h : s.spacing.inRange) : (localGrants k s).spacing.inRange := by
  induction k generalizing s with
  | zero => exact h
  | succ k ih =>
    unfold localGrants
    split
    · split
      · exact ih (localStart_inRange h _)
      · exact h
    · exact h

theorem recheck_inRange (h : s.spacing.inRange) : (recheck s).spacing.inRange := by
  unfold recheck
  split
  · exact (localGrants_inRange 2 h).of_window rfl
  · exact h

/-- A spacing unit with the same window list, its slot filled and the check made. -/
theorem recheck_fillSlot_inRange (h : s.spacing.inRange) {u : Spacing} (hu : u.window = s.spacing.window) :
    (recheck (s.setSpacing u.fillSlot)).spacing.inRange :=
  recheck_inRange (s := s.setSpacing _) (h.of_window ((Spacing.fillSlot_window u).trans hu))

theorem enterSpacing_inRange (h : s.spacing.inRange) (l : LaneId) (n : NextPhase) : (enterSpacing l n s).spacing.inRange := by
  unfold enterSpacing requestStart
  dsimp only
  split
  · exact recheck_fillSlot_inRange (s := s.setSeq l _) h rfl
  · exact h

theorem withdrawStart_inRange (h : s.spacing.inRange) (l : LaneId) : (withdrawStart l s).spacing.inRange := by
  unfold withdrawStart
  dsimp only
  split
  · split
    · split
      · exact h
      · exact recheck_fillSlot_inRange h rfl
    · exact h
  · exact h

theorem leaveSpacing_inRange (h : s.spacing.inRange) (l : LaneId) : (leaveSpacing l s).spacing.inRange := by
  unfold leaveSpacing
  split
  · exact withdrawStart_inRange h l
  · exact h

theorem nextNotice_inRange (h : s.spacing.inRange) : (nextNotice s).spacing.inRange := recheck_fillSlot_inRange h rfl

theorem noticeSent_inRange (h : s.spacing.inRange) : (noticeSent s).spacing.inRange := by
  unfold noticeSent
  split
  · split
    · split
      · exact nextNotice_inRange (s := s.setSpacing _) (h.addEntry _)
      · exact recheck_inRange (madeStart_inRange h _)
    · exact h
  · exact h

theorem noticeLost_inRange (h : s.spacing.inRange) : (noticeLost s).spacing.inRange := by
  unfold noticeLost
  split
  · split
    · split
      · exact nextNotice_inRange h
      · dsimp only
        split
        · exact recheck_inRange (s := s.setSpacing _) h
        · exact h
    · exact h
  · exact h

theorem markUrgent_inRange (h : s.spacing.inRange) (l : LaneId) : (markUrgent l s).spacing.inRange := by
  unfold markUrgent
  split
  · exact h
  · exact h

theorem beginTx_inRange (h : s.spacing.inRange) : (beginTx s).spacing.inRange := by
  obtain ⟨-, ⟨hsame, -⟩, -⟩ := beginTx_quiet s
  rw [hsame]
  exact h

theorem beginTx_group (s : State) : (beginTx s).link.group = s.link.group := by
  obtain ⟨-, -, -, -, hgroup, -⟩ := beginTx_quiet s
  exact hgroup

end

/-! ## The return (R88 to R102) -/

theorem Return.inRange.of_same {r q : Return} (h : r.inRange) (ht : q.transit = r.transit) (hp : q.purgeCount = r.purgeCount) :
    q.inRange := by
  unfold Return.inRange
  rwa [ht, hp]

/-- The return's lists in another state, the purge count gone. -/
theorem Return.inRange.uncounted {r q : Return} (h : r.inRange) (ht : q.transit = r.transit) (hp : q.purgeCount = none) :
    q.inRange := by
  obtain ⟨hlength, hages, -⟩ := h
  unfold Return.inRange
  rw [ht, hp]
  exact ⟨hlength, hages, by simp⟩

theorem Return.inRange.toRunning {r : Return} (h : r.inRange) : r.toRunning.inRange := by
  unfold Return.toRunning
  split
  · exact h
  · exact h

theorem Return.inRange.liftTop {r : Return} (h : r.inRange) : r.liftTop.inRange := by
  unfold Return.liftTop
  split
  · exact h
  · rename_i b rest ht
    obtain ⟨hlength, hages, hcount⟩ := h
    rw [ht] at hlength hages
    have hrest : ({ r with transit := rest } : Return).inRange :=
      ⟨by simp at hlength; show rest.length ≤ 6; omega, fun b hb => hages b (List.mem_cons_of_mem _ hb), hcount⟩
    dsimp only
    split
    · exact hrest
    · exact hrest

theorem Return.inRange.rackChange {r : Return} (h : r.inRange) (a : Bool) : (r.rackChange a).inRange := by
  unfold Return.rackChange
  dsimp only
  split
  · exact h
  · exact Return.inRange.toRunning (r := { r with rackFull := false }) h
  · exact h

theorem Return.inRange.beginPurge {r : Return} (h : r.inRange) : r.beginPurge.inRange := h.uncounted rfl rfl

theorem Return.warm_inRange (r : Return) (o : Bool) : (r.warm o).inRange := by
  unfold Return.warm
  dsimp only
  split <;> simp [Return.inRange, Return.beginPurge]

theorem Return.powerOn_inRange (f : Bool) : (Return.powerOn f).inRange := by simp [Return.inRange, Return.powerOn]

theorem Return.inRange.tick {r : Return} (h : r.inRange) {limit : Nat} (hlimit : limit ≤ 30) : (r.tick limit).inRange := by
  obtain ⟨hlength, hages, hcount⟩ := h
  unfold Return.tick
  refine ⟨?_, ?_, hcount⟩
  · dsimp only
    cases ht : r.transit with
    | nil => split <;> simp [ageHead]
    | cons b rest =>
      rw [ht] at hlength
      split
      · exact hlength
      · exact hlength
  · dsimp only
    cases ht : r.transit with
    | nil => split <;> simp [ageHead]
    | cons b rest =>
      rw [ht] at hages
      obtain ⟨hb, hrest⟩ := List.forall_mem_cons.1 hages
      split
      · refine List.forall_mem_cons.2 ⟨?_, hrest⟩
        dsimp only
        split <;> omega
      · exact hages

section
variable {s : State}

/-- A ball joins the transit list when there is room (R89). -/
theorem Return.inRange.addBall {r : Return} (h : r.inRange) (hroom : r.transit.length < Config.transitCap) (l : LaneId)
    (n : Option Nat) : ({ r with transit := r.transit ++ [{ origin := l, arrival := n, age := 0 }] } : Return).inRange := by
  obtain ⟨hlength, hages, hcount⟩ := h
  unfold Config.transitCap at hroom
  exact ⟨by rw [List.length_append, List.length_singleton]; omega, List.forall_mem_append.2 ⟨hages, by simp⟩, hcount⟩

/-- The return once a purge has ended (R98). -/
theorem Return.inRange.purged {r : Return} (h : r.inRange) : ({ r with
    state := .idle, transit := [], purgeCount := some r.transit.length, purge := none, pend := none } : Return).inRange :=
  ⟨by simp, by simp, by simpa using h.1⟩

theorem transitOverdue_inRange (h : s.ret.inRange) {b : BallRecord} {rest : List BallRecord} (ht : s.ret.transit = b :: rest) :
    ({ s.ret with transit := { b with age := overdueAge s.ctl.setup.transit b.age } :: rest } : Return).inRange := by
  obtain ⟨hlength, hages, hcount⟩ := h
  rw [ht] at hlength hages
  obtain ⟨-, hrest⟩ := List.forall_mem_cons.1 hages
  exact ⟨hlength, List.forall_mem_cons.2 ⟨Nat.min_le_left _ _, hrest⟩, hcount⟩

end

/-! ## The record store (R125 to R137) -/

theorem Store.inRange.of_same {t u : Store} (h : t.inRange) (hs : u.share = t.share) (ha : u.archive = t.archive)
    (hn : u.nextSerial = t.nextSerial) : u.inRange := by
  unfold Store.inRange
  rwa [hs, ha, hn]

theorem Store.inRange.cleared {t u : Store} (h : t.inRange) (hs : u.share = t.share) (ha : u.archive = [])
    (hn : u.nextSerial = t.nextSerial) : u.inRange := by
  obtain ⟨-, hlow, hhigh, hserial⟩ := h
  unfold Store.inRange
  rw [hs, ha, hn]
  exact ⟨Nat.zero_le _, hlow, hhigh, hserial⟩

theorem archiveGame_inRange {s : State} (h : s.store.inRange) (i : Nat) (b : BallLane) (g : Game) (c : Bool) :
    (archiveGame i b g c s).store.inRange := by
  obtain ⟨harchive, hlow, hhigh, -, -⟩ := h
  obtain ⟨hserial, hserial'⟩ := wrapNext_range 65535 s.store.nextSerial (by decide)
  refine ⟨?_, hlow, hhigh, hserial, hserial'⟩
  unfold archiveGame Store.archiveCap Config.storeBlocks
  dsimp only [State.setStore]
  split
  · rw [List.length_append, List.length_drop, List.length_singleton]
    omega
  · rw [List.length_append, List.length_singleton]
    omega

theorem Store.inRange.release {t : Store} (h : t.inRange) (q : Nat) : (t.release q).1.inRange := by
  unfold Store.release
  split
  · dsimp only
    split
    · exact h
    · exact h
  · exact h

theorem Store.inRange.layoutCheck {t : Store} (h : t.inRange) {n : Nat} (hlow : 8 ≤ n) (hhigh : n ≤ 48) :
    (t.layoutCheck n).inRange := by
  obtain ⟨harchive, hlow', hhigh', hserial⟩ := h
  unfold Store.layoutCheck
  split
  · exact ⟨harchive, hlow', hhigh', hserial⟩
  · split
    · exact ⟨Nat.zero_le _, hlow, hhigh, hserial⟩
    · exact ⟨harchive, hlow', hhigh', hserial⟩

theorem Store.lost_inRange : Store.lost.inRange := by
  unfold Store.inRange Store.lost
  decide

/-! ## Station control (R183 to R188) -/

theorem Control.inRange.of_same {c d : Control} (h : c.inRange) (hs : d.setup = c.setup) (hk : d.clock = c.clock)
    (hw : d.warmCount = c.warmCount) (hp : d.pair = c.pair) : d.inRange := by
  unfold Control.inRange
  rwa [hs, hk, hw, hp]

theorem StationTime.inRange.next {k : StationTime} (h : k.inRange) : k.next.inRange := by
  obtain ⟨hday, hsecond⟩ := h
  unfold StationTime.next
  split
  · dsimp only [StationTime.inRange]
    split <;> omega
  · dsimp only [StationTime.inRange]
    omega

theorem byteAt_le {bs : List Byte} {i n : Nat} (h : byteAt bs i = some n) : n ≤ 255 := by
  obtain ⟨b, -, rfl⟩ := Option.map_eq_some_iff.1 h
  have := b.isLt
  omega

theorem bigEndian_lt (bs : List Byte) : bigEndian bs < 256 ^ bs.length := by
  have hfold (bs : List Byte) (a : Nat) :
      bs.foldl (fun n b => n * 256 + b.toNat) a < (a + 1) * 256 ^ bs.length := by
    induction bs generalizing a with
    | nil => simp
    | cons b bs ih =>
      have hb := b.isLt
      calc bs.foldl (fun n b => n * 256 + b.toNat) (a * 256 + b.toNat)
          < (a * 256 + b.toNat + 1) * 256 ^ bs.length := ih _
        _ ≤ ((a + 1) * 256) * 256 ^ bs.length := Nat.mul_le_mul_right _ (by omega)
        _ = (a + 1) * 256 ^ (bs.length + 1) := by rw [Nat.pow_succ, Nat.mul_assoc, Nat.mul_comm 256]
  simpa [bigEndian] using hfold bs 0

theorem numAt_lt {bs : List Byte} {i k n : Nat} (h : numAt bs i k = some n) : n < 256 ^ k := by
  unfold numAt at h
  split at h
  · cases h
    have hlen : ((bs.drop i).take k).length = k := by
      rw [List.length_take, List.length_drop]
      omega
    simpa only [hlen] using bigEndian_lt ((bs.drop i).take k)
  · cases h

theorem parseTime_inRange {bs : List Byte} {k : StationTime} (h : parseTime bs = some k) : k.inRange := by
  unfold parseTime at h
  simp only [Option.bind_eq_bind, Option.bind_eq_some_iff, Option.pure_def] at h
  obtain ⟨day, -, second, -, h⟩ := h
  split at h
  · cases h
    assumption
  · cases h

theorem clamp_range {lo hi : Nat} (h : lo ≤ hi) (n : Nat) : lo ≤ clamp lo hi n ∧ clamp lo hi n ≤ hi := by
  unfold clamp
  omega

theorem parseSetup_sound {bs : List Byte} {u : Setup} (h : parseSetup bs = some u) : setupSound u := by
  unfold parseSetup at h
  simp only [Option.bind_eq_bind, Option.bind_eq_some_iff, Option.pure_def, Option.some.injEq] at h
  obtain ⟨spacing, -, window, -, settle, -, transit, -, share, -, low, hlow, strain, hstrain, stall, hstall, rfl⟩ := h
  have hlow' := numAt_lt hlow
  have hstrain' := byteAt_le hstrain
  have hstall' := byteAt_le hstall
  obtain ⟨h1, h2⟩ := clamp_range (lo := 1) (hi := 8) (by decide) spacing
  obtain ⟨h3, h4⟩ := clamp_range (lo := 5) (hi := 50) (by decide) window
  obtain ⟨h5, h6⟩ := clamp_range (lo := 5) (hi := 40) (by decide) settle
  obtain ⟨h7, h8⟩ := clamp_range (lo := 4) (hi := 30) (by decide) transit
  obtain ⟨h9, h10⟩ := clamp_range (lo := 8) (hi := 48) (by decide) share
  refine ⟨h1, h2, h3, h4, h5, h6, h7, h8, h9, h10, Nat.le_of_lt_succ hlow', hstrain', ?_, ?_⟩
  · dsimp only
    split <;> omega
  · dsimp only
    split <;> omega

theorem Setup.builtIn_sound : setupSound Setup.builtIn := by
  unfold setupSound Setup.builtIn
  decide

theorem strapPair_range {n p : Nat} (h : strapPair n = some p) : 1 ≤ p ∧ p ≤ 60 := by
  unfold strapPair at h
  split at h
  · cases h
    assumption
  · cases h

/-! ## All of them -/

theorem State.blocksSound.of_same {s t : State} (h : s.blocksSound) (hw : t.spacing.window = s.spacing.window)
    (hr : t.ret = s.ret) (hs : t.store = s.store) (hc : t.ctl = s.ctl) (hg : t.link.group = s.link.group) :
    t.blocksSound :=
  ⟨hw ▸ h.window, hr ▸ h.ret, hs ▸ h.store, hc ▸ h.ctl, hg ▸ h.group⟩

end Sys2Proof.Machine
end

section
/-! SUPPORT. What the operations of the session table, of the lane sequencer and of the source side leave of the table's size
and of the blocks' ranges: no record joins, and none changes its id, its bowler count or the length of its bowler list. -/

namespace Sys2Proof.Machine

/-! ## Records that play on -/

/-- The record y is x but for its turn, its index and its bowlers, of whom there are as many. -/
def Session.playsOn (x y : Session) : Prop :=
  y = { x with bowlers := y.bowlers, turn := y.turn, current := y.current } ∧ y.bowlers.length = x.bowlers.length

theorem Session.playsOn.trans {x y z : Session} (h : x.playsOn y) (h' : y.playsOn z) : x.playsOn z := by
  obtain ⟨hy, hlen⟩ := h
  obtain ⟨hz, hlen'⟩ := h'
  exact ⟨by rw [hz, hy], hlen'.trans hlen⟩

theorem Session.modifyBowler_playsOn (x : Session) (i : Nat) (f : Bowler → Bowler) : x.playsOn (x.modifyBowler i f) := by
  unfold Session.modifyBowler
  split
  · exact ⟨rfl, rfl⟩
  · exact ⟨rfl, List.length_modify ..⟩

theorem Session.modifyGame_playsOn (x : Session) (i : Nat) (f : Game → Game) : x.playsOn (x.modifyGame i f) :=
  x.modifyBowler_playsOn i _

theorem Session.playsOn.withTurn {x y : Session} (h : x.playsOn y) (t : Turn) : x.playsOn { y with turn := t } := by
  obtain ⟨hy, hlen⟩ := h
  exact ⟨by rw [hy], hlen⟩

theorem Session.choose_playsOn (x : Session) : x.playsOn x.choose.1 := by
  have hlen (k f i : Nat) : (x.bowlers.take k ++ (passOver f i (x.bowlers.drop k)).1).length = x.bowlers.length := by
    rw [passOver_eq, List.length_append]
    simp only [blanks, List.length_mapIdx, List.length_take, List.length_drop]
    omega
  unfold Session.choose
  dsimp only
  split
  · exact ⟨rfl, rfl⟩
  · split
    · exact ⟨rfl, hlen _ _ _⟩
    · exact ⟨rfl, hlen _ _ _⟩

theorem Session.truncate_playsOn (x : Session) (i : Nat) : x.playsOn (x.truncate i) := by
  unfold Session.truncate
  split
  · exact ⟨rfl, rfl⟩
  · split
    · exact ⟨rfl, rfl⟩
    · exact (x.modifyGame_playsOn i _).withTurn .ended

/-! ## Entries of the table -/

/-- What the session table's own bounds read of a record (R65). -/
def Session.entry (x : Session) : Nat × Nat × Nat := (x.id, x.size, x.bowlers.length)

/-- What the table's bounds read of an offer taken: its lane, its bowler count, and how many bowlers it has parts of (R154). -/
def TransferRec.held : TransferRec → Option (LaneId × Nat × Nat)
  | .target _ _ _ o parts _ _ => some (o.lane, o.size, parts.length)
  | _ => none

/-- Nothing joins the session table, no offer is taken, and the blocks stay in range. -/
structure State.shrinks (s t : State) : Prop where
  blocks : s.blocksSound → t.blocksSound
  nextId : t.nextId = s.nextId
  tag : s.transfer.lastTag ≤ 255 → t.transfer.lastTag ≤ 255
  held : t.transfer.record.held = none ∨ t.transfer.record.held = s.transfer.record.held
  entries : (s.sessions.map (·.id)).Nodup → (t.sessions.map Session.entry).Sublist (s.sessions.map Session.entry)

theorem Session.playsOn.entry {x y : Session} (h : x.playsOn y) : y.entry = x.entry := by
  obtain ⟨hy, hlen⟩ := h
  unfold Session.entry
  rw [hlen, hy]

theorem Session.startGame_entry (n : Nat) (x : Session) : (x.startGame n).entry = x.entry := by
  simp [Session.entry, Session.startGame]

theorem Session.countGames_entry (x : Session) : x.countGames.entry = x.entry := by
  simp [Session.entry, Session.countGames]

theorem map_entry_ids (xs : List Session) : (xs.map Session.entry).map (·.1) = xs.map (·.id) := by
  rw [List.map_map]
  rfl

theorem reserved_eq (s : State) : s.reserved = s.transfer.record.held.map (·.1) := by
  unfold State.reserved
  cases s.transfer.record <;> rfl

section
variable {s t u : State}

theorem State.shrinks.refl (s : State) : s.shrinks s := ⟨fun h => h, rfl, fun h => h, .inr rfl, fun _ => List.Sublist.refl _⟩

theorem State.shrinks.trans (h : s.shrinks t) (h' : t.shrinks u) : s.shrinks u where
  blocks hs := h'.blocks (h.blocks hs)
  nextId := h'.nextId.trans h.nextId
  tag hs := h'.tag (h.tag hs)
  held := h'.held.elim .inl fun he => he ▸ h.held
  entries hs := by
    have ht := h.entries hs
    refine (h'.entries ?_).trans ht
    rw [← map_entry_ids] at hs ⊢
    exact (ht.map _).nodup hs

theorem State.shrinks.of_blocks (hb : s.blocksSound → t.blocksSound) (hs : t.sessions = s.sessions)
    (ht : t.transfer = s.transfer) (hn : t.nextId = s.nextId) : s.shrinks t :=
  ⟨hb, hn, ht ▸ id, .inr (by rw [ht]), fun _ => hs ▸ List.Sublist.refl _⟩

theorem State.shrinks.of_same (hw : t.spacing = s.spacing) (hr : t.ret = s.ret) (hb : t.store = s.store) (hc : t.ctl = s.ctl)
    (hg : t.link.group = s.link.group) (hs : t.sessions = s.sessions) (ht : t.transfer = s.transfer)
    (hn : t.nextId = s.nextId) : s.shrinks t :=
  .of_blocks (fun h => h.of_same (congrArg _ hw) hr hb hc hg) hs ht hn

/-- Another store, in range. -/
theorem setStore_shrinks {b : Store} (hb : s.store.inRange → b.inRange) : s.shrinks (s.setStore b) :=
  .of_blocks (fun h => ⟨h.window, h.ret, hb h.store, h.ctl, h.group⟩) rfl rfl rfl

theorem setSeq_shrinks (s : State) (l : LaneId) (q : Sequencer) : s.shrinks (s.setSeq l q) :=
  .of_same rfl rfl rfl rfl rfl rfl rfl rfl

theorem setMeter_shrinks (s : State) (l : LaneId) (m : Meter) : s.shrinks (s.setMeter l m) :=
  .of_same rfl rfl rfl rfl rfl rfl rfl rfl

theorem setFree_shrinks (s : State) (n : Nat) : s.shrinks (s.setFree n) := .of_same rfl rfl rfl rfl rfl rfl rfl rfl

theorem send_shrinks (d : Nat) (k : FrameMark) (p : Payload) (s : State) : s.shrinks (send d k p s) :=
  .of_same (by simp) (by simp) (by simp) (by simp) (by rw [send_link]) (by simp) (by simp) (by simp)

@[simp] theorem putSession_ids (y : Session) (s : State) : (putSession y s).sessions.map (·.id) = s.sessions.map (·.id) := by
  show (s.sessions.map _).map _ = _
  rw [List.map_map]
  refine List.map_congr_left fun z _ => ?_
  show (if z.id = y.id then y else z).id = z.id
  split
  · exact Eq.symm ‹_›
  · rfl

/-- A record of the table is replaced by one with its entry. -/
theorem putSession_entries {y : Session} (hnodup : (s.sessions.map (·.id)).Nodup)
    (h : y.entry ∈ s.sessions.map Session.entry) :
    (putSession y s).sessions.map Session.entry = s.sessions.map Session.entry := by
  obtain ⟨x, hx, hentry⟩ := List.mem_map.1 h
  have hid : x.id = y.id := congrArg (·.1) hentry
  show (s.sessions.map _).map _ = _
  rw [List.map_map]
  refine List.map_congr_left fun z hz => ?_
  show (if z.id = y.id then y else z).entry = z.entry
  split
  · rename_i hzid
    rw [List.inj_on_of_nodup_map hnodup hz hx (hzid.trans hid.symm), hentry]
  · rfl

theorem putEntry_shrinks {y : Session} (h : (s.sessions.map (·.id)).Nodup → y.entry ∈ s.sessions.map Session.entry) :
    s.shrinks (putSession y s) where
  blocks hs := hs.of_same rfl rfl rfl rfl rfl
  nextId := rfl
  tag hs := hs
  held := .inr rfl
  entries hnodup := (putSession_entries hnodup (h hnodup)) ▸ List.Sublist.refl _

theorem entry_mem {id : Nat} {x : Session} (hx : s.session? id = some x) : x.entry ∈ s.sessions.map Session.entry :=
  List.mem_map_of_mem (List.mem_of_find?_eq_some hx)

theorem putSession_shrinks {id : Nat} {x y : Session} (hx : s.session? id = some x) (h : y.entry = x.entry) :
    s.shrinks (putSession y s) := putEntry_shrinks fun _ => h ▸ entry_mem hx

theorem dropSession_shrinks (id : Nat) (s : State) : s.shrinks (dropSession id s) where
  blocks hs := hs.of_same rfl rfl rfl rfl rfl
  nextId := rfl
  tag hs := hs
  held := .inr rfl
  entries _ := List.filter_sublist.map _

theorem foldl_shrinks {α : Type} {f : State → α → State} (hf : ∀ (u : State) (a : α), u.shrinks (f u a)) (as : List α) (s : State) :
    s.shrinks (as.foldl f s) := by
  induction as generalizing s with
  | nil => exact .refl s
  | cons a as ih => exact (hf s a).trans (ih _)

end

/-! ## Games handed over (R73, R80, R135) -/

theorem archiveGame_shrinks (i : Nat) (b : BallLane) (g : Game) (c : Bool) (s : State) :
    s.shrinks (archiveGame i b g c s) := setStore_shrinks fun h => archiveGame_inRange h i b g c

theorem archiveAll_shrinks (i : Nat) (bs : List Bowler) (s : State) : s.shrinks (archiveAll i bs s) := by
  refine foldl_shrinks (fun u b => ?_) bs s
  split
  · exact archiveGame_shrinks _ _ _ _ u
  · exact .refl u

theorem handOverAll_shrinks (i : Nat) (bs : List Bowler) (s : State) : s.shrinks (handOverAll i bs s) := by
  refine foldl_shrinks (fun u b => ?_) bs s
  unfold handOver
  split
  · exact .refl u
  · split
    · exact archiveGame_shrinks _ _ _ _ u
    · split
      · exact .refl u
      · exact archiveGame_shrinks _ _ _ _ u

theorem appendEntry_shrinks (l : LaneId) (b : JournalBody) (s : State) : s.shrinks (appendEntry l b s) :=
  setStore_shrinks fun h => h

/-! ## Turn order (R76 to R80) -/

theorem archiveAll_session? (i : Nat) (bs : List Bowler) (s : State) (id : Nat) :
    (archiveAll i bs s).session? id = s.session? id := by
  unfold State.session?
  simp

theorem gameEnd_shrinks (id : Nat) (s : State) : s.shrinks (gameEnd id s) := by
  unfold gameEnd
  split
  · exact .refl s
  · rename_i x hx
    refine (archiveAll_shrinks id x.bowlers s).trans ?_
    dsimp only
    split
    · exact dropSession_shrinks id _
    · refine putSession_shrinks (x := x) (id := id) (by rwa [archiveAll_session?]) ?_
      rw [Session.startGame_entry, Session.countGames_entry]

theorem selectFresh_shrinks (id : Nat) (s : State) : s.shrinks (selectFresh id s).1 := by
  unfold selectFresh
  split
  · exact .refl s
  · rename_i x hx
    have hy := x.choose_playsOn.entry
    split
    all_goals rename_i hc; rw [hc] at hy
    · exact putSession_shrinks hx hy
    · exact putSession_shrinks hx hy
    · split
      · exact putSession_shrinks hx hy
      · exact putSession_shrinks hx hy

theorem nextFrame_shrinks (id f : Nat) (s : State) : s.shrinks (nextFrame id f s).1 := by
  unfold nextFrame
  split
  · exact (gameEnd_shrinks id s).trans (selectFresh_shrinks id _)
  · split
    · exact .refl s
    · rename_i x hx
      exact (putSession_shrinks (y := x.enterFrame (f + 1)) hx rfl).trans (selectFresh_shrinks id _)

theorem selectBoth_shrinks (a b : Nat) (s : State) : s.shrinks (selectBoth a b s).1 :=
  (selectFresh_shrinks a s).trans (selectFresh_shrinks b _)

theorem clearCross_shrinks (id : Nat) (s : State) : s.shrinks (clearCross id s) := by
  unfold clearCross
  split
  · exact .refl s
  · rename_i x hx
    exact putSession_shrinks hx rfl

theorem bothGameEnds_shrinks (a b : Nat) (s : State) : s.shrinks (bothGameEnds a b s) := by
  have hends : s.shrinks (if Config.freeRunFirst s.free then gameEnd b (gameEnd a (s.setFree (s.free + 1)))
      else gameEnd a (gameEnd b (s.setFree (s.free + 1)))) := by
    refine (setFree_shrinks s (s.free + 1)).trans ?_
    split
    · exact (gameEnd_shrinks a _).trans (gameEnd_shrinks b _)
    · exact (gameEnd_shrinks b _).trans (gameEnd_shrinks a _)
  unfold bothGameEnds
  dsimp only
  split
  · exact hends.trans (clearCross_shrinks a _)
  · exact hends.trans (clearCross_shrinks b _)
  · exact hends

/-- Two records of the table are replaced by ones with their entries. -/
theorem putBoth_shrinks {s : State} {x y x' y' : Session} (hx : x ∈ s.sessions) (hy : y ∈ s.sessions) (hx' : x'.entry = x.entry)
    (hy' : y'.entry = y.entry) : s.shrinks (putSession y' (putSession x' s)) :=
  (putEntry_shrinks fun _ => hx' ▸ List.mem_map_of_mem hx).trans (putEntry_shrinks fun hnodup => by
    rw [putSession_ids] at hnodup
    rw [putSession_entries hnodup (hx' ▸ List.mem_map_of_mem hx), hy']
    exact List.mem_map_of_mem hy)

theorem passBarrier_shrinks {s : State} {x y : Session} (hx : x ∈ s.sessions) (hy : y ∈ s.sessions) (b : Barrier) :
    s.shrinks (passBarrier x y b s).1 := by
  unfold passBarrier
  split
  · exact (putBoth_shrinks hx hy (Session.startGame_entry 1 x) (Session.startGame_entry 1 y)).trans
      (selectBoth_shrinks _ _ _)
  · split
    · exact (bothGameEnds_shrinks _ _ s).trans (selectBoth_shrinks _ _ _)
    · exact (putBoth_shrinks hx hy (by rfl) (by rfl)).trans (selectBoth_shrinks _ _ _)

theorem barrierTest_shrinks (id : Nat) (s : State) : s.shrinks (barrierTest id s).1 := by
  unfold barrierTest
  split
  · exact .refl s
  · rename_i x hx
    split
    · rename_i b y _ hy
      have hx' := List.mem_of_find?_eq_some hx
      have hy' := List.mem_of_find?_eq_some hy
      split
      · split
        · exact passBarrier_shrinks hx' hy' b
        · exact passBarrier_shrinks hy' hx' b
      · exact .refl s
    · exact .refl s

theorem selectTurn_shrinks (id : Nat) (s : State) : s.shrinks (selectTurn id s).1 := by
  unfold selectTurn
  split
  · exact .refl s
  · rename_i x hx
    have hy := x.choose_playsOn.entry
    split
    all_goals rename_i hc; rw [hc] at hy
    · exact putSession_shrinks hx hy
    · exact putSession_shrinks hx hy
    · rename_i y
      dsimp only
      split
      · exact (putSession_shrinks (y := { y with state := .waitPartner _ }) hx hy).trans (barrierTest_shrinks id _)
      · exact (putSession_shrinks hx hy).trans (nextFrame_shrinks id _ _)

theorem uncross_shrinks (id : Nat) (s : State) : s.shrinks (uncross id s).1 := by
  unfold uncross
  split
  · exact .refl s
  · rename_i x hx
    have hput : s.shrinks (putSession { x with cross := false } s) := putSession_shrinks hx rfl
    split
    · exact (putSession_shrinks hx (by exact Session.startGame_entry 1 _)).trans (selectFresh_shrinks id _)
    · exact hput.trans (nextFrame_shrinks id _ _)
    · exact hput

/-! ## Turn starts (R81, R115, R116) -/

theorem writeMeter_shrinks (l : LaneId) (m : Meter) (s : State) : s.shrinks (writeMeter l m s) := by
  unfold writeMeter
  dsimp only
  split
  · exact (setMeter_shrinks s l m).trans (send_shrinks _ _ _ _)
  · exact setMeter_shrinks s l m

theorem addReason_shrinks (r : HoldReason) (l : LaneId) (s : State) : s.shrinks (addReason r l s) := by
  unfold addReason
  dsimp only
  split
  · exact setSeq_shrinks s l _
  · exact setSeq_shrinks s l _

theorem makeCharge_shrinks {s : State} {x : Session} {id : Nat} (hx : s.session? id = some x) (l : LaneId)
    (i n b c a : Nat) : s.shrinks (makeCharge l x i n b c a s) := by
  unfold makeCharge
  refine ((writeMeter_shrinks l _ s).trans (appendEntry_shrinks l _ _)).trans (putSession_shrinks (id := id) (x := x) ?_ ?_)
  · unfold State.session? at hx ⊢
    simpa using hx
  · exact (x.modifyGame_playsOn i _).entry

theorem admission_shrinks {s : State} {x : Session} {id : Nat} (hx : s.session? id = some x) (l : LaneId) (i : Nat) (g : Game)
    (p : GamePos) : s.shrinks (admission l x i g p s).2 := by
  have hpass (u : State) (hu : s.shrinks u) : s.shrinks (u.setMeter l { u.meter l with wait := none }) :=
    hu.trans (setMeter_shrinks u l _)
  have hhold (w : AdmissionWait) : s.shrinks (holdTurn l w s) := (setMeter_shrinks s l _).trans (addReason_shrinks _ l _)
  unfold admission
  dsimp only
  split
  · exact hpass s (.refl s)
  · split
    · exact hhold _
    · exact hpass s (.refl s)
  · split
    · split
      · exact hhold _
      · split
        · exact hhold _
        · exact hpass _ (makeCharge_shrinks hx l _ _ _ _ _)
    · exact hpass s (.refl s)

theorem startTurn_shrinks (l : LaneId) (id : Nat) (s : State) : s.shrinks (startTurn l id s) := by
  unfold startTurn
  split
  · exact .refl s
  · rename_i x hx
    split
    · split
      · rename_i p i _ _ _ _ g _
        have ha := admission_shrinks hx l i g p
        dsimp only
        split
        · split
          · refine State.shrinks.trans (State.shrinks.trans (ha.trans ?_) (setSeq_shrinks _ l _)) (send_shrinks _ _ _ _)
            split
            · rename_i y hy
              exact putSession_shrinks hy rfl
            · exact .refl _
          · exact ha.trans (send_shrinks _ _ _ _)
        · exact .refl s
      · exact .refl s
    · exact .refl s

theorem startTurns_shrinks (r : State × List Nat) : r.1.shrinks (startTurns r) :=
  (foldl_shrinks (fun u id => startTurn_shrinks .A id u) r.2 r.1).trans (foldl_shrinks (fun u id => startTurn_shrinks .B id u) _ _)

/-! ## Frame ends, reads and offers (R53, R58, R156) -/

theorem truncateCurrent_shrinks (id : Nat) (s : State) : s.shrinks (truncateCurrent id s) := by
  unfold truncateCurrent
  split
  · exact .refl s
  · rename_i x hx
    split
    · exact .refl s
    · exact putSession_shrinks hx (x.truncate_playsOn _).entry

/-- Another transfer record that is no offer taken, under a tag in range. -/
theorem setTransfer_shrinks {s : State} {r : Transfer} (ht : s.transfer.lastTag ≤ 255 → r.lastTag ≤ 255)
    (hr : r.record.held = none ∨ r.record.held = s.transfer.record.held) : s.shrinks (s.setTransfer r) where
  blocks hs := hs.of_same rfl rfl rfl rfl rfl
  nextId := rfl
  tag := ht
  held := hr
  entries _ := List.Sublist.refl _

theorem startOffer_shrinks (id : Nat) (s : State) : s.shrinks (startOffer id s) := by
  unfold startOffer
  split
  · rename_i x _ _ _ _ _ _ _ hx _
    refine State.shrinks.trans (State.shrinks.trans (putSession_shrinks hx ?_) (setTransfer_shrinks (fun _ => ?_) (.inl ?_)))
      (send_shrinks _ _ _ _)
    · rfl
    · exact (wrapNext_range 255 _ (by decide)).2
    · rfl
  · exact .refl s

/-! ## The entry into ARMED (R1, R87) -/

theorem freshBowler_shrinks (x : Session) (s : State) : s.shrinks (freshBowler x s) := by
  unfold freshBowler
  split
  · exact setSeq_shrinks s _ _
  · exact .refl s

theorem resumeOn_shrinks (l : LaneId) (s : State) : s.shrinks (resumeOn l s).1.1 := by
  unfold resumeOn
  split
  · exact .refl s
  · rename_i x hx
    have hput {y : Session} (hy : y.entry = x.entry) : s.shrinks (putSession y s) :=
      putEntry_shrinks fun _ => hy ▸ List.mem_map_of_mem (List.mem_of_find?_eq_some hx)
    split
    · exact hput rfl
    · have hcut (i : Nat) : s.shrinks (putSession (Session.truncate { x with state := .playing } i) s) :=
        hput (Session.truncate_playsOn _ i).entry
      dsimp only
      split
      · split
        · exact (hcut _).trans (freshBowler_shrinks _ _)
        · exact State.shrinks.trans (hput (by rfl)) (freshBowler_shrinks _ _)
      · split
        · exact hcut _
        · exact hput rfl
    · rename_i b _
      have hwait : s.shrinks (putSession { x with state := .waitPartner b } s) := hput rfl
      dsimp only
      split
      · exact hwait.trans (barrierTest_shrinks _ _)
      · exact hwait.trans (uncross_shrinks _ _)
    · exact .refl s

theorem armedTurn_shrinks (l : LaneId) (s : State) (id : Nat) : s.shrinks (armedTurn l s id) := by
  unfold armedTurn
  split
  · exact .refl s
  · rename_i x hx
    split
    · split
      · exact ((putSession_shrinks (y := { x with turn := .none }) hx rfl).trans (selectTurn_shrinks id _)).trans
          (startTurns_shrinks _)
      · exact startOffer_shrinks id s
      · exact startTurn_shrinks l id s
      · exact .refl s
    · exact .refl s

theorem armedReport_shrinks (l : LaneId) (s : State) : s.shrinks (armedReport l s) := by
  have hfold : s.shrinks (((startTurns (resumeOn l s).1).sessions.map (·.id)).foldl (armedTurn l)
      (startTurns (resumeOn l s).1)) :=
    ((resumeOn_shrinks l s).trans (startTurns_shrinks _)).trans (foldl_shrinks (fun u id => armedTurn_shrinks l u id) _ _)
  unfold armedReport
  dsimp only
  split
  · exact (hfold.trans (selectTurn_shrinks _ _)).trans (startTurns_shrinks _)
  · exact hfold

theorem enterArmed_shrinks (l : LaneId) (s : State) : s.shrinks (enterArmed l s) :=
  (setSeq_shrinks s l _).trans (armedReport_shrinks l _)

theorem enterSpacing_shrinks (l : LaneId) (n : NextPhase) (s : State) : s.shrinks (enterSpacing l n s) :=
  .of_blocks (fun h => ⟨enterSpacing_inRange h.window l n, by simpa using h.ret, by simpa using h.store, by simpa using h.ctl,
    by simpa using h.group⟩) (by simp) (by simp) (by simp)

theorem testHeld_shrinks (l : LaneId) (s : State) : s.shrinks (testHeld l s) := by
  unfold testHeld
  split
  · split
    · exact .refl s
    · split
      · exact enterSpacing_shrinks l _ s
      · exact enterArmed_shrinks l s
  · exact .refl s

theorem dropReasons_shrinks (l : LaneId) (f : HoldSet → HoldSet) (s : State) : s.shrinks (dropReasons l f s) :=
  (setSeq_shrinks s l _).trans (testHeld_shrinks l _)

theorem meterTold_shrinks (l : LaneId) (s : State) : s.shrinks (meterTold l s) := by
  unfold meterTold
  exact (setMeter_shrinks s l _).trans (dropReasons_shrinks l _ _)

/-! ## Removals and moves (R73, R121, R156, R163) -/

theorem withdrawTurn_shrinks (x : Session) (s : State) : s.shrinks (withdrawTurn x s) := by
  unfold withdrawTurn
  split
  · exact meterTold_shrinks _ s
  · exact .refl s

theorem takeOut_shrinks (x : Session) (s : State) : s.shrinks (takeOut x s) :=
  (handOverAll_shrinks _ _ s).trans (dropSession_shrinks _ _)

theorem removeSession_shrinks (id : Nat) (s : State) : s.shrinks (removeSession id s) := by
  unfold removeSession
  split
  · exact .refl s
  · rename_i x _
    have hout : s.shrinks (withdrawTurn x (takeOut x s)) := (takeOut_shrinks x s).trans (withdrawTurn_shrinks x _)
    dsimp only
    split
    · exact (hout.trans (uncross_shrinks _ _)).trans (startTurns_shrinks _)
    · exact hout

theorem removeUsers_shrinks (l : LaneId) (s : State) : s.shrinks (removeUsers l s) := by
  unfold removeUsers
  split
  · exact .refl s
  · exact (takeOut_shrinks _ s).trans (withdrawTurn_shrinks _ _)
  · dsimp only
    refine State.shrinks.trans (State.shrinks.trans ((setFree_shrinks s (s.free + 1)).trans ?_) (withdrawTurn_shrinks _ _))
      (withdrawTurn_shrinks _ _)
    split
    · exact (takeOut_shrinks _ _).trans (takeOut_shrinks _ _)
    · exact (takeOut_shrinks _ _).trans (takeOut_shrinks _ _)

theorem transferIdle_shrinks (s : State) : s.shrinks (transferIdle s) := setTransfer_shrinks (fun h => h) (.inl rfl)

theorem backToPlaying_shrinks (id : Nat) (s : State) : s.shrinks (backToPlaying id s) := by
  unfold backToPlaying
  split
  · rename_i x hx
    exact ((putSession_shrinks (y := { x with state := .playing }) hx rfl).trans (selectTurn_shrinks id _)).trans
      (startTurns_shrinks _)
  · exact .refl s

theorem startTransfer_shrinks (id : Nat) (s : State) : s.shrinks (startTransfer id s) := by
  unfold startTransfer
  split
  · exact .refl s
  · rename_i x hx
    have hoffer (c : Option Nat) : s.shrinks (startOffer id (putSession { x with turn := .none, current := c } s)) :=
      (putSession_shrinks hx (by rfl)).trans (startOffer_shrinks id _)
    dsimp only
    split
    · split
      · exact (hoffer _).trans (meterTold_shrinks _ _)
      · exact hoffer _
    · exact startOffer_shrinks id s

end Sys2Proof.Machine
end

section
/-! SUPPORT. The pairs of the station as the rules of R67, R78, R155 and R157 read them: a seat for each session, which holds of
its position what a partner depends on, and the invariant over the seats. -/

namespace Sys2Proof.Machine

/-! ## Seats -/

/-- What a session is to the other one: a crossed session is bound to it by state and position, one in transfer to the
transfer record; `stray` is a session that waits for a partner without being crossed, which no sound table holds. -/
inductive SeatKind where
  | parked
  | moving
  | stray
  | solo
  | crossed (state : SessionState) (pos : Option GamePos)

/-- A session as the pair's rules read it. -/
structure Seat where
  id   : Nat
  home : LaneId
  kind : SeatKind

def SeatKind.cross : SeatKind → Bool
  | .crossed _ _ => true
  | _ => false

/-- The position of a crossed session; no rule of the pair reads another one's. -/
def SeatKind.pos : SeatKind → Option GamePos
  | .crossed _ p => p
  | _ => none

def Session.kind (x : Session) : SeatKind :=
  if x.cross then .crossed x.state x.pos
  else match x.state with
    | .parked => .parked
    | .waitMove | .moving _ => .moving
    | .waitPartner _ => .stray
    | .forming | .playing | .suspended _ => .solo

def Session.seat (x : Session) : Seat := { id := x.id, home := x.home, kind := x.kind }

def State.seats (s : State) : List Seat := s.sessions.map Session.seat

/-- The seat of a session that plays without a partner. -/
def Session.alone (x : Session) : Seat := { id := x.id, home := x.home, kind := .solo }

/-- Replace the seat with the same id. -/
def putSeat (a : Seat) (as : List Seat) : List Seat := as.map fun b => if b.id = a.id then a else b

/-- Remove a seat. -/
def dropSeat (id : Nat) (as : List Seat) : List Seat := as.filter (·.id != id)

/-- The session a transfer at the source is of (R154). -/
def TransferRec.names : TransferRec → Option Nat
  | .source _ _ _ _ sid _ _ => some sid
  | _ => none

/-- The lane an accepted transfer reserves (R157). -/
def TransferRec.reserves : TransferRec → Option LaneId
  | .target _ _ _ o _ _ _ => some o.lane
  | _ => none

theorem State.reserved_eq_reserves (s : State) : s.reserved = s.transfer.record.reserves := by
  unfold State.reserved
  cases s.transfer.record <;> rfl

section
variable {x y : Session}

theorem Session.kind_cross (x : Session) : x.kind.cross = x.cross := by
  unfold Session.kind
  cases x.cross with
  | true => rfl
  | false => cases x.state <;> rfl

theorem Session.kind_of_cross (h : x.cross = true) : x.kind = .crossed x.state x.pos := if_pos h

theorem Session.kind_parked (h : x.cross = false) : x.kind = .parked ↔ x.state = .parked := by
  unfold Session.kind
  rw [h]
  cases x.state <;> simp

theorem Session.kind_moving (h : x.cross = false) : x.kind = .moving ↔ x.state = .waitMove ∨ ∃ p, x.state = .moving p := by
  unfold Session.kind
  rw [h]
  cases x.state <;> simp

theorem Session.kind_congr (hc : y.cross = x.cross) (hs : y.state = x.state) (hp : y.pos = x.pos) : y.kind = x.kind := by
  unfold Session.kind
  rw [hc, hs, hp]

theorem Session.seat_congr (hi : y.id = x.id) (hh : y.home = x.home) (hc : y.cross = x.cross) (hs : y.state = x.state)
    (hp : y.pos = x.pos) : y.seat = x.seat := by
  unfold Session.seat
  rw [hi, hh, Session.kind_congr hc hs hp]

theorem Session.playsOn.seat (h : x.playsOn y) : y.seat = x.seat := by
  obtain ⟨hy, -⟩ := h
  rw [hy]
  exact Session.seat_congr rfl rfl rfl rfl rfl

/-- A session that is neither crossed nor waits nor is in transfer plays without a partner. -/
theorem Session.seat_alone (hc : x.cross = false) (hs : x.state = .forming ∨ x.state = .playing ∨ ∃ r, x.state = .suspended r) :
    x.seat = x.alone := by
  unfold Session.seat Session.alone Session.kind
  rw [hc]
  obtain hs | hs | ⟨r, hs⟩ := hs <;> rw [hs] <;> rfl

end

/-! ## Lists of seats -/

section
variable {a b : Seat} {as : List Seat}

theorem putSeat_ids (a : Seat) (as : List Seat) : (putSeat a as).map (·.id) = as.map (·.id) := by
  unfold putSeat
  rw [List.map_map]
  refine List.map_congr_left fun b _ => ?_
  show (if b.id = a.id then a else b).id = b.id
  split
  · exact Eq.symm ‹_›
  · rfl

theorem mem_putSeat (h : b ∈ putSeat a as) : b = a ∨ b ∈ as ∧ b.id ≠ a.id := by
  obtain ⟨c, hc, rfl⟩ := List.mem_map.1 h
  split
  · exact .inl rfl
  · exact .inr ⟨hc, ‹_›⟩

theorem mem_putSeat_other (h : b ∈ as) (hb : b.id ≠ a.id) : b ∈ putSeat a as := List.mem_map.2 ⟨b, h, if_neg hb⟩

theorem mem_putSeat_self (h : b ∈ as) (hb : b.id = a.id) : a ∈ putSeat a as := List.mem_map.2 ⟨b, h, if_pos hb⟩

theorem putSeat_twice (h : b.id = a.id) : putSeat a (putSeat b as) = putSeat a as := by
  unfold putSeat
  rw [List.map_map]
  refine List.map_congr_left fun c _ => ?_
  show (if (if c.id = b.id then b else c).id = a.id then a else if c.id = b.id then b else c) = _
  by_cases hc : c.id = a.id <;> simp [hc, h]

theorem mem_dropSeat {id : Nat} : b ∈ dropSeat id as ↔ b ∈ as ∧ b.id ≠ id := by
  unfold dropSeat
  simp

theorem dropSeat_putSeat (a : Seat) (as : List Seat) : dropSeat a.id (putSeat a as) = dropSeat a.id as := by
  unfold dropSeat putSeat
  induction as with
  | nil => rfl
  | cons b as ih => by_cases hb : b.id = a.id <;> simp [hb, ih]

/-- Seats with distinct ids are told apart by them. -/
theorem seat_inj (hn : (as.map (·.id)).Nodup) (ha : a ∈ as) (hb : b ∈ as) (h : a.id = b.id) : a = b :=
  List.inj_on_of_nodup_map hn ha hb h

theorem putSeat_self (hn : (as.map (·.id)).Nodup) (ha : a ∈ as) : putSeat a as = as := by
  unfold putSeat
  refine (List.map_congr_left fun b hb => ?_).trans (List.map_id as)
  show (if b.id = a.id then a else b) = b
  split
  · exact (seat_inj hn hb ha ‹_›).symm
  · rfl

/-- Of two seats at most, two different ones are all. -/
theorem seats_two {c : Seat} (hlen : as.length ≤ 2) (ha : a ∈ as) (hb : b ∈ as) (hab : a.id ≠ b.id) (hc : c ∈ as) :
    c.id = a.id ∨ c.id = b.id := by
  match as with
  | [] => cases ha
  | [_] =>
    rw [List.mem_singleton] at ha hb
    exact absurd (congrArg Seat.id (ha.trans hb.symm)) hab
  | [d, e] =>
    simp only [List.mem_cons, List.not_mem_nil, or_false] at ha hb hc
    rcases ha with rfl | rfl <;> rcases hb with rfl | rfl
    · exact absurd rfl hab
    · exact hc.imp (congrArg Seat.id) (congrArg Seat.id)
    · exact (hc.imp (congrArg Seat.id) (congrArg Seat.id)).symm
    · exact absurd rfl hab
  | _ :: _ :: _ :: _ =>
    simp only [List.length_cons] at hlen
    omega

end

/-! ## The invariant -/

/-- A crossed session's own rules (R65, R78): `Session.crossSound`, of a seat. -/
def crossedSound (home : LaneId) (q : SessionState) (pos : Option GamePos) : Prop :=
  q ≠ .waitMove ∧ (∀ p, q ≠ .moving p) ∧ q ≠ .parked ∧ (q.before = true ↔ pos = none) ∧
    ∀ p, pos = some p → 1 ≤ p.frame ∧ p.frame ≤ 10 ∧ p.lane = (if p.frame % 2 = 0 then other home else home) ∧
      ∀ f, q.waitsAt = some (.frame f) → f = p.frame

/-- What holds of one seat under a transfer record. -/
def Seat.sound (r : TransferRec) (a : Seat) : Prop :=
  (match a.kind with
   | .parked | .solo => True
   | .moving => r.names = some a.id
   | .stray => False
   | .crossed q pos => crossedSound a.home q pos) ∧
    ∀ l, r.reserves = some l → a.kind ≠ .parked → a.home ≠ l

/-- What holds of two seats (R67, R78). -/
def Seat.together (a b : Seat) : Prop :=
  a.kind ≠ .parked → b.kind ≠ .parked →
    a.home ≠ b.home ∧ a.kind.cross = b.kind.cross ∧
      a.kind.pos.map (fun p => (p.number, p.frame)) = b.kind.pos.map (fun p => (p.number, p.frame)) ∧
      ∀ p q, a.kind.pos = some p → b.kind.pos = some q → p.lane ≠ q.lane

/-- The pairs of a table of seats under a transfer record. While a removal is under way a crossed session can be without its
partner: `strict` says that it is not. -/
structure Paired (strict : Prop) (r : TransferRec) (as : List Seat) : Prop where
  two : as.length ≤ 2
  nodup : (as.map (·.id)).Nodup
  sound : ∀ a ∈ as, a.sound r
  together : ∀ a ∈ as, ∀ b ∈ as, a.id ≠ b.id → a.together b
  partner : strict → ∀ a ∈ as, a.kind.pos ≠ none → ∃ b ∈ as, b.id ≠ a.id ∧ b.kind.cross = true ∧ b.home = other a.home
  named : ∀ sid, r.names = some sid → ∃ a ∈ as, a.id = sid ∧ a.kind = .moving

/-- The pairs of the station. -/
def State.paired (strict : Prop) (s : State) : Prop := Paired strict s.transfer.record s.seats

theorem Session.crossSound_iff (x : Session) : x.crossSound ↔ crossedSound x.home x.state x.pos := Iff.rfl

theorem mem_seats {s : State} {x : Session} (h : x ∈ s.sessions) : x.seat ∈ s.seats := List.mem_map_of_mem h

theorem seats_ids (s : State) : s.seats.map (·.id) = s.sessions.map (·.id) := by
  unfold State.seats
  rw [List.map_map]
  rfl

theorem Session.seat_sound_iff (x : Session) (r : TransferRec) :
    x.seat.sound r ↔ (x.cross = true → x.crossSound) ∧ ((∃ b, x.state = .waitPartner b) → x.cross = true) ∧
      (x.cross = false → (x.state = .waitMove ∨ ∃ p, x.state = .moving p) → r.names = some x.id) ∧
      ∀ l, r.reserves = some l → (x.cross = true ∨ x.state ≠ .parked) → x.home ≠ l := by
  unfold Seat.sound Session.seat Session.kind
  cases hc : x.cross with
  | true => simp [Session.crossSound_iff]
  | false => cases hs : x.state <;> simp

theorem Seat.together_iff {x y : Session} (hx : x.cross = true → x.state ≠ .parked) (hy : y.cross = true → y.state ≠ .parked) :
    x.seat.together y.seat ↔ (x.state ≠ .parked → y.state ≠ .parked →
      x.home ≠ y.home ∧ x.cross = y.cross ∧
        (x.cross = true → x.pos.map (fun p => (p.number, p.frame)) = y.pos.map (fun p => (p.number, p.frame)) ∧
          ∀ p q, x.pos = some p → y.pos = some q → p.lane ≠ q.lane)) := by
  have hkind (z : Session) (hz : z.cross = true → z.state ≠ .parked) : z.kind ≠ .parked ↔ z.state ≠ .parked := by
    cases hc : z.cross with
    | true => simp [Session.kind_of_cross hc, hz hc]
    | false => exact not_congr (Session.kind_parked hc)
  have hnone (z : Session) (hz : z.cross = false) : z.kind.pos = none := by
    unfold Session.kind
    rw [hz]
    cases z.state <;> rfl
  unfold Seat.together
  show (x.kind ≠ _ → y.kind ≠ _ → x.home ≠ y.home ∧ x.kind.cross = y.kind.cross ∧ _) ↔ _
  rw [hkind x hx, hkind y hy, x.kind_cross, y.kind_cross]
  refine imp_congr_right fun _ => imp_congr_right fun _ => and_congr_right fun _ => and_congr_right fun hcross => ?_
  cases hc : x.cross with
  | true =>
    show x.kind.pos.map _ = y.kind.pos.map _ ∧ (∀ p q, x.kind.pos = some p → y.kind.pos = some q → _) ↔ _
    rw [Session.kind_of_cross hc, Session.kind_of_cross (hcross ▸ hc)]
    simp [SeatKind.pos]
  | false =>
    show x.kind.pos.map _ = y.kind.pos.map _ ∧ (∀ p q, x.kind.pos = some p → y.kind.pos = some q → _) ↔ _
    rw [hnone x hc, hnone y (hcross ▸ hc)]
    simp

theorem Session.transfer_parked {x : Session} (h : x.crossSound) :
    x.state ≠ .waitMove ∧ (∀ p, x.state ≠ .moving p) ∧ x.state ≠ .parked := ⟨h.1, h.2.1, h.2.2.1⟩

/-- The partner clause over sessions and over seats. -/
theorem partner_iff {s : State} {x : Session} (hx : x.cross = true) :
    (x.seat.kind.pos ≠ none → ∃ b ∈ s.seats, b.id ≠ x.seat.id ∧ b.kind.cross = true ∧ b.home = other x.seat.home) ↔
      (x.pos ≠ none → ∃ y ∈ s.sessions, y.id ≠ x.id ∧ y.cross = true ∧ y.home = other x.home) := by
  have hpos : x.seat.kind.pos = x.pos := by
    show x.kind.pos = _
    rw [Session.kind_of_cross hx]
    rfl
  rw [hpos]
  refine imp_congr_right fun _ => ⟨?_, ?_⟩
  · rintro ⟨b, hb, hid, hcross, hhome⟩
    obtain ⟨y, hy, rfl⟩ := List.mem_map.1 hb
    exact ⟨y, hy, hid, y.kind_cross ▸ hcross, hhome⟩
  · rintro ⟨y, hy, hid, hcross, hhome⟩
    exact ⟨_, mem_seats hy, hid, y.kind_cross ▸ hcross, hhome⟩

theorem SeatKind.cross_of_pos {k : SeatKind} (h : k.pos ≠ none) : k.cross = true := by
  cases k with
  | crossed => rfl
  | parked | moving | stray | solo => exact absurd rfl h

theorem pairsSound_iff (s : State) : pairsSound s ↔ tableSound s ∧ s.paired True := by
  have htwo (h : tableSound s) : s.seats.length ≤ 2 := by
    obtain ⟨hcount, -⟩ := h
    unfold State.tableCount at hcount
    unfold State.seats
    rw [List.length_map]
    omega
  have hparked {x : Session} (h : x.cross = true → x.crossSound) : x.cross = true → x.state ≠ .parked :=
    fun hc => (Session.transfer_parked (h hc)).2.2
  constructor
  · rintro ⟨htable, hpair, hsingle, hnamed⟩
    refine ⟨htable, ⟨htwo htable, seats_ids s ▸ htable.2.1, ?_, ?_, ?_, ?_⟩⟩
    · intro a ha
      obtain ⟨x, hx, rfl⟩ := List.mem_map.1 ha
      obtain ⟨hcross, hwait, hmove, hreserved⟩ := hsingle x hx
      refine (x.seat_sound_iff _).2 ⟨fun hc => (hcross hc).1, hwait, fun _ hm => ?_, fun l hl hp => ?_⟩
      · obtain ⟨st, tag, peer, lane, req, timer, he⟩ := hmove hm
        rw [he]
        rfl
      · exact hreserved l (s.reserved_eq_reserves.trans hl) (hp.elim (hparked fun hc => (hcross hc).1) fun h => h)
    · intro a ha b hb hid
      obtain ⟨x, hx, rfl⟩ := List.mem_map.1 ha
      obtain ⟨y, hy, rfl⟩ := List.mem_map.1 hb
      exact (Seat.together_iff (hparked fun hc => ((hsingle x hx).1 hc).1) (hparked fun hc => ((hsingle y hy).1 hc).1)).2
        (hpair x hx y hy hid)
    · intro _ a ha hpos
      obtain ⟨x, hx, rfl⟩ := List.mem_map.1 ha
      have hc : x.cross = true := x.kind_cross ▸ SeatKind.cross_of_pos hpos
      exact (partner_iff hc).2 ((hsingle x hx).1 hc).2 hpos
    · intro sid hsid
      cases he : s.transfer.record with
      | idle | target => rw [he] at hsid; cases hsid
      | source st tag peer lane sid' req timer =>
        rw [he] at hsid
        cases hsid
        obtain ⟨x, hx, hid, hc, hm⟩ := hnamed _ _ _ _ _ _ _ he
        exact ⟨x.seat, mem_seats hx, hid, (Session.kind_moving hc).2 hm⟩
  · rintro ⟨htable, -, -, hsound, htogether, hpartner, hnamed⟩
    have hseat (x : Session) (hx : x ∈ s.sessions) := (x.seat_sound_iff _).1 (hsound _ (mem_seats hx))
    refine ⟨htable, fun x hx y hy hid => ?_, fun x hx => ?_, fun st tag peer lane sid req timer he => ?_⟩
    · exact (Seat.together_iff (hparked (hseat x hx).1) (hparked (hseat y hy).1)).1
        (htogether _ (mem_seats hx) _ (mem_seats hy) hid)
    · obtain ⟨hcross, hwait, hmove, hreserved⟩ := hseat x hx
      refine ⟨fun hc => ⟨hcross hc, (partner_iff hc).1 (hpartner trivial _ (mem_seats hx))⟩, hwait, fun hm => ?_,
        fun l hl hp => hreserved l (s.reserved_eq_reserves.symm.trans hl) (.inr hp)⟩
      have hc : x.cross = false := by
        by_contra hc
        obtain ⟨hwm, hmv, -⟩ := Session.transfer_parked (hcross (by simpa using hc))
        exact hm.elim hwm fun ⟨p, hp⟩ => hmv p hp
      have hnames := hmove hc hm
      cases he : s.transfer.record with
      | idle | target => rw [he] at hnames; cases hnames
      | source st tag peer lane sid req timer =>
        rw [he] at hnames
        cases hnames
        exact ⟨_, _, _, _, _, _, rfl⟩
    · obtain ⟨a, ha, hid, hk⟩ := hnamed sid (by rw [he]; rfl)
      obtain ⟨x, hx, rfl⟩ := List.mem_map.1 ha
      have hc : x.cross = false := by
        rw [← x.kind_cross, show x.kind = .moving from hk]
        rfl
      exact ⟨x, hx, hid, hc, (Session.kind_moving hc).1 hk⟩

end Sys2Proof.Machine
end

section
/-! SUPPORT. How a sound table of seats can change (R67, R78, R155): a seat written again, a seat that leaves, a transfer that
begins or ends, and the two seats of a pair written together. -/

namespace Sys2Proof.Machine

section
variable {strict : Prop} {r r' : TransferRec} {as : List Seat} {a b : Seat}

theorem Seat.together.symm (h : a.together b) : b.together a := by
  intro hb ha
  obtain ⟨hhome, hcross, hpos, hlane⟩ := h ha hb
  exact ⟨hhome.symm, hcross.symm, hpos.symm, fun p q hp hq => (hlane q p hq hp).symm⟩

/-- A transfer record that names the same session and reserves the same lane. -/
theorem Paired.of_record (h : Paired strict r as) (hn : r'.names = r.names) (hr : r'.reserves = r.reserves) :
    Paired strict r' as := by
  refine ⟨h.two, h.nodup, fun a ha => ?_, h.together, h.partner, hn ▸ h.named⟩
  unfold Seat.sound
  rw [hn, hr]
  exact h.sound a ha

theorem Paired.loose (h : Paired strict r as) : Paired False r as :=
  ⟨h.two, h.nodup, h.sound, h.together, fun hf => hf.elim, h.named⟩

/-- A seat is written again: it stays home, stays crossed when it was, and gains no position. -/
theorem Paired.put (h : Paired strict r as) (hb : b ∈ as) (hid : a.id = b.id) (hhome : a.home = b.home)
    (hsound : a.sound r) (htogether : ∀ c ∈ as, c.id ≠ b.id → b.together c → a.together c)
    (hcross : b.kind.cross = true → a.kind.cross = true) (hpos : a.kind.pos ≠ none → b.kind.pos ≠ none)
    (hmoving : b.kind = .moving → a.kind = .moving) : Paired strict r (putSeat a as) := by
  have hmem {c : Seat} (hc : c ∈ as) : ∃ d ∈ putSeat a as, d.id = c.id ∧ d.home = c.home ∧
      (c.kind.cross = true → d.kind.cross = true) ∧ (c.kind = .moving → d.kind = .moving) := by
    by_cases hcid : c.id = a.id
    · have hcb := seat_inj h.nodup hc hb (hcid.trans hid)
      subst hcb
      exact ⟨a, mem_putSeat_self hc hcid, hid, hhome, hcross, hmoving⟩
    · exact ⟨c, mem_putSeat_other hc hcid, rfl, rfl, fun h => h, fun h => h⟩
  have hother {c : Seat} (hc : c ∈ as) (hne : c.id ≠ a.id) : a.together c :=
    htogether c hc (hid ▸ hne) (h.together b hb c hc (fun he => hne (hid.trans he).symm))
  refine ⟨by unfold putSeat; rw [List.length_map]; exact h.two, by rw [putSeat_ids]; exact h.nodup, ?_, ?_, ?_, ?_⟩
  · intro c hc
    rcases mem_putSeat hc with rfl | ⟨hc, -⟩
    · exact hsound
    · exact h.sound c hc
  · intro c hc d hd hne
    rcases mem_putSeat hc with hca | ⟨hc', hca⟩ <;> rcases mem_putSeat hd with hda | ⟨hd', hda⟩
    · exact absurd (congrArg Seat.id (hca.trans hda.symm)) hne
    · exact hca ▸ hother hd' hda
    · exact hda ▸ (hother hc' hca).symm
    · exact h.together c hc' d hd' hne
  · intro hstrict c hc hcpos
    obtain ⟨e, he, heid, hehome, hepos⟩ : ∃ e ∈ as, e.id = c.id ∧ e.home = c.home ∧ e.kind.pos ≠ none := by
      rcases mem_putSeat hc with rfl | ⟨hc, -⟩
      · exact ⟨b, hb, hid.symm, hhome.symm, hpos hcpos⟩
      · exact ⟨c, hc, rfl, rfl, hcpos⟩
    obtain ⟨d, hd, hdid, hdcross, hdhome⟩ := h.partner hstrict e he hepos
    obtain ⟨d', hd', hdid', hdhome', hdcross', -⟩ := hmem hd
    exact ⟨d', hd', by rw [hdid', ← heid]; exact hdid, hdcross' hdcross, by rw [hdhome', hdhome, hehome]⟩
  · intro sid hsid
    obtain ⟨c, hc, hcid, hck⟩ := h.named sid hsid
    obtain ⟨d, hd, hdid, -, -, hdk⟩ := hmem hc
    exact ⟨d, hd, hdid.trans hcid, hdk hck⟩

/-- A crossed seat moves on to another state at its position. -/
theorem Paired.putCrossed (h : Paired strict r as) {q q' : SessionState} {pos : Option GamePos} (hb : b ∈ as)
    (hk : b.kind = .crossed q pos) (hsound : crossedSound b.home q' pos) :
    Paired strict r (putSeat { b with kind := .crossed q' pos } as) := by
  refine h.put hb rfl rfl ⟨hsound, fun l hl _ => (h.sound b hb).2 l hl (by simp [hk])⟩ (fun c _ _ hc => ?_) (fun _ => rfl)
    (fun hp => by rw [hk]; exact hp) (fun hm => by simp [hk] at hm)
  intro _ hck
  have hbc := hc (by simp [hk]) hck
  rw [hk] at hbc
  exact hbc

/-- A seat leaves: it is not in transfer, and no crossed session needs it. -/
theorem Paired.drop (h : Paired strict r as) {sid : Nat} (hm : ∀ b ∈ as, b.id = sid → b.kind ≠ .moving)
    (hc : strict → ∀ b ∈ as, b.id = sid → b.kind.cross = true → ∀ c ∈ as, c.id ≠ sid → c.kind.pos = none) :
    Paired strict r (dropSeat sid as) := by
  have hsub : (dropSeat sid as).Sublist as := List.filter_sublist
  refine ⟨hsub.length_le.trans h.two, (hsub.map _).nodup h.nodup, fun b hb => h.sound b (hsub.subset hb),
    fun b hb c hc hne => h.together b (hsub.subset hb) c (hsub.subset hc) hne, fun hstrict b hb hpos => ?_, fun n hn => ?_⟩
  · obtain ⟨c, hc', hid, hcross, hhome⟩ := h.partner hstrict b (hsub.subset hb) hpos
    refine ⟨c, mem_dropSeat.2 ⟨hc', fun hcid => ?_⟩, hid, hcross, hhome⟩
    obtain ⟨hb, hbid⟩ := mem_dropSeat.1 hb
    exact hpos (hc hstrict c hc' hcid hcross b hb hbid)
  · obtain ⟨c, hc', hid, hk⟩ := h.named n hn
    exact ⟨c, mem_dropSeat.2 ⟨hc', fun hcid => hm c hc' hcid hk⟩, hid, hk⟩

/-- No seat but the named one is in transfer. -/
theorem Paired.moving_id (h : Paired strict r as) {sid : Nat} (hr : r.names = some sid) (hb : b ∈ as)
    (hk : b.kind = .moving) : b.id = sid := by
  have hs := (h.sound b hb).1
  rw [hk] at hs
  exact Option.some.inj (hs.symm.trans hr)

theorem Paired.not_moving (h : Paired strict r as) (hr : r.names = none) (hb : b ∈ as) : b.kind ≠ .moving := by
  intro hk
  have hs := (h.sound b hb).1
  rw [hk, hr] at hs
  cases hs

/-- What can become of a seat when no transfer goes on: a session in transfer is parked or plays, a crossed one keeps its
position. -/
def SeatKind.endsIn (home : LaneId) : SeatKind → SeatKind → Prop
  | .moving, k => k = .parked ∨ k = .solo
  | .crossed _ pos, k => ∃ q, k = .crossed q pos ∧ crossedSound home q pos
  | .parked, k => k = .parked
  | .stray, k => k = .stray
  | .solo, k => k = .solo

theorem SeatKind.endsIn.kept {home : LaneId} {k k' : SeatKind} (h : k.endsIn home k') (hp : k' ≠ .parked) :
    k ≠ .parked ∧ k'.cross = k.cross ∧ k'.pos = k.pos := by
  cases k with
  | parked => exact absurd h hp
  | moving =>
    rcases h with rfl | rfl
    · exact absurd rfl hp
    · exact ⟨by simp, rfl, rfl⟩
  | stray | solo =>
    cases h
    exact ⟨by simp, rfl, rfl⟩
  | crossed q pos =>
    obtain ⟨q', rfl, -⟩ := h
    exact ⟨by simp, rfl, rfl⟩

theorem SeatKind.endsIn.self {home : LaneId} {k : SeatKind} (hm : k ≠ .moving)
    (hc : ∀ q pos, k = .crossed q pos → crossedSound home q pos) : k.endsIn home k := by
  cases k with
  | moving => exact absurd rfl hm
  | parked | stray | solo => rfl
  | crossed q pos => exact ⟨q, rfl, hc q pos rfl⟩

/-- The transfer is over: the seats that are left end as `SeatKind.endsIn` says, and no crossed session leaves. -/
theorem Paired.ended (h : Paired strict r as) (hr : r'.names = none) (hres : r'.reserves = none) {bs : List Seat}
    (hsub : (bs.map (·.id)).Sublist (as.map (·.id)))
    (hbs : ∀ b ∈ bs, ∃ c ∈ as, c.id = b.id ∧ c.home = b.home ∧ c.kind.endsIn b.home b.kind)
    (hkept : ∀ c ∈ as, c.kind.cross = true → ∃ b ∈ bs, b.id = c.id ∧ b.home = c.home ∧ b.kind.cross = true) :
    Paired strict r' bs := by
  refine ⟨?_, hsub.nodup h.nodup, fun b hb => ⟨?_, fun l hl => ?_⟩, fun b hb c hc hne hbp hcp => ?_, fun hstrict b hb hpos => ?_,
    fun n hn => ?_⟩
  · have hlen := hsub.length_le
    rw [List.length_map, List.length_map] at hlen
    exact hlen.trans h.two
  · obtain ⟨c, hc, -, -, hends⟩ := hbs b hb
    have hsound := (h.sound c hc).1
    cases hk : c.kind with
    | moving =>
      rw [hk] at hends
      rcases hends with hends | hends <;> rw [hends] <;> trivial
    | crossed q pos =>
      rw [hk] at hends
      obtain ⟨q', hb', hcs⟩ := hends
      rw [hb']
      exact hcs
    | stray =>
      rw [hk] at hsound
      exact hsound.elim
    | parked | solo =>
      rw [hk] at hends
      rw [show b.kind = _ from hends]
      trivial
  · rw [hres] at hl
    cases hl
  · obtain ⟨b0, hb0, hbid, hbhome, hbends⟩ := hbs b hb
    obtain ⟨c0, hc0, hcid, hchome, hcends⟩ := hbs c hc
    obtain ⟨hbp', hbcross, hbpos⟩ := hbends.kept hbp
    obtain ⟨hcp', hccross, hcpos⟩ := hcends.kept hcp
    have htog := h.together b0 hb0 c0 hc0 (by rw [hbid, hcid]; exact hne) hbp' hcp'
    rwa [hbhome, hchome, ← hbcross, ← hccross, ← hbpos, ← hcpos] at htog
  · obtain ⟨c, hc, hid, hhome, hends⟩ := hbs b hb
    have hp : b.kind ≠ .parked := fun hk => by
      rw [hk] at hpos
      exact hpos rfl
    obtain ⟨-, -, hsame⟩ := hends.kept hp
    obtain ⟨d, hd, hdid, hdcross, hdhome⟩ := h.partner hstrict c hc (hsame ▸ hpos)
    obtain ⟨e, he, heid, hehome, hecross⟩ := hkept d hd hdcross
    exact ⟨e, he, by rw [heid, ← hid]; exact hdid, hecross, by rw [hehome, hdhome, hhome]⟩
  · rw [hr] at hn
    cases hn

/-- Without a transfer the seats stay as they are under an idle record. -/
theorem Paired.idled (h : Paired strict r as) (hn : r.names = none) : Paired strict .idle as := by
  refine h.ended rfl rfl (List.Sublist.refl _) (fun a ha => ⟨a, ha, rfl, rfl, .self (h.not_moving hn ha) fun q pos hk => ?_⟩)
    fun c hc hcross => ⟨c, hc, rfl, rfl, hcross⟩
  have hs := (h.sound a ha).1
  rw [hk] at hs
  exact hs

/-- A session of the table that is neither parked nor in transfer joins a transfer. -/
theorem Paired.engaged (h : Paired strict r as) (hr : r.names = none) (hb : b ∈ as) (hk : b.kind = .solo)
    (hn : r'.names = some b.id) (hres : r'.reserves = none) : Paired strict r' (putSeat { b with kind := .moving } as) := by
  refine ⟨by unfold putSeat; rw [List.length_map]; exact h.two, by rw [putSeat_ids]; exact h.nodup, fun c hc => ⟨?_, ?_⟩,
    fun c hc d hd hne => ?_, fun hstrict c hc hpos => ?_, fun sid hsid => ?_⟩
  · rcases mem_putSeat hc with rfl | ⟨hc, -⟩
    · exact hn
    · have hs := (h.sound c hc).1
      cases hck : c.kind with
      | moving => exact absurd hck (h.not_moving hr hc)
      | parked | solo => trivial
      | stray | crossed => rw [hck] at hs; exact hs
  · intro l hl
    rw [hres] at hl
    cases hl
  · have hsolo {d : Seat} (hd : d ∈ as) (hne : d.id ≠ b.id) : Seat.together { b with kind := .moving } d := by
      intro _ hdp
      have htog := h.together b hb d hd hne.symm (by simp [hk]) hdp
      rw [hk] at htog
      exact htog
    rcases mem_putSeat hc with rfl | ⟨hc, hcb⟩
    · rcases mem_putSeat hd with rfl | ⟨hd, hdb⟩
      · exact absurd rfl hne
      · exact hsolo hd hdb
    · rcases mem_putSeat hd with rfl | ⟨hd, hdb⟩
      · exact (hsolo hc hcb).symm
      · exact h.together c hc d hd hne
  · rcases mem_putSeat hc with rfl | ⟨hc, -⟩
    · exact absurd rfl hpos
    · obtain ⟨d, hd, hid, hcross, hhome⟩ := h.partner hstrict c hc hpos
      refine ⟨d, mem_putSeat_other hd fun hdb => ?_, hid, hcross, hhome⟩
      rw [seat_inj h.nodup hd hb hdb, hk] at hcross
      cases hcross
  · rw [hn] at hsid
    cases hsid
    exact ⟨_, mem_putSeat_self hb rfl, rfl, rfl⟩

/-- A table of one seat that is not crossed, or of none. -/
theorem Paired.of_single {bs : List Seat} (hlen : bs.length ≤ 2) (hnodup : (bs.map (·.id)).Nodup) (hr : r.names = none)
    (hall : ∀ b ∈ bs, b = a ∧ a.sound r ∧ a.kind.cross = false) : Paired strict r bs := by
  refine ⟨hlen, hnodup, fun b hb => ?_, fun b hb c hc hne => ?_, fun _ b hb hpos => ?_, fun n hn => ?_⟩
  · obtain ⟨rfl, hsound, -⟩ := hall b hb
    exact hsound
  · exact absurd (congrArg Seat.id ((hall b hb).1.trans (hall c hc).1.symm)) hne
  · obtain ⟨rfl, -, hcross⟩ := hall b hb
    rw [SeatKind.cross_of_pos hpos] at hcross
    cases hcross
  · rw [hr] at hn
    cases hn

/-- A table of one seat that plays without a partner, or of none. -/
theorem Paired.of_solo {bs : List Seat} (hlen : bs.length ≤ 2) (hnodup : (bs.map (·.id)).Nodup) (hr : r.names = none)
    (hall : ∀ b ∈ bs, b = a) (hk : a.kind = .solo) (hres : ∀ l, r.reserves = some l → a.home ≠ l) : Paired strict r bs := by
  refine Paired.of_single hlen hnodup hr fun b hb => ⟨hall b hb, ?_, by rw [hk]; rfl⟩
  unfold Seat.sound
  rw [hk]
  exact ⟨trivial, fun l hl _ => hres l hl⟩

/-- A table of seats that play without partners. -/
theorem Paired.of_solos {bs : List Seat} (hlen : bs.length ≤ 2) (hnodup : (bs.map (·.id)).Nodup) (hr : r.names = none)
    (hall : ∀ c ∈ bs, c.kind = .solo ∧ ∀ l, r.reserves = some l → c.home ≠ l)
    (hhome : ∀ c ∈ bs, ∀ d ∈ bs, c.id ≠ d.id → c.home ≠ d.home) : Paired strict r bs := by
  refine ⟨hlen, hnodup, fun c hc => ?_, fun c hc d hd hne _ _ => ?_, fun _ c hc hpos => ?_, fun n hn => ?_⟩
  · obtain ⟨hk, hres⟩ := hall c hc
    unfold Seat.sound
    rw [hk]
    exact ⟨trivial, fun l hl _ => hres l hl⟩
  · rw [(hall c hc).1, (hall d hd).1]
    exact ⟨hhome c hc d hd hne, rfl, rfl, by simp [SeatKind.pos]⟩
  · rw [(hall c hc).1] at hpos
    exact absurd rfl hpos
  · rw [hr] at hn
    cases hn

/-- A seat without a position joins. -/
theorem Paired.join (h : Paired strict r as) {bs : List Seat} (hperm : bs.Perm (a :: as)) (hlen : bs.length ≤ 2)
    (hfresh : ∀ c ∈ as, c.id ≠ a.id) (hsound : a.sound r) (htog : ∀ c ∈ as, a.together c) (hpos : a.kind.pos = none) :
    Paired strict r bs := by
  have hmem {c : Seat} : c ∈ bs ↔ c = a ∨ c ∈ as := by rw [hperm.mem_iff, List.mem_cons]
  refine ⟨hlen, ?_, fun c hc => ?_, fun c hc d hd hne => ?_, fun hstrict c hc hcpos => ?_, fun n hn => ?_⟩
  · rw [(hperm.map _).nodup_iff, List.map_cons, List.nodup_cons]
    refine ⟨fun hin => ?_, h.nodup⟩
    obtain ⟨c, hc, hid⟩ := List.mem_map.1 hin
    exact hfresh c hc hid
  · rcases hmem.1 hc with rfl | hc
    · exact hsound
    · exact h.sound c hc
  · rcases hmem.1 hc with rfl | hc <;> rcases hmem.1 hd with rfl | hd
    · exact absurd rfl hne
    · exact htog d hd
    · exact (htog c hc).symm
    · exact h.together c hc d hd hne
  · rcases hmem.1 hc with rfl | hc
    · exact absurd hpos hcpos
    · obtain ⟨d, hd, hdid, hcross, hhome⟩ := h.partner hstrict c hc hcpos
      exact ⟨d, hmem.2 (.inr hd), hdid, hcross, hhome⟩
  · obtain ⟨c, hc, hid, hk⟩ := h.named n hn
    exact ⟨c, hmem.2 (.inr hc), hid, hk⟩

/-- A crossed pair. -/
theorem Paired.of_pair {bs : List Seat} (hlen : bs.length ≤ 2) (hnodup : (bs.map (·.id)).Nodup) (hr : r.names = none)
    (hall : ∀ c ∈ bs, c = a ∨ c = b) (ha : a ∈ bs) (hb : b ∈ bs) (hne : a.id ≠ b.id) (hhome : b.home = other a.home)
    (hca : a.kind.cross = true) (hcb : b.kind.cross = true) (hsa : a.sound r) (hsb : b.sound r) (htog : a.together b) :
    Paired strict r bs := by
  refine ⟨hlen, hnodup, fun c hc => ?_, fun c hc d hd hcd => ?_, fun _ c hc _ => ?_, fun n hn => ?_⟩
  · rcases hall c hc with rfl | rfl
    · exact hsa
    · exact hsb
  · rcases hall c hc with rfl | rfl <;> rcases hall d hd with rfl | rfl
    · exact absurd rfl hcd
    · exact htog
    · exact htog.symm
    · exact absurd rfl hcd
  · rcases hall c hc with rfl | rfl
    · exact ⟨b, hb, hne.symm, hcb, hhome⟩
    · exact ⟨a, ha, hne, hca, by rw [hhome, other_other]⟩
  · rw [hr] at hn
    cases hn

/-- A table of a crossed pair has no session in transfer. -/
theorem Paired.pair_names (h : Paired strict r as) (ha : a ∈ as) (hb : b ∈ as) (hne : a.id ≠ b.id)
    (hca : a.kind.cross = true) (hcb : b.kind.cross = true) : r.names = none := by
  cases hr : r.names with
  | none => rfl
  | some sid =>
    obtain ⟨c, hc, -, hk⟩ := h.named sid hr
    rcases seats_two h.two ha hb hne hc with hid | hid
    · rw [← seat_inj h.nodup hc ha hid, hk] at hca
      cases hca
    · rw [← seat_inj h.nodup hc hb hid, hk] at hcb
      cases hcb

end

end Sys2Proof.Machine
end

section
/-! SUPPORT. The pairs through the turn order: turn starts leave every seat as it is, a session without a partner keeps its
seat or leaves the table, and a crossed pair passes its barrier together (R76 to R80). -/

namespace Sys2Proof.Machine

/-! ## Seats of a state -/

section
variable {s t u : State} {id : Nat} {x y : Session} {a : Seat}

@[simp] theorem seats_putSession (y : Session) (s : State) : (putSession y s).seats = putSeat y.seat s.seats := by
  show (s.sessions.map _).map _ = (s.sessions.map _).map _
  rw [List.map_map, List.map_map]
  refine List.map_congr_left fun z _ => ?_
  show (if z.id = y.id then y else z).seat = if z.id = y.id then y.seat else z.seat
  split <;> rfl

@[simp] theorem seats_dropSession (id : Nat) (s : State) : (dropSession id s).seats = dropSeat id s.seats := by
  show (s.sessions.filter _).map _ = (s.sessions.map _).filter _
  rw [List.filter_map]
  rfl

theorem seats_of_sessions (h : t.sessions = s.sessions) : t.seats = s.seats := congrArg (List.map Session.seat) h

theorem mem_of_session? (h : s.session? id = some x) : x ∈ s.sessions := List.mem_of_find?_eq_some h

theorem seat_of_session? (h : s.session? id = some x) : x.seat ∈ s.seats := mem_seats (mem_of_session? h)

theorem session?_of_mem (hn : (s.seats.map (·.id)).Nodup) (h : x ∈ s.sessions) : s.session? x.id = some x := by
  rw [seats_ids] at hn
  cases hs : s.session? x.id with
  | none => exact absurd (List.find?_eq_none.1 hs x h) (by simp)
  | some y => rw [List.inj_on_of_nodup_map hn (mem_of_session? hs) h (session?_id hs)]

theorem session?_putSession_other (h : id ≠ y.id) : (putSession y s).session? id = s.session? id := by
  unfold State.session?
  show (s.sessions.map fun z => if z.id = y.id then y else z).find? (·.id == id) = _
  induction s.sessions with
  | nil => rfl
  | cons z zs ih =>
    rw [List.map_cons, List.find?_cons, List.find?_cons, ih]
    by_cases hz : z.id = y.id
    · rw [if_pos hz, hz, show (y.id == id) = false by simpa using h.symm]
    · rw [if_neg hz]

/-- Every seat stays as it is, in a table with distinct ids. -/
def State.keepsSeats (s t : State) : Prop := (s.seats.map (·.id)).Nodup → t.seats = s.seats

theorem State.keepsSeats.of_sessions (h : t.sessions = s.sessions) : s.keepsSeats t := fun _ => seats_of_sessions h

theorem State.keepsSeats.trans (h : s.keepsSeats t) (h' : t.keepsSeats u) : s.keepsSeats u := by
  intro hn
  have ht := h hn
  exact (h' (ht ▸ hn)).trans ht

theorem State.keepsSeats.put (hx : s.session? id = some x) (hy : y.seat = x.seat) : s.keepsSeats (putSession y s) := by
  intro hn
  rw [seats_putSession, hy, putSeat_self hn (seat_of_session? hx)]

theorem foldl_keepsSeats {α : Type} {f : State → α → State} (hf : ∀ (u : State) (a : α), u.keepsSeats (f u a)) (as : List α)
    (s : State) : s.keepsSeats (as.foldl f s) := by
  induction as generalizing s with
  | nil => exact .of_sessions rfl
  | cons a as ih => exact (hf s a).trans (ih _)

theorem State.paired.of_keepsSeats {strict : Prop} (h : s.paired strict) (hs : s.keepsSeats t)
    (ht : t.transfer = s.transfer) : t.paired strict := by
  unfold State.paired
  rw [ht, hs h.nodup]
  exact h

end

/-! ## Turn starts (R81, R115, R116) -/

theorem makeCharge_keepsSeats {s : State} {x : Session} {id : Nat} (hx : s.session? id = some x) (l : LaneId)
    (i n b c a : Nat) : s.keepsSeats (makeCharge l x i n b c a s) := by
  unfold makeCharge
  dsimp only
  intro hn
  have hseats (m : Meter) (body : JournalBody) : (appendEntry l body (writeMeter l m s)).seats = s.seats :=
    seats_of_sessions (by simp)
  rw [seats_putSession, hseats, (x.modifyGame_playsOn i _).seat, putSeat_self hn (seat_of_session? hx)]

theorem admission_keepsSeats {s : State} {x : Session} {id : Nat} (hx : s.session? id = some x) (l : LaneId) (i : Nat)
    (g : Game) (p : GamePos) : s.keepsSeats (admission l x i g p s).2 := by
  unfold admission
  dsimp only
  split
  · exact .of_sessions (by simp)
  · split
    · exact .of_sessions (by simp)
    · exact .of_sessions (by simp)
  · split
    · split
      · exact .of_sessions (by simp)
      · split
        · exact .of_sessions (by simp)
        · exact (makeCharge_keepsSeats hx l _ _ _ _ _).trans (.of_sessions rfl)
    · exact .of_sessions (by simp)

theorem startTurn_keepsSeats (l : LaneId) (id : Nat) (s : State) : s.keepsSeats (startTurn l id s) := by
  unfold startTurn
  split
  · exact .of_sessions rfl
  · rename_i x hx
    split
    · split
      · rename_i p i _ _ _ _ g _
        have ha := admission_keepsSeats hx l i g p
        dsimp only
        split
        · split
          · have hput : s.keepsSeats (match (admission l x i g p s).2.session? id with
                | some y => putSession { y with turn := .active } (admission l x i g p s).2
                | none => (admission l x i g p s).2) := by
              split
              · rename_i y hy
                exact ha.trans (.put hy rfl)
              · exact ha
            exact hput.trans (.of_sessions (by simp <;> rfl))
          · exact ha.trans (.of_sessions (by simp))
        · exact .of_sessions rfl
      · exact .of_sessions rfl
    · exact .of_sessions rfl

theorem startTurns_keepsSeats (r : State × List Nat) : r.1.keepsSeats (startTurns r) :=
  (foldl_keepsSeats (fun u id => startTurn_keepsSeats .A id u) r.2 r.1).trans
    (foldl_keepsSeats (fun u id => startTurn_keepsSeats .B id u) _ _)

theorem truncateCurrent_keepsSeats (id : Nat) (s : State) : s.keepsSeats (truncateCurrent id s) := by
  unfold truncateCurrent
  split
  · exact .of_sessions rfl
  · rename_i x hx
    split
    · exact .of_sessions rfl
    · exact .put hx (x.truncate_playsOn _).seat

/-! ## A session without a partner (R76, R77, R79, R80) -/

/-- The session of seat a has that seat, or has left the table. -/
def State.endsAs (s t : State) (a : Seat) : Prop := t.seats = putSeat a s.seats ∨ t.seats = dropSeat a.id s.seats

/-- The record of a session whose next game starts (R80). -/
def Session.nextGame (x : Session) : Session := x.countGames.startGame ((x.pos.map (·.number)).getD 1 + 1)

section
variable {s t : State} {id : Nat} {x y : Session} {a : Seat}

theorem State.endsAs.of_put (h : (putSession y s).endsAs t a) (hy : y.id = a.id) : s.endsAs t a := by
  unfold State.endsAs at h ⊢
  rw [seats_putSession, putSeat_twice (show y.seat.id = a.id from hy)] at h
  refine h.imp_right fun hdrop => hdrop.trans ?_
  rw [show a.id = y.seat.id from hy.symm, dropSeat_putSeat]

/-- The game end of a session (R80). -/
theorem gameEnd_sessions (hx : s.session? id = some x) :
    (gameEnd id s).sessions = if x.atLimit ((x.pos.map (·.number)).getD 1) then s.sessions.filter (·.id != id)
      else s.sessions.map fun z => if z.id = x.id then x.nextGame else z := by
  simp only [gameEnd, hx]
  split
  · show (archiveAll id x.bowlers s).sessions.filter _ = _
    rw [(archiveAll_frame s id x.bowlers).2.2.2.2.1]
  · show (archiveAll id x.bowlers s).sessions.map _ = _
    rw [(archiveAll_frame s id x.bowlers).2.2.2.2.1]
    rfl

theorem selectFresh_seats (hx : s.session? id = some x) (hc : x.cross = false) :
    (selectFresh id s).1.seats = putSeat x.seat s.seats := by
  have hy := x.choose_playsOn
  have hseat := hy.seat
  have hcross : x.choose.1.cross = false := by rw [hy.1]; exact hc
  simp only [selectFresh, hx]
  split
  all_goals rename_i hch; rw [hch] at hseat hcross
  · rw [seats_putSession, hseat]
  · rw [seats_putSession, hseat]
  · dsimp only at hcross
    rw [hcross, if_neg Bool.false_ne_true, seats_putSession, hseat]

theorem selectFresh_none (hx : s.session? id = none) : (selectFresh id s).1 = s := by simp only [selectFresh, hx]

theorem nextFrame_endsAs (hx : s.session? id = some x) (hc : x.cross = false) (f : Nat) :
    s.endsAs (nextFrame id f s).1 x.alone := by
  have hid := session?_id hx
  unfold nextFrame
  split
  · have hends := gameEnd_sessions hx
    split at hends
    · right
      have hnone : (gameEnd id s).session? id = none := by
        unfold State.session?
        rw [hends]
        simp
      rw [selectFresh_none hnone]
      unfold State.seats
      rw [hends]
      exact (seats_dropSession x.id s) ▸ (hid ▸ rfl)
    · left
      have hput : (gameEnd id s).session? id = some x.nextGame := by
        unfold State.session?
        rw [hends]
        have := session?_putSession (y := x.nextGame) (hid ▸ hx : s.session? x.nextGame.id = some x)
        rw [← hid]
        exact this
      rw [selectFresh_seats hput hc]
      have hseat : x.nextGame.seat = x.alone := Session.seat_alone (x := x.nextGame) hc (.inr (.inl rfl))
      have hseats : (gameEnd id s).seats = putSeat x.nextGame.seat s.seats :=
        (seats_of_sessions (s := putSession x.nextGame s) hends).trans (seats_putSession _ _)
      rw [hseats, putSeat_twice rfl, hseat]
  · left
    simp only [hx]
    have hput := session?_putSession (y := x.enterFrame (f + 1)) (hid ▸ hx : s.session? x.id = some x)
    have hseat : (x.enterFrame (f + 1)).seat = x.alone :=
      Session.seat_alone (x := x.enterFrame (f + 1)) hc (.inr (.inl rfl))
    rw [selectFresh_seats (x := x.enterFrame (f + 1)) (hid ▸ hput) hc, seats_putSession, putSeat_twice rfl, hseat]

theorem selectTurn_endsAs (hx : s.session? id = some x) (hc : x.cross = false) (hs : x.state = .playing) :
    s.endsAs (selectTurn id s).1 x.alone := by
  have hid := session?_id hx
  have halone := Session.seat_alone hc (.inr (.inl hs))
  have hy := x.choose_playsOn
  have hcross : x.choose.1.cross = false := by rw [hy.1]; exact hc
  have hyid : x.choose.1.id = x.id := by rw [hy.1]
  have hyalone : x.choose.1.alone = x.alone := by rw [hy.1]; rfl
  have hseat := hy.seat
  simp only [selectTurn, hx]
  split
  all_goals rename_i hch; rw [hch] at hseat hcross hyid hyalone
  · exact .inl (by rw [seats_putSession, hseat, halone])
  · exact .inl (by rw [seats_putSession, hseat, halone])
  · rename_i y
    dsimp only at hcross hyid hyalone ⊢
    rw [hcross, if_neg Bool.false_ne_true]
    have hput : (putSession y s).session? id = some y := by
      have := session?_putSession (y := y) (x := x) (s := s) (by rw [hyid, hid, hx])
      rwa [hyid, hid] at this
    exact hyalone ▸ (nextFrame_endsAs hput hcross _).of_put (by rfl)

/-- A session un-crossed plays without a partner, or leaves the table at its limit (R79). -/
theorem uncross_endsAs (hx : s.session? id = some x) (hs : x.state.transferHeld = false) :
    s.endsAs (uncross id s).1 x.alone := by
  have hid := session?_id hx
  have hput {y : Session} (hy : y.id = x.id) : (putSession y s).session? id = some y := by
    have := session?_putSession (y := y) (x := x) (s := s) (by rw [hy, hid, hx])
    rwa [hy, hid] at this
  simp only [uncross, hx]
  split
  · left
    rw [selectFresh_seats (hput (y := Session.startGame 1 { x with cross := false }) rfl) rfl, seats_putSession, putSeat_twice rfl,
      Session.seat_alone (x := Session.startGame 1 { x with cross := false }) rfl (.inr (.inl rfl))]
    rfl
  · exact (nextFrame_endsAs (hput (y := { x with cross := false }) rfl) rfl _).of_put rfl
  · left
    rename_i hstart hframe
    rw [seats_putSession, Session.seat_alone (x := { x with cross := false }) rfl ?_]
    · rfl
    · cases hst : x.state with
      | forming => exact .inl rfl
      | playing => exact .inr (.inl rfl)
      | suspended q => exact .inr (.inr ⟨q, rfl⟩)
      | waitPartner b =>
        cases b with
        | start => exact absurd hst hstart
        | frame f => exact absurd hst (hframe f)
      | waitMove | moving | parked => rw [hst] at hs; cases hs

end

/-- What becomes of a table of seats when one session ends as a seat without a partner. -/
theorem Paired.of_endsAs {strict : Prop} {r : TransferRec} {s t : State} {a : Seat} (h : Paired strict r (putSeat a s.seats))
    (hk : a.kind = .solo) (he : s.endsAs t a) : Paired strict r t.seats := by
  rcases he with he | he
  · rw [he]
    exact h
  · rw [he, ← dropSeat_putSeat]
    have honly {b : Seat} (hb : b ∈ putSeat a s.seats) (hid : b.id = a.id) : b = a :=
      (mem_putSeat hb).elim (fun h => h) fun h => absurd hid h.2
    refine h.drop (fun b hb hid => ?_) fun _ b hb hid hcross => ?_
    · rw [honly hb hid, hk]
      simp
    · rw [honly hb hid, hk] at hcross
      cases hcross

end Sys2Proof.Machine
end

section
/-! SUPPORT. A crossed pair at its barrier (R76 to R80): what one session's selection and game end leave of the other one, and
the two seats that pass together. -/

namespace Sys2Proof.Machine

/-! ## Operations on one session of the table -/

/-- No session but the one with the id changes. -/
def State.changesOnly (id : Nat) (s t : State) : Prop := ∀ j, j ≠ id → t.session? j = s.session? j

section
variable {s t u : State} {id : Nat} {x y : Session}

theorem State.changesOnly.of_sessions (h : t.sessions = s.sessions) : s.changesOnly id t := fun j _ => by
  unfold State.session?
  rw [h]

theorem State.changesOnly.trans (h : s.changesOnly id t) (h' : t.changesOnly id u) : s.changesOnly id u :=
  fun j hj => (h' j hj).trans (h j hj)

theorem putSession_changesOnly (hx : s.session? id = some x) (hy : y.id = x.id) : s.changesOnly id (putSession y s) :=
  fun _ hj => session?_putSession_other (by rw [hy, session?_id hx]; exact hj)

/-- What a record that plays on keeps. -/
theorem Session.playsOn.kept (h : x.playsOn y) :
    y.id = x.id ∧ y.home = x.home ∧ y.cross = x.cross ∧ y.state = x.state ∧ y.pos = x.pos := by
  obtain ⟨hy, -⟩ := h
  rw [hy]
  exact ⟨rfl, rfl, rfl, rfl, rfl⟩

theorem dropSession_changesOnly (id : Nat) (s : State) : s.changesOnly id (dropSession id s) := by
  intro j hj
  unfold State.session? dropSession
  show (s.sessions.filter (·.id != id)).find? (·.id == j) = _
  rw [List.find?_filter]
  refine congrArg (fun p => s.sessions.find? p) (funext fun z => ?_)
  by_cases hz : z.id = j
  · simp [hz, hj]
  · simp [hz]

theorem gameEnd_changesOnly (id : Nat) (s : State) : s.changesOnly id (gameEnd id s) := by
  unfold gameEnd
  split
  · exact .of_sessions rfl
  · rename_i x hx
    refine .trans (.of_sessions (archiveAll_frame s id x.bowlers).2.2.2.2.1) ?_
    dsimp only
    split
    · exact dropSession_changesOnly id _
    · exact putSession_changesOnly (x := x) (by rwa [archiveAll_session?]) rfl

theorem selectFresh_changesOnly (id : Nat) (s : State) : s.changesOnly id (selectFresh id s).1 := by
  unfold selectFresh
  split
  · exact .of_sessions rfl
  · rename_i x hx
    have hy := x.choose_playsOn.kept.1
    split
    all_goals rename_i hc; rw [hc] at hy
    · exact putSession_changesOnly hx hy
    · exact putSession_changesOnly hx hy
    · split
      · exact putSession_changesOnly hx hy
      · exact putSession_changesOnly hx hy

theorem nextFrame_changesOnly (id f : Nat) (s : State) : s.changesOnly id (nextFrame id f s).1 := by
  unfold nextFrame
  split
  · exact (gameEnd_changesOnly id s).trans (selectFresh_changesOnly id _)
  · split
    · exact .of_sessions rfl
    · rename_i x hx
      exact (putSession_changesOnly (y := x.enterFrame (f + 1)) hx rfl).trans (selectFresh_changesOnly id _)

theorem uncross_changesOnly (id : Nat) (s : State) : s.changesOnly id (uncross id s).1 := by
  unfold uncross
  split
  · exact .of_sessions rfl
  · rename_i x hx
    split
    · exact (putSession_changesOnly hx (by rfl)).trans (selectFresh_changesOnly id _)
    · exact (putSession_changesOnly hx (by rfl)).trans (nextFrame_changesOnly id _ _)
    · exact putSession_changesOnly hx rfl

theorem clearCross_changesOnly (id : Nat) (s : State) : s.changesOnly id (clearCross id s) := by
  unfold clearCross
  split
  · exact .of_sessions rfl
  · rename_i x hx
    exact putSession_changesOnly hx rfl

theorem startOffer_changesOnly (id : Nat) (s : State) : s.changesOnly id (startOffer id s) := by
  unfold startOffer
  split
  · rename_i x _ _ _ _ _ _ _ hx _
    refine .trans (putSession_changesOnly (y := { x with turn := .none, state := .moving .sending }) hx rfl) ?_
    exact .of_sessions (by simp [sendTransfer])
  · exact .of_sessions rfl

end

/-! ## Seats in a frame -/

/-- A crossed session that plays frame f of game n (R65, R78). -/
def Seat.inFrame (a : Seat) (n f : Nat) : Seat :=
  { a with kind := .crossed .playing (some { number := n, frame := f, lane := if f % 2 = 0 then other a.home else a.home }) }

section
variable {strict : Prop} {r r' : TransferRec} {as : List Seat} {a b : Seat} {x : Session}

theorem Session.seat_crossed (hc : x.cross = true) :
    x.seat = { id := x.id, home := x.home, kind := .crossed x.state x.pos } := by
  unfold Session.seat
  rw [Session.kind_of_cross hc]

theorem Session.startGame_seat (hc : x.cross = true) (n : Nat) : (x.startGame n).seat = x.seat.inFrame n 1 := by
  unfold Session.seat Seat.inFrame
  rw [Session.kind_of_cross (x := x.startGame n) hc]
  rfl

theorem Session.nextGame_seat (hc : x.cross = true) :
    x.nextGame.seat = x.seat.inFrame ((x.pos.map (·.number)).getD 1 + 1) 1 := Session.startGame_seat (x := x.countGames) hc _

theorem Session.enterFrame_seat (hc : x.cross = true) {p : GamePos} (hp : x.pos = some p) (f : Nat) :
    (x.enterFrame f).seat = x.seat.inFrame p.number f := by
  unfold Session.seat Seat.inFrame
  rw [Session.kind_of_cross (x := x.enterFrame f) hc]
  simp [Session.enterFrame, Session.laneOfFrame, hc, hp]

theorem crossedSound_inFrame {home : LaneId} {n f : Nat} (hf : 1 ≤ f) (hf' : f ≤ 10) :
    crossedSound home .playing (some { number := n, frame := f, lane := if f % 2 = 0 then other home else home }) := by
  refine ⟨by simp, by simp, by simp, by simp [SessionState.before], fun p hp => ?_⟩
  cases hp
  exact ⟨hf, hf', rfl, by simp [SessionState.waitsAt]⟩

/-- The session that finds no bowler waits at the barrier of its frame (R77). -/
theorem crossedSound.waits {home : LaneId} {pos : Option GamePos} (h : crossedSound home .playing pos) :
    crossedSound home (.waitPartner (.frame ((pos.map (·.frame)).getD 1))) pos := by
  obtain ⟨-, -, -, hbefore, hpos⟩ := h
  cases pos with
  | none => simp [SessionState.before] at hbefore
  | some p =>
    refine ⟨by simp, by simp, by simp, by simp [SessionState.before], fun q hq => ?_⟩
    cases hq
    obtain ⟨hlow, hhigh, hlane, -⟩ := hpos p rfl
    exact ⟨hlow, hhigh, hlane, by simp [SessionState.waitsAt]⟩

theorem eq_other {l k : LaneId} (h : l ≠ k) : k = other l := by
  cases l <;> cases k <;> simp_all [other]

/-- The two seats of a crossed pair enter a frame together (R78). -/
theorem Paired.pairEnters (h : Paired strict r as) {bs : List Seat} (hlen : bs.length ≤ 2) (hnodup : (bs.map (·.id)).Nodup)
    (ha : a ∈ as) (hb : b ∈ as) (hne : a.id ≠ b.id) (hca : a.kind.cross = true) (hcb : b.kind.cross = true) {n f : Nat}
    (hf : 1 ≤ f) (hf' : f ≤ 10) (hall : ∀ c ∈ bs, c = a.inFrame n f ∨ c = b.inFrame n f) (ha' : a.inFrame n f ∈ bs)
    (hb' : b.inFrame n f ∈ bs) : Paired strict r bs := by
  have hnot {c : Seat} (hc : c.kind.cross = true) : c.kind ≠ .parked := fun hk => by rw [hk] at hc; cases hc
  have hhome := (h.together a ha b hb hne (hnot hca) (hnot hcb)).1
  have hsound {c : Seat} (hc : c ∈ as) (hcc : c.kind.cross = true) : (c.inFrame n f).sound r :=
    ⟨crossedSound_inFrame hf hf', fun l hl _ => (h.sound c hc).2 l hl (hnot hcc)⟩
  refine Paired.of_pair hlen hnodup (h.pair_names ha hb hne hca hcb) hall ha' hb' hne (eq_other hhome) rfl rfl
    (hsound ha hca) (hsound hb hcb) ?_
  intro _ _
  refine ⟨hhome, rfl, rfl, fun p q hp hq => ?_⟩
  cases hp
  cases hq
  dsimp only
  split
  · exact fun he => hhome (by simpa using congrArg other he)
  · exact hhome

end

/-! ## Selections -/

section
variable {strict : Prop} {r : TransferRec} {s t : State} {id : Nat} {x y : Session}

/-- The sessions with the id play. -/
def State.plays (s : State) (id : Nat) : Prop := ∀ x, s.session? id = some x → x.state = .playing

theorem Paired.crossed_sound (h : Paired strict r s.seats) (hx : x ∈ s.sessions) (hc : x.cross = true) :
    crossedSound x.home x.state x.pos := ((x.seat_sound_iff r).1 (h.sound _ (mem_seats hx))).1 hc

/-- A crossed session that plays waits at the barrier of its frame. -/
theorem Paired.putWaits (h : Paired strict r s.seats) (hx : s.session? id = some x) (hc : x.cross = true)
    (hplay : x.state = .playing) (hy : x.playsOn y) :
    Paired strict r (putSession { y with state := .waitPartner (.frame ((y.pos.map (·.frame)).getD 1)) } s).seats := by
  have hsound := h.crossed_sound (mem_of_session? hx) hc
  rw [hplay] at hsound
  have hput := h.putCrossed (b := x.seat) (seat_of_session? hx) (Session.kind_of_cross hc) hsound.waits
  obtain ⟨hid, hhome, hcross, -, hpos⟩ := hy.kept
  rw [seats_putSession, Session.seat_crossed (x := { y with state := .waitPartner (.frame ((y.pos.map (·.frame)).getD 1)) })
    (hcross.trans hc), hid, hhome, hpos]
  exact hput

theorem Paired.putSame (h : Paired strict r s.seats) (hx : s.session? id = some x) (hy : y.seat = x.seat) :
    Paired strict r (putSession y s).seats := by
  rw [seats_putSession, hy, putSeat_self h.nodup (seat_of_session? hx)]
  exact h

theorem selectFresh_paired (h : Paired strict r s.seats) (hplay : s.plays id) : Paired strict r (selectFresh id s).1.seats := by
  unfold selectFresh
  split
  · exact h
  · rename_i x hx
    have hy := x.choose_playsOn
    split
    all_goals rename_i hch; rw [hch] at hy
    · exact h.putSame hx hy.seat
    · exact h.putSame hx hy.seat
    · rename_i y
      have hcross : y.cross = x.cross := hy.kept.2.2.1
      split
      · rename_i hc
        exact h.putWaits hx (hcross ▸ hc) (hplay x hx) hy
      · exact h.putSame hx hy.seat

theorem selectBoth_paired {a b : Nat} (h : Paired strict r s.seats) (hab : a ≠ b) (ha : s.plays a) (hb : s.plays b) :
    Paired strict r (selectBoth a b s).1.seats := by
  refine selectFresh_paired (selectFresh_paired h ha) fun x hx => hb x ?_
  rwa [selectFresh_changesOnly a s b hab.symm] at hx

end

end Sys2Proof.Machine
end

section
/-! SUPPORT. The barrier of a crossed pair (R78, R80), and the turn selection, which can bring a session to it (R76, R77). -/

namespace Sys2Proof.Machine

/-! ## The game end of a pair -/

/-- The session leaves the table at the end of its game (R80). -/
def Session.ends (x : Session) : Bool := x.atLimit ((x.pos.map (·.number)).getD 1)

section
variable {s t : State} {id : Nat} {x y x' y' : Session}

theorem session?_put_self (hx : s.session? id = some x) (hy : y.id = x.id) : (putSession y s).session? id = some y := by
  have hid := session?_id hx
  have hput := session?_putSession (y := y) (x := x) (s := s) (by rw [hy, hid, hx])
  rwa [hy, hid] at hput

theorem gameEnd_session? (hx : s.session? id = some x) :
    (gameEnd id s).session? id = if x.ends then none else some x.nextGame := by
  have hid := session?_id hx
  unfold State.session?
  rw [gameEnd_sessions hx]
  show List.find? _ (if x.ends then _ else _) = _
  split
  · simp
  · exact session?_put_self (y := x.nextGame) hx rfl

theorem gameEnd_ids (id : Nat) (s : State) : ((gameEnd id s).sessions.map (·.id)).Sublist (s.sessions.map (·.id)) := by
  cases hx : s.session? id with
  | none => simp only [gameEnd, hx, List.Sublist.refl]
  | some x =>
    rw [gameEnd_sessions hx]
    split
    · exact List.filter_sublist.map _
    · exact (putSession_ids x.nextGame s) ▸ List.Sublist.refl _

theorem clearCross_session? (hx : s.session? id = some x) :
    (clearCross id s).session? id = some { x with cross := false } := by
  simp only [clearCross, hx]
  exact session?_put_self hx rfl

theorem clearCross_ids (id : Nat) (s : State) : (clearCross id s).sessions.map (·.id) = s.sessions.map (·.id) := by
  unfold clearCross
  split
  · rfl
  · exact putSession_ids _ s

/-- What two game ends come to: which of two sessions are left, with the next game of each. -/
structure State.gamesEnd (s t : State) (x y : Session) : Prop where
  ids : (t.sessions.map (·.id)).Sublist (s.sessions.map (·.id))
  first : t.session? x.id = if x.ends then none else some x.nextGame
  second : t.session? y.id = if y.ends then none else some y.nextGame

theorem State.gamesEnd.symm (h : s.gamesEnd t x y) : s.gamesEnd t y x := ⟨h.ids, h.second, h.first⟩

theorem gameEnds (hx : s.session? x.id = some x) (hy : s.session? y.id = some y) (hne : x.id ≠ y.id) :
    s.gamesEnd (gameEnd y.id (gameEnd x.id s)) x y where
  ids := (gameEnd_ids _ _).trans (gameEnd_ids _ _)
  first := by rw [gameEnd_changesOnly y.id _ x.id hne, gameEnd_session? hx]
  second := by
    refine gameEnd_session? ?_
    rw [gameEnd_changesOnly x.id s y.id hne.symm]
    exact hy

theorem bothGameEnds_cases (hx : s.session? x.id = some x) (hy : s.session? y.id = some y) (hne : x.id ≠ y.id) :
    ∃ t, s.gamesEnd t x y ∧ bothGameEnds x.id y.id s =
      if x.ends = y.ends then t else if x.ends then clearCross y.id t else clearCross x.id t := by
  have hgames : ∃ t, s.gamesEnd t x y ∧ t = if Config.freeRunFirst s.free then
        gameEnd y.id (gameEnd x.id (s.setFree (s.free + 1)))
      else gameEnd x.id (gameEnd y.id (s.setFree (s.free + 1))) := by
    refine ⟨_, ?_, rfl⟩
    split
    · obtain ⟨hids, hfirst, hsecond⟩ := gameEnds (s := s.setFree (s.free + 1)) hx hy hne
      exact ⟨hids, hfirst, hsecond⟩
    · obtain ⟨hids, hsecond, hfirst⟩ := gameEnds (s := s.setFree (s.free + 1)) hy hx hne.symm
      exact ⟨hids, hfirst, hsecond⟩
  obtain ⟨t, ht, hdef⟩ := hgames
  refine ⟨t, ht, ?_⟩
  have hfirst := ht.first
  have hsecond := ht.second
  unfold bothGameEnds
  dsimp only
  rw [← hdef]
  cases hxe : x.ends <;> cases hye : y.ends <;> rw [hxe] at hfirst <;> rw [hye] at hsecond <;>
    simp [hfirst, hsecond]

end

/-! ## The pair goes on -/

section
variable {strict : Prop} {r : TransferRec} {s t u : State} {id : Nat} {x y x' y' : Session}

/-- A table with the ids of another one holds the sessions that its ids name. -/
theorem mem_sessions_two (h : Paired strict r s.seats) (hx : s.session? x.id = some x) (hy : s.session? y.id = some y)
    (hne : x.id ≠ y.id) (hids : (t.sessions.map (·.id)).Sublist (s.sessions.map (·.id))) {z : Session} (hz : z ∈ t.sessions) :
    t.session? z.id = some z ∧ (z.id = x.id ∨ z.id = y.id) := by
  refine ⟨session?_of_mem ?_ hz, ?_⟩
  · rw [seats_ids]
    exact hids.nodup (seats_ids s ▸ h.nodup)
  · obtain ⟨w, hw, hid⟩ := List.mem_map.1 (hids.subset (List.mem_map_of_mem hz))
    rw [← hid]
    exact seats_two h.two (seat_of_session? hx) (seat_of_session? hy) hne (mem_seats hw)

theorem seats_two_of_ids (h : Paired strict r s.seats) (hids : (t.sessions.map (·.id)).Sublist (s.sessions.map (·.id))) :
    t.seats.length ≤ 2 ∧ (t.seats.map (·.id)).Nodup := by
  refine ⟨?_, ?_⟩
  · have hlen := hids.length_le
    have htwo := h.two
    unfold State.seats at htwo ⊢
    rw [List.length_map] at hlen htwo ⊢
    rw [List.length_map] at hlen
    omega
  · rw [seats_ids]
    exact hids.nodup (seats_ids s ▸ h.nodup)

/-- A crossed pair, as the barrier finds it. -/
structure State.crossedPair (s : State) (x y : Session) : Prop where
  first : s.session? x.id = some x
  second : s.session? y.id = some y
  ne : x.id ≠ y.id
  crossFirst : x.cross = true
  crossSecond : y.cross = true

theorem State.crossedPair.symm (h : s.crossedPair x y) : s.crossedPair y x :=
  ⟨h.second, h.first, h.ne.symm, h.crossSecond, h.crossFirst⟩

theorem Session.not_parked (hc : x.cross = true) : x.kind ≠ .parked := by
  rw [Session.kind_of_cross hc]
  simp

/-- The pair is in one frame of one game. -/
theorem State.crossedPair.position (hp : s.crossedPair x y) (h : Paired strict r s.seats) :
    x.pos.map (fun p => (p.number, p.frame)) = y.pos.map (fun p => (p.number, p.frame)) := by
  have htog := (h.together _ (seat_of_session? hp.first) _ (seat_of_session? hp.second) hp.ne
    (Session.not_parked hp.crossFirst) (Session.not_parked hp.crossSecond)).2.2.1
  rwa [show x.seat.kind.pos = x.pos from congrArg SeatKind.pos (Session.kind_of_cross hp.crossFirst),
    show y.seat.kind.pos = y.pos from congrArg SeatKind.pos (Session.kind_of_cross hp.crossSecond)] at htog

/-- Both sessions of the pair are written into one frame. -/
theorem State.crossedPair.enters (hp : s.crossedPair x y) (h : Paired strict r s.seats) {n f : Nat} (hf : 1 ≤ f) (hf' : f ≤ 10)
    (hids : (t.sessions.map (·.id)).Sublist (s.sessions.map (·.id))) (hx : t.session? x.id = some x')
    (hy : t.session? y.id = some y') (hx' : x'.seat = x.seat.inFrame n f) (hy' : y'.seat = y.seat.inFrame n f) :
    Paired strict r t.seats := by
  obtain ⟨hlen, hnodup⟩ := seats_two_of_ids h hids
  refine h.pairEnters hlen hnodup (seat_of_session? hp.first) (seat_of_session? hp.second) hp.ne
    (Session.kind_cross x ▸ hp.crossFirst) (Session.kind_cross y ▸ hp.crossSecond) hf hf' (fun c hc => ?_)
    (hx' ▸ seat_of_session? hx) (hy' ▸ seat_of_session? hy)
  obtain ⟨z, hz, rfl⟩ := List.mem_map.1 hc
  obtain ⟨hself, hid⟩ := mem_sessions_two h hp.first hp.second hp.ne hids hz
  rcases hid with hid | hid <;> rw [hid] at hself
  · exact .inl (Option.some.inj (hself.symm.trans hx) ▸ hx')
  · exact .inr (Option.some.inj (hself.symm.trans hy) ▸ hy')

/-- The session left of the pair plays without a partner. -/
theorem State.crossedPair.leaves (hp : s.crossedPair x y) (h : Paired strict r s.seats)
    (hids : (t.sessions.map (·.id)).Sublist (s.sessions.map (·.id))) (hx : t.session? x.id = some x')
    (hy : t.session? y.id = none) (hx' : x'.seat = x.alone) : Paired strict r t.seats := by
  obtain ⟨hlen, hnodup⟩ := seats_two_of_ids h hids
  have hnames := h.pair_names (seat_of_session? hp.first) (seat_of_session? hp.second) hp.ne
    (Session.kind_cross x ▸ hp.crossFirst) (Session.kind_cross y ▸ hp.crossSecond)
  refine Paired.of_solo (a := x.alone) hlen hnodup hnames (fun c hc => ?_) rfl
    fun l hl => (h.sound _ (seat_of_session? hp.first)).2 l hl (Session.not_parked hp.crossFirst)
  obtain ⟨z, hz, rfl⟩ := List.mem_map.1 hc
  obtain ⟨hself, hid⟩ := mem_sessions_two h hp.first hp.second hp.ne hids hz
  rcases hid with hid | hid <;> rw [hid] at hself
  · exact Option.some.inj (hself.symm.trans hx) ▸ hx'
  · rw [hself] at hy
    cases hy

theorem State.plays.of_eq (h : s.session? id = some x) (hx : x.state = .playing) : s.plays id := by
  intro y hy
  rw [h] at hy
  exact Option.some.inj hy ▸ hx

theorem State.plays.of_none (h : s.session? id = none) : s.plays id := by
  intro y hy
  rw [h] at hy
  cases hy

theorem bothGameEnds_paired (h : Paired strict r s.seats) (hp : s.crossedPair x y)
    (hnumber : (x.pos.map (·.number)).getD 1 = (y.pos.map (·.number)).getD 1) :
    Paired strict r (bothGameEnds x.id y.id s).seats ∧ (bothGameEnds x.id y.id s).plays x.id ∧
      (bothGameEnds x.id y.id s).plays y.id := by
  have hleft {t : State} {x y : Session} (hp : s.crossedPair x y) (ht : s.gamesEnd t x y) (hx : x.ends = false)
      (hy : y.ends = true) : Paired strict r (clearCross x.id t).seats ∧ (clearCross x.id t).plays x.id ∧
        (clearCross x.id t).plays y.id := by
    have hfirst := ht.first
    have hsecond := ht.second
    rw [hx] at hfirst
    rw [hy] at hsecond
    have hself := clearCross_session? hfirst
    have hother := (clearCross_changesOnly x.id t y.id hp.ne.symm).trans hsecond
    refine ⟨hp.leaves h (by rw [clearCross_ids]; exact ht.ids) hself hother ?_, .of_eq hself rfl, .of_none hother⟩
    exact Session.seat_alone (x := { x.nextGame with cross := false }) rfl (.inr (.inl rfl))
  obtain ⟨t, ht, hends⟩ := bothGameEnds_cases hp.first hp.second hp.ne
  have hfirst := ht.first
  have hsecond := ht.second
  rw [hends]
  cases hx : x.ends with
  | false =>
    rw [hx] at hfirst
    cases hy : y.ends with
    | false =>
      rw [hy] at hsecond
      exact ⟨hp.enters h (by decide) (by decide) ht.ids hfirst hsecond (Session.nextGame_seat hp.crossFirst)
        (hnumber ▸ Session.nextGame_seat hp.crossSecond), .of_eq hfirst rfl, .of_eq hsecond rfl⟩
    | true => exact hleft hp ht hx hy
  | true =>
    rw [hx] at hfirst
    cases hy : y.ends with
    | false =>
      obtain ⟨hpaired, hplays, hplays'⟩ := hleft hp.symm ht.symm hy hx
      exact ⟨hpaired, hplays', hplays⟩
    | true =>
      rw [hy] at hsecond
      obtain ⟨hlen, hnodup⟩ := seats_two_of_ids h ht.ids
      have hnames := h.pair_names (seat_of_session? hp.first) (seat_of_session? hp.second) hp.ne
        (Session.kind_cross x ▸ hp.crossFirst) (Session.kind_cross y ▸ hp.crossSecond)
      refine ⟨Paired.of_solo (a := x.alone) hlen hnodup hnames (fun c hc => ?_) rfl
        fun l hl => (h.sound _ (seat_of_session? hp.first)).2 l hl (Session.not_parked hp.crossFirst), .of_none hfirst,
        .of_none hsecond⟩
      obtain ⟨z, hz, rfl⟩ := List.mem_map.1 hc
      obtain ⟨hself, hid⟩ := mem_sessions_two h hp.first hp.second hp.ne ht.ids hz
      rcases hid with hid | hid <;> rw [hid] at hself
      · exact absurd (hself.symm.trans hfirst) (by simp)
      · exact absurd (hself.symm.trans hsecond) (by simp)

/-- Both sessions of the pair are written, and then each selects. -/
theorem State.crossedPair.selectsIn (hp : s.crossedPair x y) (h : Paired strict r s.seats) {n f : Nat} (hf : 1 ≤ f)
    (hf' : f ≤ 10) (hx : x'.id = x.id) (hy : y'.id = y.id) (hxp : x'.state = .playing) (hyp : y'.state = .playing)
    (hx' : x'.seat = x.seat.inFrame n f) (hy' : y'.seat = y.seat.inFrame n f) :
    Paired strict r (selectBoth x.id y.id (putSession y' (putSession x' s))).1.seats := by
  have hfirst : (putSession y' (putSession x' s)).session? x.id = some x' := by
    rw [session?_putSession_other (hy ▸ hp.ne)]
    exact session?_put_self hp.first hx
  have hsecond : (putSession y' (putSession x' s)).session? y.id = some y' := by
    refine session?_put_self (x := y) ?_ hy
    rw [session?_putSession_other (hx ▸ hp.ne.symm)]
    exact hp.second
  exact selectBoth_paired (hp.enters h hf hf' (by simp) hfirst hsecond hx' hy') hp.ne (.of_eq hfirst hxp) (.of_eq hsecond hyp)

theorem passBarrier_paired (h : Paired strict r s.seats) (hp : s.crossedPair x y) {b : Barrier} (hb : x.state = .waitPartner b) :
    Paired strict r (passBarrier x y b s).1.seats := by
  have hx := h.crossed_sound (mem_of_session? hp.first) hp.crossFirst
  have hpos := hp.position h
  cases b with
  | start =>
    exact hp.selectsIn h (by decide) (by decide) rfl rfl rfl rfl (Session.startGame_seat hp.crossFirst 1)
      (Session.startGame_seat hp.crossSecond 1)
  | frame f =>
    obtain ⟨-, -, -, hbefore, hframe⟩ := hx
    rw [hb] at hbefore hframe
    cases hxp : x.pos with
    | none => simp [hxp, SessionState.before] at hbefore
    | some p =>
      cases hyp : y.pos with
      | none => simp [hxp, hyp] at hpos
      | some q =>
        obtain ⟨-, hhigh, -, hwaits⟩ := hframe p hxp
        have hpf : f = p.frame := hwaits f rfl
        simp only [hxp, hyp, Option.map_some, Option.some.injEq, Prod.mk.injEq] at hpos
        obtain ⟨hnumber, -⟩ := hpos
        unfold passBarrier
        dsimp only
        split
        · obtain ⟨hpaired, hfirst, hsecond⟩ := bothGameEnds_paired h hp (by simp [hxp, hyp, hnumber])
          exact selectBoth_paired hpaired hp.ne hfirst hsecond
        · exact hp.selectsIn h (by omega) (by omega) rfl rfl rfl rfl (Session.enterFrame_seat hp.crossFirst hxp _)
            (hnumber ▸ Session.enterFrame_seat hp.crossSecond hyp _)

/-- Only a crossed session waits for its partner. -/
theorem Paired.waits_crossed (h : Paired strict r s.seats) (hx : x ∈ s.sessions) {b : Barrier} (hb : x.state = .waitPartner b) :
    x.cross = true := ((x.seat_sound_iff r).1 (h.sound _ (mem_seats hx))).2.1 ⟨b, hb⟩

theorem partner?_mem (h : s.partner? x = some y) :
    y ∈ s.sessions ∧ y.id ≠ x.id ∧ y.home = other x.home ∧ y.state ≠ .parked := by
  have hfound := List.find?_some h
  simp only [Bool.and_eq_true, bne_iff_ne, ne_eq, beq_iff_eq] at hfound
  exact ⟨List.mem_of_find?_eq_some h, hfound.1.1, hfound.1.2, hfound.2⟩

theorem barrierTest_paired (h : Paired strict r s.seats) : Paired strict r (barrierTest id s).1.seats := by
  unfold barrierTest
  split
  · exact h
  · rename_i x hx
    split
    · rename_i b y hb hy
      split
      · rename_i hyb
        obtain ⟨hmem, hne, -, -⟩ := partner?_mem hy
        have hp : s.crossedPair x y := ⟨(session?_id hx).symm ▸ hx, session?_of_mem h.nodup hmem, hne.symm,
          h.waits_crossed (mem_of_session? hx) hb, h.waits_crossed hmem hyb.1⟩
        split
        · exact passBarrier_paired h hp hb
        · exact passBarrier_paired h hp.symm hyb.1
      · exact h
    · exact h

theorem selectTurn_paired (h : Paired strict r s.seats) (hplay : s.plays id) : Paired strict r (selectTurn id s).1.seats := by
  cases hx : s.session? id with
  | none =>
    simp only [selectTurn, hx]
    exact h
  | some x =>
    cases hc : x.cross with
    | false =>
      have halone := Session.seat_alone hc (.inr (.inl (hplay x hx)))
      refine Paired.of_endsAs (s := s) ?_ rfl (selectTurn_endsAs hx hc (hplay x hx))
      rw [← halone, putSeat_self h.nodup (seat_of_session? hx)]
      exact h
    | true =>
      have hy := x.choose_playsOn
      simp only [selectTurn, hx]
      split
      all_goals rename_i hch; rw [hch] at hy
      · exact h.putSame hx hy.seat
      · exact h.putSame hx hy.seat
      · rename_i y
        have hcross : y.cross = true := hy.kept.2.2.1.trans hc
        rw [if_pos hcross]
        exact barrierTest_paired (h.putWaits hx hc (hplay x hx) hy)

end

end Sys2Proof.Machine
end

section
/-! SUPPORT. The pairs through a lane's entry into ARMED and what leads to it: the session resumed, the turn taken on the lane,
the offer of a session that waited for it (R1, R14, R15, R76, R81, R87). -/

namespace Sys2Proof.Machine

/-! ## A state that keeps the pairs -/

/-- The pairs stay sound, and the transfer record names and reserves what it did. -/
structure State.keepsPairs (s t : State) : Prop where
  names : t.transfer.record.names = s.transfer.record.names
  reserves : t.transfer.record.reserves = s.transfer.record.reserves
  pairs : ∀ strict, s.paired strict → t.paired strict

section
variable {s t u : State} {id : Nat} {x y : Session}

theorem State.keepsPairs.refl (s : State) : s.keepsPairs s := ⟨rfl, rfl, fun _ h => h⟩

theorem State.keepsPairs.trans (h : s.keepsPairs t) (h' : t.keepsPairs u) : s.keepsPairs u :=
  ⟨h'.names.trans h.names, h'.reserves.trans h.reserves, fun strict hs => h'.pairs strict (h.pairs strict hs)⟩

theorem State.keepsPairs.of_transfer (ht : t.transfer = s.transfer)
    (h : ∀ strict r, Paired strict r s.seats → Paired strict r t.seats) : s.keepsPairs t :=
  ⟨by rw [ht], by rw [ht], fun strict hs => by unfold State.paired; rw [ht]; exact h strict _ hs⟩

theorem State.keepsPairs.of_sessions (hs : t.sessions = s.sessions) (ht : t.transfer = s.transfer) : s.keepsPairs t :=
  .of_transfer ht fun _ _ h => by rw [seats_of_sessions hs]; exact h

theorem State.keepsPairs.of_keepsSeats (hs : s.keepsSeats t) (ht : t.transfer = s.transfer) : s.keepsPairs t :=
  .of_transfer ht fun _ _ h => by rw [hs h.nodup]; exact h

theorem foldl_keepsPairs {α : Type} {f : State → α → State} (hf : ∀ (u : State) (a : α), u.keepsPairs (f u a)) (as : List α)
    (s : State) : s.keepsPairs (as.foldl f s) := by
  induction as generalizing s with
  | nil => exact .refl s
  | cons a as ih => exact (hf s a).trans (ih _)

theorem startTurn_keepsPairs (l : LaneId) (id : Nat) (s : State) : s.keepsPairs (startTurn l id s) :=
  .of_keepsSeats (startTurn_keepsSeats l id s) (by simp)

theorem startTurns_keepsPairs (r : State × List Nat) : r.1.keepsPairs (startTurns r) :=
  .of_keepsSeats (startTurns_keepsSeats r) (by simp)

theorem truncateCurrent_keepsPairs (id : Nat) (s : State) : s.keepsPairs (truncateCurrent id s) :=
  .of_keepsSeats (truncateCurrent_keepsSeats id s) (by simp)

theorem barrierTest_keepsPairs (id : Nat) (s : State) : s.keepsPairs (barrierTest id s).1 :=
  .of_transfer (by simp) fun _ _ h => barrierTest_paired h

theorem selectTurn_keepsPairs (hplay : s.plays id) : s.keepsPairs (selectTurn id s).1 :=
  .of_transfer (by simp) fun _ _ h => selectTurn_paired h hplay

theorem selectFresh_keepsPairs (hplay : s.plays id) : s.keepsPairs (selectFresh id s).1 :=
  .of_transfer (by simp) fun _ _ h => selectFresh_paired h hplay

/-- A record is replaced by one with its seat. -/
theorem putSession_keepsPairs (hx : s.session? id = some x) (hy : y.seat = x.seat) : s.keepsPairs (putSession y s) :=
  .of_keepsSeats (.put hx hy) rfl

/-! ## The session resumed (R87) -/

/-- The state a suspended session is resumed in. -/
def ResumeState.state : ResumeState → SessionState
  | .forming => .forming
  | .playing => .playing
  | .waitPartner b => .waitPartner b

/-- A session as it is resumed. -/
def Session.resumed (x : Session) (q : ResumeState) : Session := { x with state := q.state }

/-- A suspended session goes back to the state it was suspended in; one that waits for its partner is crossed. -/
theorem putResumed_paired {strict : Prop} {r : TransferRec} (h : Paired strict r s.seats) (hx : x ∈ s.sessions) {q : ResumeState}
    (hs : x.state = .suspended q) (hc : x.cross = true ∨ ∀ b, q ≠ .waitPartner b)
    (hy : (x.resumed q).playsOn y) : Paired strict r (putSession y s).seats := by
  rw [seats_putSession, hy.seat]
  cases hcross : x.cross with
  | true =>
    obtain ⟨-, -, -, hb, hp⟩ := h.crossed_sound hx hcross
    rw [hs] at hb hp
    rw [Session.seat_crossed (x := x.resumed q) hcross]
    refine h.putCrossed (b := x.seat) (q' := q.state) (mem_seats hx) (Session.kind_of_cross hcross) ?_
    cases q with
    | forming => exact ⟨by simp [ResumeState.state], by simp [ResumeState.state], by simp [ResumeState.state], hb, hp⟩
    | playing => exact ⟨by simp [ResumeState.state], by simp [ResumeState.state], by simp [ResumeState.state], hb, hp⟩
    | waitPartner b =>
      cases b with
      | start => exact ⟨by simp [ResumeState.state], by simp [ResumeState.state], by simp [ResumeState.state], hb, hp⟩
      | frame f => exact ⟨by simp [ResumeState.state], by simp [ResumeState.state], by simp [ResumeState.state], hb, hp⟩
  | false =>
    have hq : (x.resumed q).seat = x.alone := by
      refine Session.seat_alone (x := x.resumed q) hcross ?_
      cases q with
      | forming => exact .inl rfl
      | playing => exact .inr (.inl rfl)
      | waitPartner b => exact absurd rfl (hc.resolve_left (by simp [hcross]) b)
    rw [hq, ← Session.seat_alone hcross (.inr (.inr ⟨q, hs⟩)), putSeat_self h.nodup (mem_seats hx)]
    exact h

/-- A suspended session that waited for a partner goes on without one (R79, R87). -/
theorem putUncrossed_paired {strict : Prop} {r : TransferRec} (h : Paired strict r s.seats) (hx : x ∈ s.sessions) {b : Barrier}
    (hs : x.state = .suspended (.waitPartner b)) (hc : x.cross = false) :
    Paired strict r (uncross x.id (putSession { x with state := .waitPartner b } s)).1.seats := by
  have hput := session?_put_self (y := { x with state := .waitPartner b }) (session?_of_mem h.nodup hx) rfl
  refine Paired.of_endsAs (a := x.alone) ?_ rfl ((uncross_endsAs hput rfl).of_put rfl)
  rw [← Session.seat_alone hc (.inr (.inr ⟨_, hs⟩)), putSeat_self h.nodup (mem_seats hx)]
  exact h

theorem resumeOn_paired {strict : Prop} {r : TransferRec} (h : Paired strict r s.seats) (l : LaneId) :
    Paired strict r (resumeOn l s).1.1.seats := by
  unfold resumeOn
  split
  · exact h
  · rename_i x hfind
    have hx : x ∈ s.sessions := List.mem_of_find?_eq_some hfind
    split
    · rename_i hs
      exact putResumed_paired h hx hs (.inr (by simp)) ⟨rfl, rfl⟩
    · rename_i hs
      have hcut (i : Nat) : Paired strict r (putSession (Session.truncate { x with state := .playing } i) s).seats :=
        putResumed_paired h hx hs (.inr (by simp)) (Session.truncate_playsOn _ i)
      have hplain : Paired strict r (putSession { x with state := .playing } s).seats :=
        putResumed_paired h hx hs (.inr (by simp)) ⟨rfl, rfl⟩
      have hfresh (y : Session) (u : State) : (freshBowler y u).seats = u.seats := seats_of_sessions (by simp)
      dsimp only
      split
      · split
        · rw [hfresh]
          exact hcut _
        · rw [hfresh]
          exact hplain
      · split
        · exact hcut _
        · exact hplain
    · rename_i b hs
      dsimp only
      split
      · rename_i hc
        exact barrierTest_paired (putResumed_paired h hx hs (.inl hc) ⟨rfl, rfl⟩)
      · rename_i hc
        exact putUncrossed_paired h hx hs (by simpa using hc)
    · exact h

/-- Every session with the id plays and has no turn. -/
def State.idles (s : State) (id : Nat) : Prop := ∀ x, s.session? id = some x → x.state = .playing ∧ x.turn = .none

theorem State.idles.of_eq (h : s.session? id = some x) (hx : x.state = .playing) (ht : x.turn = .none) : s.idles id := by
  intro y hy
  rw [h] at hy
  exact Option.some.inj hy ▸ ⟨hx, ht⟩

/-- The session that is still to select plays without a turn (R87). -/
theorem resumeOn_idles (hn : (s.seats.map (·.id)).Nodup) {l : LaneId} (h : (resumeOn l s).2 = some id) :
    (resumeOn l s).1.2 = [] ∧ (resumeOn l s).1.1.idles id := by
  unfold resumeOn at h ⊢
  split at h
  · cases h
  · rename_i x hfind
    have hx := session?_of_mem hn (List.mem_of_find?_eq_some hfind)
    split at h
    · cases h
    · have hidle {y : Session} (hy : (x.resumed .playing).playsOn y)
          (h : (if y.turn = .none then some y.id else none) = some id) :
          (if y.turn.holds && !x.turn.holds then freshBowler y (putSession y s) else putSession y s).idles id := by
        obtain ⟨hid, -, -, hstate, -⟩ := hy.kept
        split at h
        · rename_i ht
          rw [if_neg (by simp [ht, Turn.holds]), ← Option.some.inj h]
          exact .of_eq (hid ▸ session?_put_self hx hid) hstate ht
        · cases h
      refine ⟨rfl, hidle ?_ h⟩
      split
      · exact Session.truncate_playsOn _ _
      · exact ⟨rfl, rfl⟩
    · cases h
    · cases h

end

end Sys2Proof.Machine
end

section
/-! SUPPORT. The pairs through a lane's entry into ARMED: the turns taken on the lane, the offer of a session that waited for
it, and the session that is resumed and selects last (R1, R76, R81, R87). -/

namespace Sys2Proof.Machine

section
variable {s t u : State} {id : Nat} {x y : Session}

/-! ## A session that waits for its selection -/

theorem State.idles.plays (h : s.idles id) : s.plays id := fun x hx => (h x hx).1

theorem State.idles.of_session? (h : s.idles id) (ht : t.session? id = s.session? id) : t.idles id := by
  intro x hx
  exact h x (ht ▸ hx)

theorem makeCharge_changesOnly (hx : s.session? id = some x) (l : LaneId) (i n b c a : Nat) :
    s.changesOnly id (makeCharge l x i n b c a s) := by
  have hsame (m : Meter) (body : JournalBody) : (appendEntry l body (writeMeter l m s)).session? id = some x := by
    rw [← hx]
    unfold State.session?
    simp
  refine .trans (.of_sessions ?_) (putSession_changesOnly (hsame _ _) (x.modifyGame_playsOn i _).kept.1)
  simp

theorem admission_changesOnly (hx : s.session? id = some x) (l : LaneId) (i : Nat) (g : Game) (p : GamePos) :
    s.changesOnly id (admission l x i g p s).2 := by
  unfold admission
  dsimp only
  split
  · exact .of_sessions (by simp)
  · split
    · exact .of_sessions (by simp)
    · exact .of_sessions (by simp)
  · split
    · split
      · exact .of_sessions (by simp)
      · split
        · exact .of_sessions (by simp)
        · exact (makeCharge_changesOnly hx l _ _ _ _ _).trans (.of_sessions rfl)
    · exact .of_sessions (by simp)

theorem startTurn_changesOnly (l : LaneId) (id : Nat) (s : State) : s.changesOnly id (startTurn l id s) := by
  unfold startTurn
  split
  · exact .of_sessions rfl
  · rename_i x hx
    split
    · split
      · rename_i p i _ _ _ _ g _
        have ha := admission_changesOnly hx l i g p
        dsimp only
        split
        · split
          · rename_i hadm
            split
            · rename_i y hy
              exact (ha.trans (putSession_changesOnly (y := { y with turn := .active }) hy rfl)).trans
                (.of_sessions (by simp))
            · exact ha.trans (.of_sessions (by simp))
          · exact ha.trans (.of_sessions (by simp))
        · exact .of_sessions rfl
      · exact .of_sessions rfl
    · exact .of_sessions rfl

theorem startTurn_idle (l : LaneId) (h : s.idles id) : startTurn l id s = s := by
  unfold startTurn
  split
  · rfl
  · rename_i x hx
    obtain ⟨-, hturn⟩ := h x hx
    split
    · split
      · rw [if_neg (by simp [hturn])]
      · rfl
    · rfl

theorem startTurn_idles (h : s.idles id) (l : LaneId) (j : Nat) : (startTurn l j s).idles id := by
  by_cases hj : id = j
  · subst hj
    rwa [startTurn_idle l h]
  · exact h.of_session? (startTurn_changesOnly l j s id hj)

theorem startTurns_idles {r : State × List Nat} (h : r.1.idles id) : (startTurns r).idles id := by
  have hfold (l : LaneId) (ids : List Nat) : ∀ u : State, u.idles id → (ids.foldl (fun u j => startTurn l j u) u).idles id := by
    induction ids with
    | nil => exact fun u hu => hu
    | cons j ids ih => exact fun u hu => ih _ (startTurn_idles hu l j)
  exact hfold .B r.2 _ (hfold .A r.2 _ h)

theorem selectBoth_session? {a b : Nat} (ha : id ≠ a) (hb : id ≠ b) : (selectBoth a b s).1.session? id = s.session? id :=
  (selectFresh_changesOnly b _ id hb).trans (selectFresh_changesOnly a s id ha)

theorem bothGameEnds_session? {a b : Nat} (ha : id ≠ a) (hb : id ≠ b) : (bothGameEnds a b s).session? id = s.session? id := by
  have hends : (if Config.freeRunFirst s.free then gameEnd b (gameEnd a (s.setFree (s.free + 1)))
      else gameEnd a (gameEnd b (s.setFree (s.free + 1)))).session? id = s.session? id := by
    split
    · exact (gameEnd_changesOnly b _ id hb).trans (gameEnd_changesOnly a (s.setFree (s.free + 1)) id ha)
    · exact (gameEnd_changesOnly a _ id ha).trans (gameEnd_changesOnly b (s.setFree (s.free + 1)) id hb)
  unfold bothGameEnds
  dsimp only
  split
  · exact (clearCross_changesOnly a _ id ha).trans hends
  · exact (clearCross_changesOnly b _ id hb).trans hends
  · exact hends

theorem passBarrier_session? (hx : id ≠ x.id) (hy : id ≠ y.id) (b : Barrier) :
    (passBarrier x y b s).1.session? id = s.session? id := by
  have hput {x' y' : Session} (hx' : x'.id = x.id) (hy' : y'.id = y.id) :
      (putSession y' (putSession x' s)).session? id = s.session? id := by
    rw [session?_putSession_other (hy' ▸ hy), session?_putSession_other (hx' ▸ hx)]
  unfold passBarrier
  split
  · exact (selectBoth_session? hx hy).trans (hput rfl rfl)
  · split
    · exact (selectBoth_session? hx hy).trans (bothGameEnds_session? hx hy)
    · exact (selectBoth_session? hx hy).trans (hput rfl rfl)

/-- A barrier test changes no session that plays: one that waits for its selection stays as it is. -/
theorem barrierTest_idles (h : s.idles id) (hn : (s.seats.map (·.id)).Nodup) {j : Nat} : (barrierTest j s).1.idles id := by
  unfold barrierTest
  split
  · exact h
  · rename_i x hx
    split
    · rename_i b y hb hy
      split
      · rename_i hyb
        obtain ⟨hmem, -, -, -⟩ := partner?_mem hy
        have hne {z : Session} (hz : z ∈ s.sessions) (hzb : z.state = .waitPartner b) : id ≠ z.id := by
          rintro rfl
          have hplay := (h z (session?_of_mem hn hz)).1
          rw [hzb] at hplay
          cases hplay
        have hxid := hne (mem_of_session? hx) hb
        have hyid := hne hmem hyb.1
        split
        · exact h.of_session? (passBarrier_session? hxid hyid b)
        · exact h.of_session? (passBarrier_session? hyid hxid b)
      · exact h
    · exact h

theorem selectTurn_idles (h : s.idles id) (hn : (s.seats.map (·.id)).Nodup) {j : Nat} (hj : id ≠ j) :
    (selectTurn j s).1.idles id := by
  unfold selectTurn
  split
  · exact h
  · rename_i x hx
    have hy := x.choose_playsOn
    have hput {y : Session} (hid : y.id = x.id) : (putSession y s).idles id :=
      h.of_session? (putSession_changesOnly hx hid id hj)
    split
    all_goals rename_i hch; rw [hch] at hy
    · exact hput hy.kept.1
    · exact hput hy.kept.1
    · split
      · refine barrierTest_idles (s := putSession { (_ : Session) with state := _ } s) (hput (by exact hy.kept.1)) ?_
        rw [seats_putSession, putSeat_ids]
        exact hn
      · exact (hput hy.kept.1).of_session? (nextFrame_changesOnly j _ _ id hj)

/-! ## The entry into ARMED -/

/-- An offer keeps the session and the lane that the transfer record is about (R156). -/
theorem startOffer_record (id : Nat) (s : State) : (startOffer id s).transfer.record.names = s.transfer.record.names ∧
    (startOffer id s).transfer.record.reserves = s.transfer.record.reserves := by
  unfold startOffer
  split
  · rename_i hr
    rw [hr]
    simp [sendTransfer, TransferRec.names, TransferRec.reserves]
  · exact ⟨rfl, rfl⟩

/-- The session that the transfer record names is MOVING once it is offered (R156). -/
theorem startOffer_seats (hx : s.session? id = some x) (hc : x.cross = false) {n : Nat} (hn : s.transfer.record.names = some n) :
    (startOffer id s).seats = putSeat { x.seat with kind := .moving } s.seats := by
  cases hr : s.transfer.record with
  | idle | target => rw [hr] at hn; cases hn
  | source st tag peer lane sid req timer =>
    have hseat : Session.seat { x with turn := .none, state := .moving .sending } = { x.seat with kind := .moving } := by
      unfold Session.seat Session.kind
      rw [hc]
      rfl
    rw [← hseat, ← seats_putSession]
    simp only [startOffer, hx, hr]
    exact seats_of_sessions (by simp [sendTransfer])

theorem startOffer_unnamed (hn : s.transfer.record.names = none) (id : Nat) : startOffer id s = s := by
  unfold startOffer
  split
  · rename_i hr
    rw [hr] at hn
    cases hn
  · rfl

theorem startOffer_waitMove (hx : s.session? id = some x) (hs : x.state = .waitMove) : s.keepsPairs (startOffer id s) := by
  obtain ⟨hnames, hreserves⟩ := startOffer_record id s
  refine ⟨hnames, hreserves, fun strict h => ?_⟩
  refine Paired.of_record (r := s.transfer.record) ?_ hnames hreserves
  cases hn : s.transfer.record.names with
  | none =>
    rw [startOffer_unnamed hn]
    exact h
  | some n =>
    have hc : x.cross = false := by
      by_contra hc
      exact (Session.transfer_parked (h.crossed_sound (mem_of_session? hx) (by simpa using hc))).1 hs
    have hkind : { x.seat with kind := .moving } = x.seat := by
      rw [show x.seat = { x.seat with kind := x.kind } from rfl, (Session.kind_moving hc).2 (.inl hs)]
    rw [startOffer_seats hx hc hn, hkind, putSeat_self h.nodup (seat_of_session? hx)]
    exact h

theorem armedTurn_keepsPairs (l : LaneId) (s : State) (id : Nat) : s.keepsPairs (armedTurn l s id) := by
  unfold armedTurn
  split
  · exact .refl s
  · rename_i x hx
    split
    · split
      · rename_i hs
        have hput : (putSession { x with turn := .none } s).plays id := .of_eq (session?_put_self hx rfl) hs
        exact ((putSession_keepsPairs (y := { x with turn := .none }) hx rfl).trans (selectTurn_keepsPairs hput)).trans
          (startTurns_keepsPairs _)
      · exact startOffer_waitMove hx ‹_›
      · exact startTurn_keepsPairs l id s
      · exact .refl s
    · exact .refl s

theorem armedTurn_idles (h : s.idles id) (hn : (s.seats.map (·.id)).Nodup) (l : LaneId) (j : Nat) :
    (armedTurn l s j).idles id := by
  unfold armedTurn
  split
  · exact h
  · rename_i x hx
    split
    · split
      · rename_i ht _
        have hj : id ≠ j := by
          rintro rfl
          exact absurd (ht.symm.trans (h x hx).2) (by simp)
        refine startTurns_idles (selectTurn_idles (s := putSession { x with turn := .none } s)
          (h.of_session? (putSession_changesOnly hx (by rfl) id hj)) ?_ hj)
        rw [seats_putSession, putSeat_ids]
        exact hn
      · rename_i hs
        have hj : id ≠ j := by
          rintro rfl
          exact absurd (hs.symm.trans (h x hx).1) (by simp)
        exact h.of_session? (startOffer_changesOnly j s id hj)
      · exact startTurn_idles h l j
      · exact h
    · exact h

theorem armedReport_keepsPairs (l : LaneId) (s : State) : s.keepsPairs (armedReport l s) := by
  have hresume : s.keepsPairs (resumeOn l s).1.1 := .of_transfer (by simp) fun _ _ h => resumeOn_paired h l
  have hstart := hresume.trans (startTurns_keepsPairs (resumeOn l s).1)
  have hfold := foldl_keepsPairs (fun u j => armedTurn_keepsPairs l u j)
    ((startTurns (resumeOn l s).1).sessions.map (·.id)) (startTurns (resumeOn l s).1)
  unfold armedReport
  dsimp only
  split
  · rename_i id hid
    have hall := hstart.trans hfold
    refine ⟨?_, ?_, fun strict h => ?_⟩
    · simpa using hall.names
    · simpa using hall.reserves
    · have hidles (ids : List Nat) : ∀ u : State, u.paired strict → u.idles id → (ids.foldl (armedTurn l) u).idles id := by
        induction ids with
        | nil => exact fun u _ hu => hu
        | cons j ids ih => exact fun u hp hu => ih _ ((armedTurn_keepsPairs l u j).pairs strict hp) (armedTurn_idles hu hp.nodup l j)
      obtain ⟨-, hidle⟩ := resumeOn_idles h.nodup hid
      have hlast := hidles ((startTurns (resumeOn l s).1).sessions.map (·.id)) _ (hstart.pairs strict h) (startTurns_idles hidle)
      exact ((selectTurn_keepsPairs hlast.plays).trans (startTurns_keepsPairs _)).pairs strict (hall.pairs strict h)
  · exact hstart.trans hfold

theorem setSeq_keepsPairs (s : State) (l : LaneId) (q : Sequencer) : s.keepsPairs (s.setSeq l q) := .of_sessions rfl rfl

theorem enterArmed_keepsPairs (l : LaneId) (s : State) : s.keepsPairs (enterArmed l s) :=
  (setSeq_keepsPairs s l _).trans (armedReport_keepsPairs l _)

theorem testHeld_keepsPairs (l : LaneId) (s : State) : s.keepsPairs (testHeld l s) := by
  unfold testHeld
  split
  · split
    · exact .refl s
    · split
      · exact .of_sessions (by simp) (by simp)
      · exact enterArmed_keepsPairs l s
  · exact .refl s

theorem dropReasons_keepsPairs (l : LaneId) (f : HoldSet → HoldSet) (s : State) : s.keepsPairs (dropReasons l f s) :=
  (setSeq_keepsPairs s l _).trans (testHeld_keepsPairs l _)

theorem meterTold_keepsPairs (l : LaneId) (s : State) : s.keepsPairs (meterTold l s) := by
  unfold meterTold
  exact State.keepsPairs.trans (t := s.setMeter l { s.meter l with wait := none }) (.of_sessions rfl rfl)
    (dropReasons_keepsPairs l _ _)

theorem withdrawTurn_keepsPairs (x : Session) (s : State) : s.keepsPairs (withdrawTurn x s) := by
  unfold withdrawTurn
  split
  · exact meterTold_keepsPairs _ s
  · exact .refl s

end

end Sys2Proof.Machine
end

section
/-! SUPPORT. The pairs through removals: a session ended with its partner un-crossed, and the sessions of a lane that closes
(R73, R79, R119, R121). -/

namespace Sys2Proof.Machine

section
variable {strict : Prop} {r : TransferRec} {s t u : State} {id : Nat} {x y : Session} {l : LaneId}

theorem takeOut_seats (x : Session) (s : State) : (takeOut x s).seats = dropSeat x.id s.seats := by
  show (dropSession x.id (handOverAll x.id x.bowlers s)).seats = _
  rw [seats_dropSession]
  exact congrArg (dropSeat x.id) (seats_of_sessions (by simp))

theorem takeOut_transfer (x : Session) (s : State) : (takeOut x s).transfer = s.transfer := by
  show (handOverAll x.id x.bowlers s).transfer = _
  simp

/-- A session in transfer is in one of these states. -/
theorem Session.not_moving (h : x.state ≠ .waitMove ∧ ∀ p, x.state ≠ .moving p) : x.kind ≠ .moving := by
  intro hk
  cases hc : x.cross with
  | true => rw [Session.kind_of_cross hc] at hk; cases hk
  | false => exact ((Session.kind_moving hc).1 hk).elim h.1 fun ⟨p, hp⟩ => h.2 p hp

/-- A session that END_SESSION takes (R73). -/
theorem Session.not_held (h : x.state.transferHeld = false) :
    (x.state ≠ .waitMove ∧ ∀ p, x.state ≠ .moving p) ∧ x.kind ≠ .parked := by
  refine ⟨⟨fun hs => ?_, fun p hs => ?_⟩, fun hk => ?_⟩
  · rw [hs] at h
    cases h
  · rw [hs] at h
    cases h
  · cases hc : x.cross with
    | true => exact Session.not_parked hc hk
    | false =>
      rw [(Session.kind_parked hc).1 hk] at h
      cases h

/-- Beside a session without a crossed partner, no other session of the table needs it. -/
theorem Paired.unneeded (h : Paired strict r s.seats) (hx : x ∈ s.sessions) (hp : ∀ y, s.partner? x = some y → y.cross = false)
    (hc : x.cross = true) {a : Seat} (ha : a ∈ s.seats) (hne : a.id ≠ x.id) : a.kind.pos = none := by
  by_contra hpos
  have hcross := SeatKind.cross_of_pos hpos
  obtain ⟨y, hy, rfl⟩ := List.mem_map.1 ha
  have hyc : y.cross = true := y.kind_cross ▸ hcross
  have hhome := (h.together _ (mem_seats hx) _ ha hne.symm (Session.not_parked hc) (Session.not_parked hyc)).1
  obtain ⟨-, -, hparked, -⟩ := h.crossed_sound hy hyc
  have hfound : (s.partner? x).isSome := by
    unfold State.partner?
    rw [List.find?_isSome]
    refine ⟨y, hy, ?_⟩
    simp only [Bool.and_eq_true, bne_iff_ne, ne_eq, beq_iff_eq]
    exact ⟨⟨hne, eq_other hhome⟩, hparked⟩
  obtain ⟨z, hz⟩ := Option.isSome_iff_exists.1 hfound
  obtain ⟨hmem, hzid, -, -⟩ := partner?_mem hz
  have hzy : z.id = y.id := (seats_two h.two (mem_seats hx) ha hne.symm (mem_seats hmem)).resolve_left hzid
  have hzy' : z.seat = y.seat := seat_inj h.nodup (mem_seats hmem) ha hzy
  have hzc : z.kind.cross = true := (congrArg (fun b : Seat => b.kind.cross) hzy').trans hcross
  rw [z.kind_cross, hp z hz] at hzc
  cases hzc

/-- A session that is not in transfer is taken out; no crossed session needs it. -/
theorem takeOut_paired (h : Paired strict r s.seats) (hx : x ∈ s.sessions)
    (hm : x.state ≠ .waitMove ∧ ∀ p, x.state ≠ .moving p) (hp : strict → ∀ y, s.partner? x = some y → y.cross = false) :
    Paired strict r (takeOut x s).seats := by
  have hself {a : Seat} (ha : a ∈ s.seats) (hid : a.id = x.id) : a = x.seat := seat_inj h.nodup ha (mem_seats hx) hid
  rw [takeOut_seats]
  refine h.drop (fun a ha hid => ?_) fun hstrict a ha hid hcross c hc hne => ?_
  · rw [hself ha hid]
    exact Session.not_moving hm
  · rw [hself ha hid] at hcross
    exact h.unneeded hx (hp hstrict) (x.kind_cross ▸ hcross) hc hne

/-! ## END_SESSION (R73) -/

theorem uncross_held (hx : s.session? id = some x) (hs : x.state.transferHeld = true) (hc : x.cross = false) :
    (uncross id s).1.sessions = (putSession x s).sessions := by
  have hself : ({ x with cross := false } : Session) = x := by rw [← hc]
  simp only [uncross, hx]
  split
  · rename_i hst
    rw [hst] at hs
    cases hs
  · rename_i hst
    rw [hst] at hs
    cases hs
  · rw [hself]

/-- The session left alone in the table is un-crossed: it plays without a partner, leaves, or stays as it is. -/
theorem uncross_left (h : Paired False r s.seats) (hr : r.names = none) (hall : ∀ a ∈ s.seats, a.id = id) :
    Paired strict r (uncross id s).1.seats := by
  cases hx : s.session? id with
  | none =>
    have hempty (a : Seat) : a ∉ s.seats := by
      intro ha
      obtain ⟨z, hz, rfl⟩ := List.mem_map.1 ha
      have hfound := session?_of_mem h.nodup hz
      rw [show z.id = id from hall _ ha, hx] at hfound
      cases hfound
    simp only [uncross, hx]
    exact Paired.of_single (a := ⟨id, .A, .solo⟩) h.two h.nodup hr fun a ha => absurd ha (hempty a)
  | some x =>
    have hxs := seat_of_session? hx
    have hself {a : Seat} (ha : a ∈ s.seats) : a = x.seat := seat_inj h.nodup ha hxs ((hall a ha).trans (session?_id hx).symm)
    cases hheld : x.state.transferHeld with
    | true =>
      have hc : x.cross = false := by
        by_contra hc
        obtain ⟨hwait, hmoving, hparked⟩ := Session.transfer_parked (h.crossed_sound (mem_of_session? hx) (by simpa using hc))
        cases hst : x.state with
        | waitMove => exact hwait hst
        | moving p => exact hmoving p hst
        | parked => exact hparked hst
        | forming | playing | suspended | waitPartner => rw [hst] at hheld; cases hheld
      rw [seats_of_sessions (uncross_held hx hheld hc), seats_putSession, putSeat_self h.nodup hxs]
      exact Paired.of_single h.two h.nodup hr fun a ha => ⟨hself ha, h.sound _ hxs, x.kind_cross.trans hc⟩
    | false =>
      obtain ⟨-, hkind⟩ := Session.not_held hheld
      refine Paired.of_endsAs (a := x.alone) ?_ rfl (uncross_endsAs hx hheld)
      refine Paired.of_solo (a := x.alone) (by simpa [putSeat] using h.two) (by rw [putSeat_ids]; exact h.nodup) hr
        (fun a ha => ?_) rfl fun l hl => (h.sound _ hxs).2 l hl hkind
      rcases mem_putSeat ha with ha | ⟨ha, hne⟩
      · exact ha
      · exact absurd (congrArg Seat.id (hself ha)) hne

/-- An operation that adds no session keeps the ids of the table among those before. -/
theorem State.shrinks.seat_ids (h : s.shrinks t) (hn : (s.seats.map (·.id)).Nodup) {a : Seat} (ha : a ∈ t.seats) :
    ∃ b ∈ s.seats, b.id = a.id := by
  obtain ⟨x, hx, rfl⟩ := List.mem_map.1 ha
  rw [seats_ids] at hn
  obtain ⟨y, hy, hentry⟩ := List.mem_map.1 ((h.entries hn).subset (List.mem_map_of_mem hx))
  exact ⟨y.seat, mem_seats hy, congrArg (·.1) hentry⟩

theorem removeSession_keepsPairs (hx : ∀ x, s.session? id = some x → x.state.transferHeld = false) :
    s.keepsPairs (removeSession id s) := by
  unfold removeSession
  split
  · exact .refl s
  · rename_i x hid
    have hheld := hx x hid
    have hmem := mem_of_session? hid
    obtain ⟨hm, hkind⟩ := Session.not_held hheld
    have hout := withdrawTurn_keepsPairs x (takeOut x s)
    dsimp only
    split
    · rename_i y hy
      obtain ⟨hyp, hyc⟩ := Option.filter_eq_some_iff.1 hy
      obtain ⟨hymem, hne, hhome, -⟩ := partner?_mem hyp
      have hnames := (startTurns_keepsPairs (uncross y.id (withdrawTurn x (takeOut x s)))).names
      have hreserves := (startTurns_keepsPairs (uncross y.id (withdrawTurn x (takeOut x s)))).reserves
      have hframe : (uncross y.id (withdrawTurn x (takeOut x s))).1.transfer = (withdrawTurn x (takeOut x s)).transfer := by simp
      rw [hframe, hout.names, takeOut_transfer] at hnames
      rw [hframe, hout.reserves, takeOut_transfer] at hreserves
      refine ⟨hnames, hreserves, fun strict h => ?_⟩
      have hxc : x.cross = true := by
        have htog := (h.together _ (mem_seats hmem) _ (mem_seats hymem) (Ne.symm hne) hkind (Session.not_parked hyc)).2.1
        exact (x.kind_cross.symm.trans htog).trans (y.kind_cross.trans hyc)
      have hnone := h.pair_names (mem_seats hmem) (mem_seats hymem) (Ne.symm hne) (x.kind_cross.trans hxc) (y.kind_cross.trans hyc)
      have htaken : State.paired False (takeOut x s) := by
        unfold State.paired
        rw [takeOut_transfer]
        exact takeOut_paired (Paired.loose h) hmem hm fun hf => hf.elim
      have hleft := hout.pairs False htaken
      have hall (a : Seat) (ha : a ∈ (withdrawTurn x (takeOut x s)).seats) : a.id = y.id := by
        obtain ⟨b, hb, hba⟩ := (withdrawTurn_shrinks x (takeOut x s)).seat_ids htaken.nodup ha
        rw [takeOut_seats] at hb
        obtain ⟨hb, hbx⟩ := mem_dropSeat.1 hb
        rw [← hba]
        exact (seats_two h.two (mem_seats hmem) (mem_seats hymem) (Ne.symm hne) hb).resolve_left hbx
      have hnone' : (withdrawTurn x (takeOut x s)).transfer.record.names = none := by
        rw [hout.names, takeOut_transfer]
        exact hnone
      refine (startTurns_keepsPairs _).pairs strict ?_
      unfold State.paired
      rw [hframe]
      exact uncross_left hleft hnone' hall
    · rename_i hnone
      refine State.keepsPairs.trans ?_ hout
      refine .of_transfer (takeOut_transfer x s) fun strict r h => takeOut_paired h hmem hm fun _ y hy => ?_
      rw [hy] at hnone
      simpa [Option.filter] using hnone

/-! ## The sessions of a lane that closes (R119, R121) -/

/-- No session that uses the lane is in transfer. -/
theorem users_not_moving (h : s.transferHolds l = false) (hx : x ∈ s.users l) :
    x.state ≠ .waitMove ∧ ∀ p, x.state ≠ .moving p := by
  unfold State.transferHolds at h
  rw [Bool.or_eq_false_iff, List.any_eq_false] at h
  have hstate := h.2 x hx
  exact ⟨fun he => by rw [he] at hstate; exact hstate rfl, fun p he => by rw [he] at hstate; exact hstate rfl⟩

theorem mem_users (hx : x ∈ s.users l) : x ∈ s.sessions := List.mem_of_mem_filter hx

/-- The partner of a crossed session that occupies the lane uses it too. -/
theorem partner_uses (hx : x ∈ s.sessions) (ho : x.occupies l = true) (hc : x.cross = true) (hp : s.partner? x = some y) :
    y ∈ s.users l := by
  obtain ⟨hy, -, -, -⟩ := partner?_mem hp
  refine List.mem_filter.2 ⟨hy, ?_⟩
  rw [Bool.or_eq_true]
  refine .inr (List.any_eq_true.2 ⟨x, List.mem_filter.2 ⟨hx, ho⟩, ?_⟩)
  simp [hc, hp]

/-- A session that is the only one to use the lane occupies it. -/
theorem single_occupies (h : s.users l = [x]) : x.occupies l = true := by
  have hx : x ∈ s.users l := by rw [h]; simp
  have huse := (List.mem_filter.1 hx).2
  rw [Bool.or_eq_true] at huse
  refine huse.elim (fun ho => ho) fun hon => ?_
  obtain ⟨w, hw, -⟩ := List.any_eq_true.1 hon
  obtain ⟨hw, ho⟩ := List.mem_filter.1 hw
  have hwu : w ∈ s.users l := List.mem_filter.2 ⟨hw, by rw [ho]; rfl⟩
  rw [h, List.mem_singleton] at hwu
  exact hwu ▸ ho

/-- A session that occupies a lane is not parked. -/
theorem Session.occupies_kind (h : x.occupies l = true) : x.kind ≠ .parked := by
  intro hk
  cases hc : x.cross with
  | true => exact Session.not_parked hc hk
  | false =>
    unfold Session.occupies at h
    simp [(Session.kind_parked hc).1 hk, SessionState.usesFrameLane] at h

theorem takeOut_single (hu : s.users l = [x]) (hm : s.transferHolds l = false) : s.keepsPairs (takeOut x s) := by
  have hx : x ∈ s.users l := by rw [hu]; simp
  have ho := single_occupies hu
  refine .of_transfer (takeOut_transfer x s) fun strict r h =>
    takeOut_paired h (mem_users hx) (users_not_moving hm hx) fun _ y hy => ?_
  by_contra hyc
  have hyc : y.cross = true := by simpa using hyc
  obtain ⟨hymem, hne, -, -⟩ := partner?_mem hy
  have hcross := (h.together _ (mem_seats (mem_users hx)) _ (mem_seats hymem) (Ne.symm hne) (Session.occupies_kind ho)
    (Session.not_parked hyc)).2.1
  have hxc : x.cross = true := (x.kind_cross.symm.trans hcross).trans (y.kind_cross.trans hyc)
  have hyu := partner_uses (mem_users hx) ho hxc hy
  rw [hu, List.mem_singleton] at hyu
  exact hne (congrArg Session.id hyu)

/-- Two sessions that use the lane are all there are: the table is empty once both are out. -/
theorem takeOut_both {s' : State} (hx : x ∈ s.users l) (hy : y ∈ s.users l) (hne : x.id ≠ y.id) (hm : s.transferHolds l = false)
    (hs : s'.sessions = s.sessions) (ht : s'.transfer = s.transfer) : s.keepsPairs (takeOut y (takeOut x s')) := by
  refine .of_transfer (by rw [takeOut_transfer, takeOut_transfer, ht]) fun strict r h => ?_
  have hxs := mem_seats (mem_users hx)
  have hys := mem_seats (mem_users hy)
  have hempty (a : Seat) : a ∉ dropSeat y.id (dropSeat x.id s.seats) := by
    intro ha
    obtain ⟨ha, hay⟩ := mem_dropSeat.1 ha
    obtain ⟨ha, hax⟩ := mem_dropSeat.1 ha
    exact (seats_two h.two hxs hys hne ha).elim hax hay
  have hnames : r.names = none := by
    cases hr : r.names with
    | none => rfl
    | some sid =>
      obtain ⟨a, ha, -, hk⟩ := h.named sid hr
      rcases seats_two h.two hxs hys hne ha with hid | hid
      · rw [seat_inj h.nodup ha hxs hid] at hk
        exact absurd hk (Session.not_moving (users_not_moving hm hx))
      · rw [seat_inj h.nodup ha hys hid] at hk
        exact absurd hk (Session.not_moving (users_not_moving hm hy))
  rw [takeOut_seats, takeOut_seats, seats_of_sessions hs, List.eq_nil_iff_forall_not_mem.2 hempty]
  exact Paired.of_single (a := x.seat) (by simp) (by simp) hnames (by simp)

theorem users_distinct (hn : (s.seats.map (·.id)).Nodup) {rest : List Session} (hu : s.users l = x :: y :: rest) :
    x.id ≠ y.id := by
  have hsub : ((s.users l).map (·.id)).Sublist (s.sessions.map (·.id)) := List.filter_sublist.map _
  have hnodup := hsub.nodup (seats_ids s ▸ hn)
  rw [hu, List.map_cons, List.map_cons, List.nodup_cons] at hnodup
  exact fun he => hnodup.1 (he ▸ List.mem_cons_self)

theorem removeUsers_paired (h : s.paired strict) (hm : s.transferHolds l = false) : (removeUsers l s).paired strict := by
  unfold removeUsers
  split
  · exact h
  · rename_i x hu
    exact ((takeOut_single hu hm).trans (withdrawTurn_keepsPairs x _)).pairs strict h
  · rename_i x y rest hu
    have hne := users_distinct h.nodup hu
    have hx : x ∈ s.users l := by rw [hu]; simp
    have hy : y ∈ s.users l := by rw [hu]; simp
    have hout : s.keepsPairs (if Config.freeRunFirst s.free then takeOut y (takeOut x (s.setFree (s.free + 1)))
        else takeOut x (takeOut y (s.setFree (s.free + 1)))) := by
      split
      · exact takeOut_both hx hy hne hm rfl rfl
      · exact takeOut_both hy hx (Ne.symm hne) hm rfl rfl
    exact ((hout.trans (withdrawTurn_keepsPairs x _)).trans (withdrawTurn_keepsPairs y _)).pairs strict h

end

end Sys2Proof.Machine
end

section
/-! SUPPORT. The pairs through moves: a transfer that starts, ends or fails at the source, and one taken at the target (R155 to
R164). -/

namespace Sys2Proof.Machine

section
variable {strict : Prop} {r : TransferRec} {s t u : State} {id : Nat} {x y : Session} {l : LaneId}

/-! ## The source -/

/-- The session a transfer record names. -/
theorem Paired.named_session (h : Paired strict r s.seats) (hn : r.names = some id) :
    ∃ x, s.session? id = some x ∧ x.kind = .moving ∧ x.cross = false := by
  obtain ⟨a, ha, hid, hk⟩ := h.named id hn
  obtain ⟨x, hx, rfl⟩ := List.mem_map.1 ha
  refine ⟨x, ?_, hk, ?_⟩
  · rw [← session?_of_mem h.nodup hx]
    exact congrArg _ hid.symm
  · rw [← x.kind_cross, show x.kind = .moving from hk]
    rfl

theorem putSession_ids_sublist (y : Session) (s : State) :
    ((putSession y s).seats.map (·.id)).Sublist (s.seats.map (·.id)) := by
  rw [seats_putSession, putSeat_ids]

/-- The session in transfer goes another way, and no transfer goes on. -/
theorem Paired.putEnded (h : Paired strict r s.seats) (hn : r.names = some id) (hx : s.session? id = some x)
    (hid : y.id = x.id) (hhome : y.home = x.home) (hk : y.kind = .parked ∨ y.kind = .solo) :
    Paired strict .idle (putSession y s).seats := by
  obtain ⟨z, hz, hzk, -⟩ := h.named_session hn
  obtain rfl : x = z := Option.some.inj (hx.symm.trans hz)
  have hxs := seat_of_session? hx
  refine h.ended rfl rfl (putSession_ids_sublist y s) (fun b hb => ?_) fun c hc hcross => ⟨c, ?_, rfl, rfl, hcross⟩
  · rw [seats_putSession] at hb
    rcases mem_putSeat hb with rfl | ⟨hb, hne⟩
    · refine ⟨x.seat, hxs, hid.symm, hhome.symm, ?_⟩
      rw [show x.seat.kind = .moving from hzk]
      exact hk
    · refine ⟨b, hb, rfl, rfl, .self (fun hm => hne ?_) fun q pos hq => ?_⟩
      · rw [show y.seat.id = x.id from hid, h.moving_id hn hb hm, session?_id hx]
      · have hs := (h.sound b hb).1
        rw [hq] at hs
        exact hs
  · rw [seats_putSession]
    refine mem_putSeat_other hc fun hcid => ?_
    rw [seat_inj h.nodup hc hxs (hcid.trans hid), show x.seat.kind = .moving from hzk] at hcross
    cases hcross

theorem State.paired.of_idle (h : Paired strict .idle s.seats) : (transferIdle s).paired strict := h

theorem backToPlaying_paired (h : Paired strict r s.seats) (hn : r.names = some id) :
    Paired strict .idle (backToPlaying id s).seats := by
  obtain ⟨x, hx, -, hc⟩ := h.named_session hn
  have hput : Paired strict .idle (putSession { x with state := .playing } s).seats :=
    h.putEnded hn hx rfl rfl (.inr (congrArg Seat.kind (Session.seat_alone (x := { x with state := .playing }) hc (.inr (.inl rfl)))))
  have hselect := selectTurn_paired (id := id) hput (.of_eq (session?_put_self hx rfl) rfl)
  simp only [backToPlaying, hx]
  rw [startTurns_keepsSeats _ hselect.nodup]
  exact hselect

theorem moveFails_paired (h : s.paired strict) (hn : s.transfer.record.names = some id) (req : Nat × Nat) (step : MoveStep)
    (why : Option AnswerReason) : (moveFails id req step why s).paired strict := by
  refine State.paired.of_idle ?_
  rw [seats_of_sessions (show (deferredReply _ _ _ _ _ (backToPlaying id s)).sessions = (backToPlaying id s).sessions by simp)]
  exact backToPlaying_paired h hn

theorem park_paired (h : s.paired strict) (hn : s.transfer.record.names = some id) :
    (park id (transferIdle s)).paired strict := by
  obtain ⟨x, hx, -, hc⟩ := h.named_session hn
  have hput : Paired strict .idle (putSession { x with state := .parked, turn := .none } s).seats :=
    h.putEnded hn hx rfl rfl (.inl ((Session.kind_parked (x := { x with state := .parked, turn := .none }) hc).2 rfl))
  have hx' : (transferIdle s).session? id = some x := hx
  unfold State.paired
  simp only [park, hx']
  rw [seats_of_sessions (t := notice _ _) (s := putSession { x with state := .parked, turn := .none } s) (by simp; rfl)]
  simpa [transferIdle] using hput

theorem moveDone_paired (h : s.paired strict) (hn : s.transfer.record.names = some id) (peer : Nat) (req : Nat × Nat) :
    (moveDone id peer req s).paired strict := by
  have hdrop : Paired strict .idle (dropSeat id s.seats) := by
    have hsub : (dropSeat id s.seats).Sublist s.seats := List.filter_sublist
    refine h.ended rfl rfl (hsub.map _) (fun b hb => ?_) fun c hc hcross => ⟨c, mem_dropSeat.2 ⟨hc, fun hid => ?_⟩, rfl, rfl, hcross⟩
    · obtain ⟨hb, hne⟩ := mem_dropSeat.1 hb
      refine ⟨b, hb, rfl, rfl, .self (fun hm => hne (h.moving_id hn hb hm)) fun q pos hq => ?_⟩
      have hs := (h.sound b hb).1
      rw [hq] at hs
      exact hs
    · obtain ⟨d, hd, hdid, hdk⟩ := h.named id hn
      rw [seat_inj h.nodup hc hd (hid.trans hdid.symm), hdk] at hcross
      cases hcross
  have hseats : (moveDone id peer req s).seats = dropSeat id s.seats := by
    unfold moveDone
    dsimp only
    rw [seats_of_sessions (deferredReply_frame _ _ _ _ _ _).2.2.2.2.1, seats_dropSession]
    rfl
  have hrecord : (moveDone id peer req s).transfer.record = .idle := by
    simp [moveDone, transferIdle]
  unfold State.paired
  rw [hseats, hrecord]
  exact hdrop

/-- Another record that names the same session and reserves the same lane, with the sessions as they are. -/
theorem State.keepsPairs.of_record (hs : t.sessions = s.sessions) (hn : t.transfer.record.names = s.transfer.record.names)
    (hr : t.transfer.record.reserves = s.transfer.record.reserves) : s.keepsPairs t :=
  ⟨hn, hr, fun _ h => by unfold State.paired; rw [seats_of_sessions hs]; exact Paired.of_record h hn hr⟩

theorem sendPart_keepsPairs (hn : s.transfer.record.names = some id) (hr : s.transfer.record.reserves = none) (tag peer : Nat)
    (lane : LaneId) (req : Nat × Nat) (p : Part) : s.keepsPairs (sendPart tag peer lane id req p s) := by
  unfold sendPart
  dsimp only
  split
  · exact .of_record (by simp [sendTransfer]) (by simp [sendTransfer]; exact hn.symm) (by simp [sendTransfer]; exact hr.symm)
  · exact .of_record rfl hn.symm hr.symm

theorem sendCommit_paired (h : s.paired strict) (hn : s.transfer.record.names = some id)
    (hr : s.transfer.record.reserves = none) (tag peer : Nat) (lane : LaneId) (req : Nat × Nat) :
    (sendCommit tag peer lane id req s).paired strict := by
  obtain ⟨x, hx, hk, hc⟩ := Paired.named_session h hn
  let u := s.setTransfer { s.transfer with record := .source .committed (some tag) peer lane id req (some Config.stepLimit) }
  have hrecord : s.keepsPairs u := .of_record rfl hn.symm hr.symm
  have hput : u.keepsPairs (putSession { x with state := .moving .committed } u) := by
    refine putSession_keepsPairs (id := id) (x := x) hx ?_
    have hk' : Session.kind { x with state := .moving .committed } = .moving :=
      (Session.kind_moving (x := { x with state := .moving .committed }) hc).2 (.inr ⟨_, rfl⟩)
    unfold Session.seat
    rw [hk, hk']
  have hu : u.session? id = some x := hx
  have hsend : sendCommit tag peer lane id req s = sendTransfer peer tag .commit (putSession { x with state := .moving .committed } u) := by
    show sendTransfer _ _ _ (match u.session? id with | some x => _ | none => u) = _
    rw [hu]
  rw [hsend]
  exact ((hrecord.trans hput).trans (.of_sessions (by simp) (by simp))).pairs strict h

/-! ## A transfer that starts (R155, R156) -/

/-- The session joins the transfer the record names it for. -/
theorem startTransfer_paired (hx : s.session? id = some x) (hc : x.cross = false) (hn : s.transfer.record.names = some id)
    (h : Paired strict s.transfer.record (putSeat { x.seat with kind := .moving } s.seats)) :
    (startTransfer id s).paired strict := by
  have hoffer {u : State} {y : Session} (hu : u.session? id = some y) (hy : y.seat = x.seat) (hyc : y.cross = false)
      (hseats : putSeat { x.seat with kind := .moving } u.seats = putSeat { x.seat with kind := .moving } s.seats)
      (ht : u.transfer = s.transfer) : (startOffer id u).paired strict := by
    have hnu : u.transfer.record.names = some id := ht ▸ hn
    obtain ⟨hnames, hreserves⟩ := startOffer_record id u
    unfold State.paired
    rw [startOffer_seats hu hyc hnu, hy, hseats]
    exact h.of_record (by rw [hnames, ht]) (by rw [hreserves, ht])
  simp only [startTransfer, hx]
  split
  · have hput (c : Option Nat) : (startOffer id (putSession { x with turn := .none, current := c } s)).paired strict :=
      hoffer (session?_put_self (y := { x with turn := .none, current := c }) hx rfl) rfl hc
        (by rw [seats_putSession, putSeat_twice (by rfl)]) rfl
    split
    · exact (meterTold_keepsPairs _ _).pairs strict (hput _)
    · exact hput _
  · exact hoffer hx rfl hc rfl rfl

/-- A session that is not crossed and plays is engaged by MOVE_SESSION (R155). -/
theorem engaged_paired (h : s.paired strict) (hx : s.session? id = some x) (hc : x.cross = false) (hs : x.state = .playing)
    (hidle : s.transfer.record = .idle) (hn : r.names = some id) (hr : r.reserves = none) :
    Paired strict r (putSeat { x.seat with kind := .moving } s.seats) := by
  refine Paired.engaged (r := s.transfer.record) h (by rw [hidle]; rfl) (seat_of_session? hx) ?_ ?_ hr
  · exact congrArg Seat.kind (Session.seat_alone hc (.inr (.inl hs)))
  · rw [hn]
    exact congrArg some (session?_id hx).symm

theorem truncateCurrent_session? (hx : s.session? id = some x) :
    ∃ y, (truncateCurrent id s).session? id = some y ∧ x.playsOn y := by
  simp only [truncateCurrent, hx]
  split
  · exact ⟨x, hx, rfl, rfl⟩
  · rename_i i _
    exact ⟨x.truncate i, session?_put_self hx (x.truncate_playsOn i).kept.1, x.truncate_playsOn i⟩

/-- MOVE_SESSION taken: the transfer record is written, and the transfer starts or the session waits for its frame's end
(R155). -/
theorem moveTaken_paired (h : s.paired strict) (hx : s.session? id = some x) (hc : x.cross = false) (hs : x.state = .playing)
    (hidle : s.transfer.record = .idle) {u : State} (hu : u.sessions = s.sessions) (hn : u.transfer.record.names = some id)
    (hr : u.transfer.record.reserves = none) (force : Bool) :
    (if force then startTransfer id (truncateCurrent id u) else if x.turn.holds then putSession { x with state := .waitMove } u
      else startTransfer id u).paired strict := by
  have hseats : u.seats = s.seats := seats_of_sessions hu
  have hmoving := engaged_paired h hx hc hs hidle hn hr
  have hux : u.session? id = some x := by
    unfold State.session? at hx ⊢
    rwa [hu]
  split
  · obtain ⟨y, hy, hplays⟩ := truncateCurrent_session? hux
    have ht : (truncateCurrent id u).transfer = u.transfer := by simp
    have hkeeps : (truncateCurrent id u).seats = s.seats := by
      rw [truncateCurrent_keepsSeats id u (by rw [hseats]; exact h.nodup), hseats]
    refine startTransfer_paired hy (hplays.kept.2.2.1.trans hc) (by rw [ht]; exact hn) ?_
    rw [ht, hkeeps, hplays.seat]
    exact hmoving
  · split
    · have hkind : Session.seat { x with state := .waitMove } = { x.seat with kind := .moving } := by
        unfold Session.seat
        rw [(Session.kind_moving (x := { x with state := .waitMove }) hc).2 (.inl rfl)]
      unfold State.paired
      rw [seats_putSession, hkind, hseats]
      exact hmoving
    · exact startTransfer_paired hux hc hn (by rw [hseats]; exact hmoving)

end

end Sys2Proof.Machine
end

section
/-! SUPPORT. The pairs through records that join or return: a session started and begun, one installed at the target, and one
resumed from PARKED (R68, R70, R157, R162, R165). -/

namespace Sys2Proof.Machine

section
variable {strict : Prop} {r : TransferRec} {s t u : State} {id : Nat} {x y : Session} {l : LaneId}

/-! ## What a free lane says of the seats -/

theorem Paired.state_parked (h : Paired strict r s.seats) (hx : x ∈ s.sessions) : x.state = .parked ↔ x.kind = .parked := by
  cases hc : x.cross with
  | true =>
    obtain ⟨-, -, hparked, -⟩ := h.crossed_sound hx hc
    exact iff_of_false hparked (Session.not_parked hc)
  | false => exact (Session.kind_parked hc).symm

/-- A session that is not parked is at home elsewhere than on a lane without sessions. -/
theorem Paired.free_home (h : Paired strict r s.seats) (ho : s.occupied l = false) (hx : x ∈ s.sessions)
    (hk : x.kind ≠ .parked) : x.home ≠ l := by
  rintro rfl
  refine List.any_eq_false.1 ho x hx ?_
  unfold Session.occupies
  simp [mt (h.state_parked hx).1 hk]

theorem Paired.occupies_home (h : Paired strict r s.seats) (hx : x ∈ s.sessions) (hk : x.kind ≠ .parked) :
    x.occupies x.home = true := by
  unfold Session.occupies
  simp [mt (h.state_parked hx).1 hk]

theorem ne_iff_other {k : LaneId} : l ≠ k ↔ l = other k := by cases l <;> cases k <;> decide

/-! ## A session added -/

theorem insertSession_perm (x : Session) (xs : List Session) : (insertSession x xs).Perm (x :: xs) := by
  induction xs with
  | nil => exact .refl _
  | cons y xs ih =>
    unfold insertSession
    split
    · exact .refl _
    · exact (ih.cons y).trans (.swap x y xs)

theorem addSession_seats (x : Session) (s : State) : (addSession x s).seats.Perm (x.seat :: s.seats) :=
  (insertSession_perm x s.sessions).map Session.seat

theorem seats_length (s : State) : s.seats.length = s.sessions.length := by
  unfold State.seats
  rw [List.length_map]

/-- A list of one element at most has no two. -/
theorem mem_unique {α : Type} {as : List α} {a b : α} (h : as.length ≤ 1) (ha : a ∈ as) (hb : b ∈ as) : a = b := by
  match as with
  | [] => cases ha
  | [c] => rw [List.mem_singleton.1 ha, List.mem_singleton.1 hb]
  | _ :: _ :: _ => simp at h

/-- START_SESSION's record joins a table with room, on a lane that no session uses (R67, R68). -/
theorem newSession_paired {a : StartArgs} (h : s.paired True) (hocc : s.occupied l = false) (hres : s.reserved ≠ some l)
    (hclash : s.crossClash l a.cross = false) (hroom : s.tableCount < 2) {u : State} (hu : u.sessions = s.sessions)
    (ht : u.transfer = s.transfer) : (addSession (newSession s.newId l a) u).paired True := by
  have hlen : s.sessions.length ≤ 1 := by
    unfold State.tableCount at hroom
    omega
  have hhome {y : Session} (hy : y ∈ s.sessions) (hk : y.kind ≠ .parked) : y.home = other l :=
    ne_iff_other.1 (Paired.free_home h hocc hy hk)
  have hcross {y : Session} (hy : y ∈ s.sessions) (hk : y.kind ≠ .parked) : y.cross = a.cross := by
    have hno := List.any_eq_false.1 hclash y hy
    rw [← hhome hy hk, Paired.occupies_home h hy hk] at hno
    simpa using hno
  have hkind : (newSession s.newId l a).kind.pos = none := by
    unfold Session.kind newSession
    dsimp only
    split <;> rfl
  have hpos {y : Session} (hy : y ∈ s.sessions) : y.kind.pos = none := by
    by_contra hp
    obtain ⟨b, hb, hne, -⟩ := Paired.partner h trivial _ (mem_seats hy) hp
    have honly : b = y.seat := mem_unique (by rw [seats_length]; exact hlen) hb (mem_seats hy)
    exact hne (congrArg Seat.id honly)
  have hperm := addSession_seats (newSession s.newId l a) u
  rw [seats_of_sessions hu] at hperm
  unfold State.paired
  rw [show (addSession (newSession s.newId l a) u).transfer = s.transfer from ht]
  refine Paired.join h hperm ?_ (fun c hc => ?_) ⟨?_, fun k hk _ he => ?_⟩ (fun c hc _ hcp => ?_) hkind
  · rw [hperm.length_eq, List.length_cons, seats_length]
    omega
  · obtain ⟨y, hy, rfl⟩ := List.mem_map.1 hc
    exact newId_fresh hlen y hy
  · show match (newSession s.newId l a).kind with
      | .parked | .solo => True
      | .moving => _
      | .stray => False
      | .crossed q pos => crossedSound l q pos
    unfold Session.kind newSession
    cases hac : a.cross with
    | false => trivial
    | true => exact ⟨by simp, by simp, by simp, by simp [SessionState.before], by simp⟩
  · exact hres (s.reserved_eq_reserves.trans (hk.trans (congrArg some he.symm)))
  · obtain ⟨y, hy, rfl⟩ := List.mem_map.1 hc
    have hnone : y.kind.pos = none := hpos hy
    refine ⟨?_, ?_, ?_, fun p q hp => ?_⟩
    · exact fun he => other_ne l ((hhome hy hcp).symm.trans he.symm)
    · show (newSession s.newId l a).kind.cross = y.kind.cross
      rw [Session.kind_cross, Session.kind_cross, hcross hy hcp]
      rfl
    · show (newSession s.newId l a).kind.pos.map _ = y.kind.pos.map _
      rw [hkind, hnone]
    · rw [show (newSession s.newId l a).seat.kind.pos = none from hkind] at hp
      cases hp

/-! ## BEGIN (R70) -/

theorem beginSession_keepsPairs (hx : s.session? id = some x) (hs : x.state = .forming) : s.keepsPairs (beginSession x s) := by
  have hxid := session?_id hx
  unfold beginSession
  split
  · rename_i hc
    refine State.keepsPairs.trans (State.keepsPairs.trans ?_ (barrierTest_keepsPairs x.id _)) (startTurns_keepsPairs _)
    refine .of_transfer rfl fun strict r h => ?_
    obtain ⟨-, -, -, hbefore, hpos⟩ := h.crossed_sound (mem_of_session? hx) hc
    rw [hs] at hbefore
    rw [seats_putSession, Session.seat_crossed (x := { x with state := .waitPartner .start, turn := .none }) hc]
    exact h.putCrossed (b := x.seat) (seat_of_session? hx) (Session.kind_of_cross hc)
      ⟨by simp, by simp, by simp, hbefore, fun p hp => by rw [hbefore.1 rfl] at hp; cases hp⟩
  · rename_i hc
    have hc : x.cross = false := by simpa using hc
    have hput : s.keepsPairs (putSession (x.startGame 1) s) := putSession_keepsPairs hx
      ((Session.seat_alone (x := x.startGame 1) hc (.inr (.inl rfl))).trans (Session.seat_alone hc (.inl hs)).symm)
    have hplays : (putSession (x.startGame 1) s).plays x.id :=
      .of_eq (session?_put_self (x := x) (y := x.startGame 1) (hxid.symm ▸ hx) rfl) rfl
    exact (hput.trans (selectFresh_keepsPairs hplays)).trans (startTurns_keepsPairs _)

/-! ## DISCARD_PARKED, RESUME_PARKED (R165) -/

theorem dropParked_paired (h : Paired strict r s.seats) (hx : s.session? id = some x) (hs : x.state = .parked) :
    Paired strict r (dropSession id s).seats := by
  have hk := (h.state_parked (mem_of_session? hx)).1 hs
  have hself {b : Seat} (hb : b ∈ s.seats) (hid : b.id = id) : b.kind = .parked := by
    rw [seat_inj h.nodup hb (seat_of_session? hx) (hid.trans (session?_id hx).symm)]
    exact hk
  rw [seats_dropSession]
  refine h.drop (fun b hb hid => ?_) fun _ b hb hid hcross => ?_
  · rw [hself hb hid]
    simp
  · rw [hself hb hid] at hcross
    cases hcross

theorem State.endsAs.ids {a : Seat} (h : s.endsAs t a) : (t.seats.map (·.id)).Sublist (s.seats.map (·.id)) := by
  rcases h with h | h <;> rw [h]
  · rw [putSeat_ids]
  · exact List.filter_sublist.map _

theorem State.endsAs.mem {a b : Seat} (h : s.endsAs t a) (hb : b ∈ t.seats) : b = a ∨ b ∈ s.seats ∧ b.id ≠ a.id := by
  rcases h with h | h <;> rw [h] at hb
  · exact mem_putSeat hb
  · exact .inr (mem_dropSeat.1 hb)

theorem State.endsAs.mem_other {a b : Seat} (h : s.endsAs t a) (hb : b ∈ s.seats) (hne : b.id ≠ a.id) : b ∈ t.seats := by
  rcases h with h | h <;> rw [h]
  · exact mem_putSeat_other hb hne
  · exact mem_dropSeat.2 ⟨hb, hne⟩

theorem length_le_of_ids (h : (t.seats.map (·.id)).Sublist (s.seats.map (·.id))) : t.seats.length ≤ s.seats.length := by
  have hlen := h.length_le
  rwa [List.length_map, List.length_map] at hlen

theorem resumeParked_paired (h : s.paired True) (hx : s.session? id = some x) (hs : x.state = .parked)
    (hocc : s.occupied x.home = false) (hres : s.reserved ≠ some x.home) : (resumeParked x s).paired True := by
  have hmem := mem_of_session? hx
  have hk := (Paired.state_parked h hmem).1 hs
  have hc : x.cross = false := by
    rw [← x.kind_cross, hk]
    rfl
  let y : Session := { x with state := .playing, pos := x.pos.map fun p => { p with lane := x.home } }
  have hput : (putSession y s).session? x.id = some y := session?_put_self (x := x) ((session?_id hx).symm ▸ hx) rfl
  have hself : s.endsAs (selectTurn x.id (putSession y s)).1 x.alone :=
    (show (putSession y s).endsAs _ x.alone from selectTurn_endsAs (x := y) hput hc rfl).of_put rfl
  have hreserves (k : LaneId) (hk : s.transfer.record.reserves = some k) : x.home ≠ k := by
    rintro rfl
    exact hres (s.reserved_eq_reserves.trans hk)
  have htransfer (v : State × List Nat) (hv : v.1.transfer = s.transfer) (hp : Paired True s.transfer.record v.1.seats) :
      (startTurns v).paired True := by
    refine (startTurns_keepsPairs v).pairs True ?_
    unfold State.paired
    rw [hv]
    exact hp
  unfold resumeParked
  dsimp only
  split
  · rename_i z hz
    have hzmem := List.mem_of_find?_eq_some hz
    have hzfound := List.find?_some hz
    simp only [Bool.and_eq_true, bne_iff_ne, ne_eq] at hzfound
    obtain ⟨⟨hzne, hzc⟩, -⟩ := hzfound
    have hznodup := hself.ids.nodup (Paired.nodup h)
    obtain ⟨hzs, -⟩ : z.seat ∈ s.seats ∧ z.seat.id ≠ x.alone.id :=
      (hself.mem (mem_seats hzmem)).resolve_left fun he => hzne (congrArg Seat.id he)
    have hzk : z.seat.kind = .crossed z.state z.pos := Session.kind_of_cross hzc
    have hzsound : crossedSound z.home z.state z.pos := by
      have hsound := (Paired.sound h _ hzs).1
      rw [hzk] at hsound
      exact hsound
    have hzheld : z.state.transferHeld = false := by
      obtain ⟨hwait, hmoving, hparked, -⟩ := hzsound
      cases hst : z.state with
      | waitMove => exact absurd hst hwait
      | moving p => exact absurd hst (hmoving p)
      | parked => exact absurd hst hparked
      | forming | playing | suspended | waitPartner => rfl
    have hother := uncross_endsAs (session?_of_mem hznodup hzmem) hzheld
    have hall {c : Seat} (hcm : c ∈ (uncross z.id (selectTurn x.id (putSession y s)).1).1.seats) : c = z.alone ∨ c = x.alone := by
      refine (hother.mem hcm).imp_right fun ⟨hcm, hcz⟩ => (hself.mem hcm).resolve_right fun ⟨hcm, hcx⟩ => ?_
      exact (seats_two (Paired.two h) (mem_seats hmem) hzs (Ne.symm hzne) hcm).elim hcx hcz
    have hhome : z.home ≠ x.home := by
      obtain ⟨w, hw, hws⟩ := List.mem_map.1 hzs
      have hwk : w.kind ≠ .parked := by
        rw [show w.kind = z.kind from congrArg Seat.kind hws]
        exact Session.not_parked hzc
      rw [← show w.home = z.home from congrArg Seat.home hws]
      exact Paired.free_home h hocc hw hwk
    refine htransfer _ (by simp) (Paired.of_solos ?_ (hother.ids.nodup hznodup) ?_ (fun c hcm => ?_) fun c hcm d hdm hne => ?_)
    · exact (length_le_of_ids hother.ids).trans ((length_le_of_ids hself.ids).trans (Paired.two h))
    · cases hr : s.transfer.record.names with
      | none => rfl
      | some sid =>
        obtain ⟨b, hb, -, hbk⟩ := Paired.named h sid hr
        rcases seats_two (Paired.two h) (mem_seats hmem) hzs (Ne.symm hzne) hb with hid | hid
        · rw [seat_inj (Paired.nodup h) hb (mem_seats hmem) hid, show x.seat.kind = .parked from hk] at hbk
          cases hbk
        · rw [seat_inj (Paired.nodup h) hb hzs hid, hzk] at hbk
          cases hbk
    · rcases hall hcm with rfl | rfl
      · exact ⟨rfl, fun k hr => (Paired.sound h _ hzs).2 k hr (by rw [hzk]; simp)⟩
      · exact ⟨rfl, hreserves⟩
    · rcases hall hcm with rfl | rfl <;> rcases hall hdm with rfl | rfl
      · exact absurd rfl hne
      · exact hhome
      · exact Ne.symm hhome
      · exact absurd rfl hne
  · rename_i hnone
    refine htransfer _ (by simp) (Paired.of_endsAs (s := s) ?_ rfl hself)
    refine Paired.put h (mem_seats hmem) rfl rfl ⟨trivial, fun k hr _ => hreserves k hr⟩ (fun c hcm hne _ _ hcp => ?_)
      (fun hcross => ?_) (fun hp => absurd rfl hp) fun hm => ?_
    · obtain ⟨w, hw, rfl⟩ := List.mem_map.1 hcm
      have hhome : w.home ≠ x.home := Paired.free_home h hocc hw hcp
      have hwc : w.cross = false := by
        by_contra hwc
        have hwc : w.cross = true := by simpa using hwc
        obtain ⟨v, hv, hvw⟩ := List.mem_map.1 (hself.mem_other hcm hne)
        have hvc : v.cross = true := by
          rw [← v.kind_cross, show v.kind = w.kind from congrArg Seat.kind hvw, w.kind_cross]
          exact hwc
        have hvhome : v.home = other x.home := by
          rw [show v.home = w.home from congrArg Seat.home hvw]
          exact ne_iff_other.1 hhome
        have hvs : v.state = w.state := by
          have hkk : v.kind = w.kind := congrArg Seat.kind hvw
          rw [Session.kind_of_cross hvc, Session.kind_of_cross hwc] at hkk
          exact (SeatKind.crossed.inj hkk).1
        obtain ⟨-, -, hparked, -⟩ := Paired.crossed_sound h hw hwc
        refine List.find?_eq_none.1 hnone v hv ?_
        simp [show v.id = w.id from congrArg Seat.id hvw, hvc, Session.occupies, hvhome, hvs, hparked, show w.id ≠ x.id from hne]
      have hwpos : w.kind.pos = none := by
        by_contra hp
        rw [← w.kind_cross, SeatKind.cross_of_pos hp] at hwc
        cases hwc
      refine ⟨Ne.symm hhome, ?_, ?_, fun p q hp => by cases hp⟩
      · show false = w.kind.cross
        rw [w.kind_cross, hwc]
      · show none = w.kind.pos.map _
        rw [hwpos]
        rfl
    · rw [show x.seat.kind = .parked from hk] at hcross
      cases hcross
    · rw [show x.seat.kind = .parked from hk] at hm
      cases hm

end

end Sys2Proof.Machine
end

section
/-! SUPPORT. The pairs through an offer taken, a session installed, a warm reset and a power-on (R85, R86, R157, R162, R183,
R188). -/

namespace Sys2Proof.Machine

section
variable {strict : Prop} {r : TransferRec} {s t u : State} {id : Nat} {x y : Session} {l : LaneId}

/-! ## The target (R157, R162) -/

/-- An offer taken reserves a lane that no session uses. -/
theorem offer_paired (h : s.paired strict) (hidle : s.transfer.record = .idle) (hocc : s.occupied l = false)
    (hs : t.sessions = s.sessions) (hn : t.transfer.record.names = none) (hr : t.transfer.record.reserves = some l) :
    t.paired strict := by
  have hnames : s.transfer.record.names = none := by rw [hidle]; rfl
  unfold State.paired
  rw [seats_of_sessions hs]
  refine ⟨h.two, h.nodup, fun a ha => ⟨?_, fun k hk hp => ?_⟩, h.together, h.partner, fun n hid => ?_⟩
  · have hsound := (h.sound a ha).1
    cases hk : a.kind with
    | moving => exact absurd hk (h.not_moving hnames ha)
    | parked | solo => trivial
    | stray | crossed => rw [hk] at hsound; exact hsound
  · rw [hr] at hk
    cases hk
    obtain ⟨x, hx, rfl⟩ := List.mem_map.1 ha
    exact Paired.free_home h hocc hx hp
  · rw [hn] at hid
    cases hid

theorem mem_of_perm {xs ys : List Session} (h : xs.Perm (x :: ys)) {z : Session} : z ∈ xs ↔ z = x ∨ z ∈ ys := by
  rw [h.mem_iff, List.mem_cons]

/-- A session that plays without a partner joins a table of one session at most, on a lane reserved for it; a crossed session
there is un-crossed. -/
theorem newcomer_uncross_paired (h : s.paired True) (hlen : s.sessions.length ≤ 1) (hn : s.transfer.record.names = none)
    (hl : s.transfer.record.reserves = some x.home) (hxc : x.cross = false) (hxs : x.state = .playing)
    (hfresh : ∀ z ∈ s.sessions, z.id ≠ x.id) (hu : u.sessions = insertSession x s.sessions) :
    (∀ y ∈ u.sessions, y.id ≠ x.id → y.cross = true → Paired True .idle (uncross y.id u).1.seats) ∧
      ((∀ y ∈ u.sessions, y.id ≠ x.id → y.cross = true → y.occupies (other x.home) = false) → Paired True .idle u.seats) := by
  have hperm : u.sessions.Perm (x :: s.sessions) := hu ▸ insertSession_perm x s.sessions
  have hseats : u.seats.Perm (x.seat :: s.seats) := hperm.map Session.seat
  have htwo : u.seats.length ≤ 2 := by
    rw [hseats.length_eq, List.length_cons, seats_length]
    omega
  have hnodup : (u.seats.map (·.id)).Nodup := by
    rw [(hseats.map _).nodup_iff, List.map_cons, List.nodup_cons]
    refine ⟨fun hin => ?_, Paired.nodup h⟩
    rw [seats_ids] at hin
    obtain ⟨z, hz, hid⟩ := List.mem_map.1 hin
    exact hfresh z hz hid
  have halone := Session.seat_alone hxc (.inr (.inl hxs))
  have hhome {z : Session} (hz : z ∈ s.sessions) (hk : z.kind ≠ .parked) : z.home ≠ x.home :=
    (Paired.sound h _ (mem_seats hz)).2 _ hl hk
  refine ⟨fun y hy hne hyc => ?_, fun hnone => ?_⟩
  · have hys := (mem_of_perm hperm).1 hy |>.resolve_left fun he => hne (congrArg Session.id he)
    have honly {z : Session} (hz : z ∈ s.sessions) : z = y := mem_unique hlen hz hys
    have hheld : y.state.transferHeld = false := by
      obtain ⟨hwait, hmoving, hparked, -⟩ := Paired.crossed_sound h hys hyc
      cases hst : y.state with
      | waitMove => exact absurd hst hwait
      | moving p => exact absurd hst (hmoving p)
      | parked => exact absurd hst hparked
      | forming | playing | suspended | waitPartner => rfl
    have hmem {c : Seat} (hc : c ∈ putSeat y.alone u.seats) : c = y.alone ∨ c = x.alone := by
      refine (mem_putSeat hc).imp_right fun ⟨hc, hcy⟩ => ?_
      obtain ⟨z, hz, rfl⟩ := List.mem_map.1 hc
      rcases (mem_of_perm hperm).1 hz with rfl | hz
      · exact halone
      · exact absurd (congrArg Session.id (honly hz)) hcy
    have hyhome := hhome hys (Session.not_parked hyc)
    have hends : u.endsAs (uncross y.id u).1 y.alone := uncross_endsAs (session?_of_mem hnodup hy) hheld
    refine Paired.of_endsAs ?_ rfl hends
    refine Paired.of_solos (by simpa [putSeat] using htwo) (by rw [putSeat_ids]; exact hnodup) rfl (fun c hc => ?_)
      fun c hc d hd hcd => ?_
    · rcases hmem hc with rfl | rfl
      · exact ⟨rfl, fun k hk => by cases hk⟩
      · exact ⟨rfl, fun k hk => by cases hk⟩
    · rcases hmem hc with rfl | rfl <;> rcases hmem hd with rfl | rfl
      · exact absurd rfl hcd
      · exact hyhome
      · exact Ne.symm hyhome
      · exact absurd rfl hcd
  · refine Paired.join (a := x.seat) (h.idled hn) hseats htwo (fun c hc => ?_) ?_ (fun c hc _ hcp => ?_) ?_
    · obtain ⟨z, hz, rfl⟩ := List.mem_map.1 hc
      exact hfresh z hz
    · rw [halone]
      exact ⟨trivial, fun k hk => by cases hk⟩
    · obtain ⟨z, hz, rfl⟩ := List.mem_map.1 hc
      have hzc : z.cross = false := by
        by_contra hzc
        have hzc : z.cross = true := by simpa using hzc
        have hno := hnone z ((mem_of_perm hperm).2 (.inr hz)) (hfresh z hz) hzc
        rw [← ne_iff_other.1 (hhome hz hcp), Paired.occupies_home h hz hcp] at hno
        cases hno
      have hzp : z.kind.pos = none := by
        by_contra hp
        rw [← z.kind_cross, SeatKind.cross_of_pos hp] at hzc
        cases hzc
      rw [halone]
      refine ⟨Ne.symm (hhome hz hcp), ?_, ?_, fun p q hp => by cases hp⟩
      · show false = z.kind.cross
        rw [z.kind_cross, hzc]
      · show none = z.kind.pos.map _
        rw [hzp]
        rfl
    · rw [halone]
      rfl

theorem startTurns_paired {v : State × List Nat} (h : Paired strict r v.1.seats) : Paired strict r (startTurns v).seats := by
  rw [startTurns_keepsSeats v h.nodup]
  exact h

theorem withNewcomer_sessions (tag peer : Nat) (x : Session) (s : State) :
    (s.withNewcomer tag peer x).sessions = insertSession x s.sessions := by
  show (sendTransfer peer tag .done (addSession x s)).sessions = _
  simp [addSession]

theorem install_paired {tag peer : Nat} {o : OfferFields} {ps : List (IdentFields × BallsFields)} (h : s.paired True)
    (htable : tableSound s) (hn : s.transfer.record.names = none) (hr : s.transfer.record.reserves = some o.lane) :
    (install tag peer o ps s).paired True := by
  have hlen : s.sessions.length ≤ 1 := by
    have hcount := htable.1
    unfold State.tableCount at hcount
    rw [s.reserved_eq_reserves, hr] at hcount
    simpa using hcount
  have hfresh := newId_fresh hlen
  have hsessions := withNewcomer_sessions tag peer (o.newcomer s.newId ps) s
  obtain ⟨hcrossed, halone⟩ := newcomer_uncross_paired (x := o.newcomer s.newId ps) (u := s.withNewcomer tag peer (o.newcomer s.newId ps))
    h hlen hn hr rfl rfl hfresh hsessions
  have hmem : o.newcomer s.newId ps ∈ (s.withNewcomer tag peer (o.newcomer s.newId ps)).sessions := by
    rw [hsessions]
    exact (insertSession_perm _ _).mem_iff.2 List.mem_cons_self
  have hfound : (s.withNewcomer tag peer (o.newcomer s.newId ps)).session? s.newId = some (o.newcomer s.newId ps) := by
    refine session?_of_mem (x := o.newcomer s.newId ps) ?_ hmem
    rw [seats_ids, hsessions, ((insertSession_perm _ _).map _).nodup_iff, List.map_cons, List.nodup_cons]
    refine ⟨fun hin => ?_, seats_ids s ▸ Paired.nodup h⟩
    obtain ⟨z, hz, hid⟩ := List.mem_map.1 hin
    exact hfresh z hz hid
  unfold State.paired
  rw [install_transfer]
  cases hfind : (s.withNewcomer tag peer (o.newcomer s.newId ps)).sessions.find? (crossedBeside o s.newId) with
  | none =>
    rw [install_alone hfind]
    have hpaired := halone fun y hy hne hyc => by
      have hno := List.find?_eq_none.1 hfind y hy
      unfold crossedBeside at hno
      have hne' : (y.id != s.newId) = true := bne_iff_ne.2 hne
      rw [hne', hyc] at hno
      exact Bool.eq_false_iff.2 hno
    have hselect := selectTurn_paired hpaired (.of_eq hfound rfl)
    exact startTurns_paired hselect
  | some y =>
    rw [install_crossed hfind]
    have hy := List.find?_some hfind
    unfold crossedBeside at hy
    simp only [Bool.and_eq_true, bne_iff_ne, ne_eq] at hy
    obtain ⟨⟨hne, hyc⟩, -⟩ := hy
    have hpaired := hcrossed y (List.mem_of_find?_eq_some hfind) hne hyc
    have hplays := (uncross_changesOnly y.id _ s.newId (Ne.symm hne)).trans hfound
    have hselect := selectTurn_paired hpaired (.of_eq hplays rfl)
    exact startTurns_paired (v := (_, _)) hselect

/-! ## Resets (R85, R86) -/

/-- What a reset leaves of the sessions: ids and home lanes stay, a transfer is over, a crossed session keeps its position. -/
theorem reset_paired {f : Session → Session} (h : Paired strict r s.seats) (hs : t.sessions = s.sessions.map f)
    (ht : t.transfer.record = .idle) (hid : ∀ x, (f x).id = x.id) (hhome : ∀ x, (f x).home = x.home)
    (hkind : ∀ x ∈ s.sessions, (x.cross = true → crossedSound x.home x.state x.pos) →
      (∀ b, x.state = .waitPartner b → x.cross = true) → x.kind.endsIn x.home (f x).kind) :
    t.paired strict := by
  have hmap : t.sessions.map (·.id) = s.sessions.map (·.id) := by
    rw [hs, List.map_map]
    exact List.map_congr_left fun x _ => hid x
  have hends {x : Session} (hx : x ∈ s.sessions) : x.kind.endsIn x.home (f x).kind := hkind x hx (h.crossed_sound hx) fun _ hb => h.waits_crossed hx hb
  unfold State.paired
  rw [ht]
  refine h.ended rfl rfl (by rw [seats_ids, seats_ids, hmap]) (fun b hb => ?_) fun c hc hcross => ?_
  · obtain ⟨y, hy, rfl⟩ := List.mem_map.1 hb
    rw [hs] at hy
    obtain ⟨x, hx, rfl⟩ := List.mem_map.1 hy
    refine ⟨x.seat, mem_seats hx, (hid x).symm, (hhome x).symm, ?_⟩
    rw [show (f x).seat.home = x.home from hhome x]
    exact hends hx
  · obtain ⟨x, hx, rfl⟩ := List.mem_map.1 hc
    refine ⟨(f x).seat, mem_seats (hs ▸ List.mem_map_of_mem hx), hid x, hhome x, ?_⟩
    have hxc : x.cross = true := x.kind_cross ▸ hcross
    have hxe := hends hx
    rw [Session.kind_of_cross hxc] at hxe
    obtain ⟨q, hq, -⟩ := hxe
    show (f x).kind.cross = true
    rw [hq]
    rfl

theorem Session.warm_ends (hs : x.cross = true → crossedSound x.home x.state x.pos) : x.kind.endsIn x.home x.warm.kind := by
  cases hc : x.cross with
  | true =>
    obtain ⟨hwait, hmoving, -⟩ := hs hc
    have hsame : x.warm = x := by
      unfold Session.warm
      split
      · exact absurd ‹_› (hmoving _)
      · exact absurd ‹_› (hmoving _)
      · exact absurd ‹_› hwait
      · rfl
    rw [hsame]
    refine .self (by rw [Session.kind_of_cross hc]; simp) fun q pos hk => ?_
    rw [Session.kind_of_cross hc] at hk
    cases hk
    exact hs hc
  | false =>
    unfold Session.warm Session.kind
    rw [hc]
    cases hst : x.state with
    | moving p =>
      cases p with
      | sending => exact .inr (by simp)
      | committed => exact .inl (by simp)
    | waitMove => exact .inr (by simp)
    | forming | playing | suspended | waitPartner | parked => simp [hc, hst, SeatKind.endsIn]

theorem Session.kept_ends (hs : x.cross = true → crossedSound x.home x.state x.pos)
    (hw : ∀ b, x.state = .waitPartner b → x.cross = true) : x.kind.endsIn x.home x.kept.kind := by
  cases hc : x.cross with
  | true =>
    obtain ⟨hwait, hmoving, hparked, hbefore, hpos⟩ := hs hc
    rw [Session.kind_of_cross hc]
    unfold Session.kept Session.kind
    cases hst : x.state with
    | moving p => exact absurd hst (hmoving p)
    | waitMove => exact absurd hst hwait
    | parked => exact absurd hst hparked
    | forming | playing | suspended =>
      rw [hst] at hbefore hpos
      dsimp only
      rw [hc, if_pos rfl]
      exact ⟨_, rfl, by simp, by simp, by simp, hbefore, hpos⟩
    | waitPartner b =>
      rw [hst] at hbefore hpos
      dsimp only
      rw [hc, if_pos rfl]
      refine ⟨_, rfl, by simp, by simp, by simp, ?_, hpos⟩
      cases b with
      | start | frame => exact hbefore
  | false =>
    unfold Session.kept Session.kind
    rw [hc]
    cases hst : x.state with
    | moving p =>
      cases p with
      | sending => exact .inr (by simp)
      | committed => exact .inl (by simp)
    | waitMove => exact .inr (by simp)
    | forming | playing | suspended | parked => simp [SeatKind.endsIn]
    | waitPartner b => exact absurd (hw b hst) (by simp [hc])

end

end Sys2Proof.Machine
end

section
/-! SUPPORT. The invariants of the lists, of the session table and of the pairs as one relation between a state and the next,
and the resets under it (R85, R86, R183, R188). -/

namespace Sys2Proof.Machine

/-- An event leads from lists, counters, a session table and pairs as the rules say to such ones. -/
structure State.keepsSound (s t : State) : Prop where
  lists : listsSound s ∧ numbersSound s → listsSound t ∧ numbersSound t
  table : tableSound s → tableSound t
  pairs : tableSound s → s.paired True → t.paired True

section
variable {s t u : State} {id : Nat} {x y : Session} {l : LaneId}

theorem State.keepsSound.refl (s : State) : s.keepsSound s := ⟨fun h => h, fun h => h, fun _ h => h⟩

theorem State.keepsSound.trans (h : s.keepsSound t) (h' : t.keepsSound u) : s.keepsSound u :=
  ⟨fun hs => h'.lists (h.lists hs), fun hs => h'.table (h.table hs), fun hs hp => h'.pairs (h.table hs) (h.pairs hs hp)⟩

theorem lists_of_shrinks (h : s.shrinks t) (hs : listsSound s ∧ numbersSound s) : listsSound t ∧ numbersSound t := by
  rw [lists_numbers_iff] at hs ⊢
  obtain ⟨hblocks, htag, hid⟩ := hs
  rw [h.nextId]
  exact ⟨h.blocks hblocks, h.tag htag, hid⟩

theorem table_of_shrinks (h : s.shrinks t) (hs : tableSound s) : tableSound t := by
  obtain ⟨hcount, hnodup, hsize, hlow, hhigh, hoffer⟩ := hs
  have hsub := h.entries hnodup
  refine ⟨?_, ?_, fun x hx => ?_, by rw [h.nextId]; exact hlow, by rw [h.nextId]; exact hhigh,
    fun r tag peer o parts bad n he => ?_⟩
  · have hlen := hsub.length_le
    rw [List.length_map, List.length_map] at hlen
    unfold State.tableCount at hcount ⊢
    rw [reserved_eq] at hcount ⊢
    rcases h.held with hheld | hheld <;> rw [hheld]
    · have hnone : (Option.map (·.1) (none : Option (LaneId × Nat × Nat))).isSome.toNat = 0 := rfl
      omega
    · omega
  · rw [← map_entry_ids] at hnodup ⊢
    exact (hsub.map _).nodup hnodup
  · obtain ⟨y, hy, hentry⟩ := List.mem_map.1 (hsub.subset (List.mem_map_of_mem hx))
    simp only [Session.entry, Prod.mk.injEq] at hentry
    obtain ⟨hid, hxsize, hlen⟩ := hentry
    have hy' := hsize y hy
    rwa [hid, hxsize, hlen] at hy'
  · have hheld := h.held
    rw [he] at hheld
    rcases hheld with hheld | hheld
    · cases hheld
    · cases hr : s.transfer.record with
      | idle | source => rw [hr] at hheld; cases hheld
      | target r' tag' peer' o' parts' bad' n' =>
        rw [hr] at hheld
        simp only [TransferRec.held, Option.some.injEq, Prod.mk.injEq] at hheld
        obtain ⟨-, hsize', hlen⟩ := hheld
        rw [hsize', hlen]
        exact hoffer _ _ _ _ _ _ _ hr

/-- An event that adds nothing to the table. -/
theorem State.keepsSound.of_shrinks (h : s.shrinks t) (hp : tableSound s → s.paired True → t.paired True) : s.keepsSound t :=
  ⟨lists_of_shrinks h, table_of_shrinks h, hp⟩

theorem State.keepsSound.of_pairs (h : s.shrinks t) (hp : s.keepsPairs t) : s.keepsSound t :=
  .of_shrinks h fun _ => hp.pairs True

/-- An event that writes neither the session table nor the transfer unit. -/
theorem State.keepsSound.of_blocks (hb : s.blocksSound → t.blocksSound) (hs : t.sessions = s.sessions)
    (ht : t.transfer = s.transfer) (hn : t.nextId = s.nextId) : s.keepsSound t :=
  .of_pairs (.of_blocks hb hs ht hn) (.of_sessions hs ht)

end

end Sys2Proof.Machine
end

section
/-! SUPPORT. What the operations of the blocks leave of the lists, the session table and the pairs: operations that write
neither the session table nor the transfer unit, removals and the entry into ARMED, and the resets. -/

namespace Sys2Proof.Machine

section
variable {s t u : State} {id : Nat} {x y : Session}

/-! ## Operations on the blocks -/

theorem State.keepsSound.ite {c : Prop} [Decidable c] (ht : s.keepsSound t) (hu : s.keepsSound u) :
    s.keepsSound (if c then t else u) := by
  split
  · exact ht
  · exact hu

/-- Only blocks without a range of their own are written. -/
theorem State.keepsSound.of_same (hw : t.spacing = s.spacing) (hr : t.ret = s.ret) (hb : t.store = s.store) (hc : t.ctl = s.ctl)
    (hg : t.link.group = s.link.group) (hs : t.sessions = s.sessions) (ht : t.transfer = s.transfer)
    (hn : t.nextId = s.nextId) : s.keepsSound t := .of_blocks (fun h => h.of_same (congrArg _ hw) hr hb hc hg) hs ht hn

theorem setSeq_keepsSound (s : State) (l : LaneId) (q : Sequencer) : s.keepsSound (s.setSeq l q) :=
  .of_same rfl rfl rfl rfl rfl rfl rfl rfl

theorem setMeter_keepsSound (s : State) (l : LaneId) (m : Meter) : s.keepsSound (s.setMeter l m) :=
  .of_same rfl rfl rfl rfl rfl rfl rfl rfl

theorem setDeck_keepsSound (s : State) (l : LaneId) (d : Deck) : s.keepsSound (s.setDeck l d) :=
  .of_same rfl rfl rfl rfl rfl rfl rfl rfl

theorem setTariff_keepsSound (s : State) (t : Tariff) : s.keepsSound (s.setTariff t) :=
  .of_same rfl rfl rfl rfl rfl rfl rfl rfl

theorem setLink_keepsSound {k : Link} (hg : k.group = s.link.group) : s.keepsSound (s.setLink k) :=
  .of_same rfl rfl rfl rfl hg rfl rfl rfl

theorem setSpacing_keepsSound {v : Spacing} (hv : s.spacing.inRange → v.inRange) : s.keepsSound (s.setSpacing v) :=
  .of_blocks (fun h => ⟨hv h.window, h.ret, h.store, h.ctl, h.group⟩) rfl rfl rfl

theorem setRet_keepsSound {r : Return} (hr : s.ret.inRange → r.inRange) : s.keepsSound (s.setRet r) :=
  .of_blocks (fun h => ⟨h.window, hr h.ret, h.store, h.ctl, h.group⟩) rfl rfl rfl

theorem setStore_keepsSound {b : Store} (hb : s.store.inRange → b.inRange) : s.keepsSound (s.setStore b) :=
  .of_blocks (fun h => ⟨h.window, h.ret, hb h.store, h.ctl, h.group⟩) rfl rfl rfl

theorem setCtl_keepsSound {c : Control} (hc : s.ctl.inRange → c.inRange) : s.keepsSound (s.setCtl c) :=
  .of_blocks (fun h => ⟨h.window, h.ret, h.store, hc h.ctl, h.group⟩) rfl rfl rfl

theorem send_keepsSound (d : Nat) (k : FrameMark) (p : Payload) (s : State) : s.keepsSound (send d k p s) :=
  .of_same (by simp) (by simp) (by simp) (by simp) (by rw [send_link]) (by simp) (by simp) (by simp)

theorem reply_keepsSound (m : Msg) (n : ReqName) (r : Result) (d : ReplyData) (s : State) : s.keepsSound (reply m n r d s) :=
  send_keepsSound _ _ _ s

theorem refuse_keepsSound (m : Msg) (n : ReqName) (r : RefuseReason) (s : State) : s.keepsSound (refuse m n r s) :=
  send_keepsSound _ _ _ s

theorem deferredReply_keepsSound (a t : Nat) (n : ReqName) (r : Result) (d : ReplyData) (s : State) :
    s.keepsSound (deferredReply a t n r d s) := send_keepsSound _ _ _ s

theorem notice_keepsSound (n : FaultNotice) (s : State) : s.keepsSound (notice n s) := send_keepsSound _ _ _ s

theorem sendTransfer_keepsSound (d t : Nat) (m : TransferMsg) (s : State) : s.keepsSound (sendTransfer d t m s) :=
  send_keepsSound _ _ _ s

theorem takeFrame_keepsSound (d : Byte) (s : State) : s.keepsSound (takeFrame d s) := setLink_keepsSound rfl

theorem beginTx_keepsSound (s : State) : s.keepsSound (beginTx s) :=
  .of_blocks (fun h => ⟨beginTx_inRange h.window, by simpa using h.ret, by simpa using h.store, by simpa using h.ctl,
    by rw [beginTx_group]; exact h.group⟩) (by simp) (by simp) (by simp)

theorem foldl_keepsSound {α : Type} {f : State → α → State} (hf : ∀ (u : State) (a : α), u.keepsSound (f u a)) (as : List α)
    (s : State) : s.keepsSound (as.foldl f s) := by
  induction as generalizing s with
  | nil => exact .refl s
  | cons a as ih => exact (hf s a).trans (ih _)

/-! ## The sequencer and the spacing unit -/

/-- An operation of the spacing unit that writes nothing of the other blocks. -/
theorem State.keepsSound.of_spacing (hv : s.spacing.inRange → t.spacing.inRange) (hr : t.ret = s.ret) (hb : t.store = s.store)
    (hc : t.ctl = s.ctl) (hg : t.link = s.link) (hs : t.sessions = s.sessions) (ht : t.transfer = s.transfer)
    (hn : t.nextId = s.nextId) : s.keepsSound t :=
  .of_blocks (fun h => ⟨hv h.window, hr ▸ h.ret, hb ▸ h.store, hc ▸ h.ctl, hg ▸ h.group⟩) hs ht hn

theorem recheck_keepsSound (s : State) : s.keepsSound (recheck s) :=
  .of_spacing recheck_inRange (by simp) (by simp) (by simp) (by simp) (by simp) (by simp) (by simp)

theorem enterSpacing_keepsSound (l : LaneId) (n : NextPhase) (s : State) : s.keepsSound (enterSpacing l n s) :=
  .of_spacing (fun h => enterSpacing_inRange h l n) (by simp) (by simp) (by simp) (by simp) (by simp) (by simp) (by simp)

theorem leaveSpacing_keepsSound (l : LaneId) (s : State) : s.keepsSound (leaveSpacing l s) :=
  .of_spacing (fun h => leaveSpacing_inRange h l) (by simp) (by simp) (by simp) (by simp) (by simp) (by simp) (by simp)

theorem markUrgent_keepsSound (l : LaneId) (s : State) : s.keepsSound (markUrgent l s) :=
  .of_spacing (fun h => markUrgent_inRange h l) (by simp) (by simp) (by simp) (by simp) (by simp) (by simp) (by simp)

theorem noticeSent_keepsSound (s : State) : s.keepsSound (noticeSent s) :=
  .of_spacing noticeSent_inRange (by simp) (by simp) (by simp) (by simp) (by simp) (by simp) (by simp)

theorem noticeLost_keepsSound (s : State) : s.keepsSound (noticeLost s) :=
  .of_spacing noticeLost_inRange (by simp) (by simp) (by simp) (by simp) (by simp) (by simp) (by simp)

theorem addReason_keepsSound (r : HoldReason) (l : LaneId) (s : State) : s.keepsSound (addReason r l s) := by
  unfold addReason
  exact .ite (setSeq_keepsSound s l _) (setSeq_keepsSound s l _)

theorem setHolds_keepsSound (l : LaneId) (h : HoldSet) (s : State) : s.keepsSound (setHolds l h s) := setSeq_keepsSound s l _

theorem setPendingReq_keepsSound (l : LaneId) (m : Msg) (q : DeferredReq) (s : State) : s.keepsSound (setPendingReq l m q s) :=
  setSeq_keepsSound s l _

theorem answerPending_keepsSound (l : LaneId) (r : Result) (d : ReplyData) (s : State) : s.keepsSound (answerPending l r d s) := by
  unfold answerPending
  split
  · exact (setSeq_keepsSound s l _).trans (deferredReply_keepsSound _ _ _ _ _ _)
  · exact .refl s

theorem enterStandby_keepsSound (l : LaneId) (s : State) : s.keepsSound (enterStandby l s) := by
  have hstand (q : Sequencer) (d : Deck) : s.keepsSound ((s.setSeq l q).setDeck l d) :=
    (setSeq_keepsSound s l q).trans (setDeck_keepsSound _ l d)
  unfold enterStandby
  dsimp only
  split
  · exact .ite ((hstand _ _).trans (answerPending_keepsSound _ _ _ _)) (hstand _ _)
  · exact hstand _ _

theorem abortCalibration_keepsSound (l : LaneId) (r : CalResult) (s : State) : s.keepsSound (abortCalibration l r s) := by
  unfold abortCalibration
  dsimp only
  refine .ite ?_ (.refl s)
  split
  · exact .ite ((setDeck_keepsSound s l _).trans (answerPending_keepsSound _ _ _ _)) (setDeck_keepsSound s l _)
  · exact setDeck_keepsSound s l _

theorem beginCycle_keepsSound (l : LaneId) (c : Cycle) (s : State) : s.keepsSound (beginCycle l c s) :=
  (setSeq_keepsSound s l _).trans (enterSpacing_keepsSound l _ _)

theorem overrun_keepsSound (l : LaneId) (ph : Phase) (s : State) : s.keepsSound (overrun l ph s) := by
  unfold overrun
  dsimp only
  have hfault (q : Sequencer) : s.keepsSound ((notice (.fault l ph) s).setSeq l q) :=
    (notice_keepsSound _ s).trans (setSeq_keepsSound _ l q)
  have habort (q : Sequencer) : s.keepsSound
      (if ph = .calibrating then abortCalibration l .timedOut ((notice (.fault l ph) s).setSeq l q)
        else (notice (.fault l ph) s).setSeq l q) :=
    .ite ((hfault q).trans (abortCalibration_keepsSound l _ _)) (hfault q)
  split
  · exact .ite (.ite ((habort _).trans (answerPending_keepsSound _ _ _ _)) (habort _))
      (State.keepsSound.trans (.ite ((habort _).trans (answerPending_keepsSound _ _ _ _)) (habort _)) (enterStandby_keepsSound l _))
  · exact .ite (habort _) ((habort _).trans (enterStandby_keepsSound l _))

/-! ## The return -/

theorem enterJammed_keepsSound (j : JamReason) (s : State) : s.keepsSound (enterJammed j s) :=
  (((setRet_keepsSound (r := { s.ret with state := .jammed j, runOn := none, purge := none }) fun h => h).trans
    (addReason_keepsSound .ret .A _)).trans (addReason_keepsSound .ret .B _)).trans (notice_keepsSound _ _)

theorem purgeFails_keepsSound (j : JamReason) (s : State) : s.keepsSound (purgeFails j s) := by
  have hjam : s.keepsSound (enterJammed j (s.setRet { s.ret with pend := none, purgeCount := none })) :=
    State.keepsSound.trans (t := s.setRet { s.ret with pend := none, purgeCount := none })
      (setRet_keepsSound fun h => h.uncounted rfl rfl) (enterJammed_keepsSound j _)
  unfold purgeFails
  dsimp only
  split
  · exact hjam.trans (deferredReply_keepsSound _ _ _ _ _ _)
  · exact hjam

theorem ballIntoReturn_keepsSound (l : LaneId) (s : State) : s.keepsSound (ballIntoReturn l s) := by
  unfold ballIntoReturn
  dsimp only
  split
  · rename_i hroom
    split
    · exact setRet_keepsSound fun h => (h.addBall hroom l _).toRunning
    · exact setRet_keepsSound fun h => h.addBall hroom l _
    · exact setRet_keepsSound fun h => h.addBall hroom l _
  · split
    · exact enterJammed_keepsSound _ s
    · exact enterJammed_keepsSound _ s
    · exact purgeFails_keepsSound _ s
    · exact .refl s
    · exact .refl s

theorem liftSample_keepsSound (v : Nat) (s : State) : s.keepsSound (liftSample v s) := by
  have hset (b : Bool) : s.keepsSound (s.setRet { s.ret with strain := b }) := setRet_keepsSound fun h => h
  have hnoted (b c : Bool) : s.keepsSound (if c then notice (.strain v) (s.setRet { s.ret with strain := b })
      else s.setRet { s.ret with strain := b }) := .ite ((hset b).trans (notice_keepsSound _ _)) (hset b)
  unfold liftSample
  dsimp only
  refine .ite (.ite ?_ (hnoted _ _)) (.refl s)
  split
  · exact (hnoted _ _).trans (purgeFails_keepsSound _ _)
  · exact (hnoted _ _).trans (enterJammed_keepsSound _ _)

theorem purgeEnds_keepsSound (s : State) : s.keepsSound (purgeEnds s) := by
  have hdone : s.keepsSound (s.setRet { s.ret with
      state := .idle, transit := [], purgeCount := some s.ret.transit.length, purge := none, pend := none }) :=
    setRet_keepsSound fun h => h.purged
  unfold purgeEnds
  dsimp only
  split
  · exact hdone.trans (deferredReply_keepsSound _ _ _ _ _ _)
  · exact hdone

/-! ## Meters, the journal and the archive -/

theorem writeMeter_keepsSound (l : LaneId) (m : Meter) (s : State) : s.keepsSound (writeMeter l m s) := by
  unfold writeMeter
  exact .ite ((setMeter_keepsSound s l m).trans (notice_keepsSound _ _)) (setMeter_keepsSound s l m)

theorem appendEntry_keepsSound (l : LaneId) (b : JournalBody) (s : State) : s.keepsSound (appendEntry l b s) :=
  setStore_keepsSound fun h => h.of_same rfl rfl rfl

theorem meterSecond_keepsSound (n : Nat) (l : LaneId) (s : State) : s.keepsSound (meterSecond n l s) := by
  unfold meterSecond
  dsimp only
  refine .ite (.ite ?_ (setMeter_keepsSound s l _)) (.refl s)
  split
  · exact writeMeter_keepsSound l _ s
  · exact .refl s

theorem closeMeter_keepsSound (l : LaneId) (r : CloseReason) (s : State) : s.keepsSound (closeMeter l r s) :=
  ((writeMeter_keepsSound l _ s).trans (appendEntry_keepsSound l _ _)).trans (setMeter_keepsSound _ l _)

/-! ## The entry into ARMED, turn starts and turn ends -/

theorem testHeld_keepsSound (l : LaneId) (s : State) : s.keepsSound (testHeld l s) :=
  .of_pairs (testHeld_shrinks l s) (testHeld_keepsPairs l s)

theorem enterArmed_keepsSound (l : LaneId) (s : State) : s.keepsSound (enterArmed l s) :=
  .of_pairs (enterArmed_shrinks l s) (enterArmed_keepsPairs l s)

theorem dropReasons_keepsSound (l : LaneId) (f : HoldSet → HoldSet) (s : State) : s.keepsSound (dropReasons l f s) :=
  .of_pairs (dropReasons_shrinks l f s) (dropReasons_keepsPairs l f s)

theorem truncateCurrent_keepsSound (id : Nat) (s : State) : s.keepsSound (truncateCurrent id s) :=
  .of_pairs (truncateCurrent_shrinks id s) (truncateCurrent_keepsPairs id s)

theorem startTurns_keepsSound (r : State × List Nat) : r.1.keepsSound (startTurns r) :=
  .of_pairs (startTurns_shrinks r) (startTurns_keepsPairs r)

theorem barrierTest_keepsSound (id : Nat) (s : State) : s.keepsSound (barrierTest id s).1 :=
  .of_pairs (barrierTest_shrinks id s) (barrierTest_keepsPairs id s)

theorem selectTurn_keepsSound (h : s.plays id) : s.keepsSound (selectTurn id s).1 :=
  .of_pairs (selectTurn_shrinks id s) (selectTurn_keepsPairs h)

/-- A record of the table that plays on. -/
theorem putPlaysOn_keepsSound (hx : s.session? id = some x) (hy : x.playsOn y) : s.keepsSound (putSession y s) :=
  .of_pairs (putSession_shrinks hx hy.entry) (putSession_keepsPairs hx hy.seat)

theorem rackTest_keepsSound (l : LaneId) (f : Bool) (s : State) : s.keepsSound (rackTest l f s) := by
  unfold rackTest
  exact .ite (setSeq_keepsSound s l _) (enterArmed_keepsSound l s)

theorem passRetry_keepsSound (l : LaneId) (r : WaitReason) (s : State) : s.keepsSound (passRetry l r s) :=
  (setMeter_keepsSound s l _).trans (dropReasons_keepsSound l _ _)

theorem scoreRead_keepsSound (l : LaneId) (id i : Nat) (m : SpotMap) (e f : Bool) (s : State) :
    s.keepsSound (scoreRead l id i m e f s).1 := by
  unfold scoreRead
  split
  · exact .refl s
  · rename_i x hx
    split
    · dsimp only
      split
      · exact .refl s
      · refine State.keepsSound.trans (putPlaysOn_keepsSound hx ?_) (send_keepsSound _ _ _ _)
        split
        · exact (x.modifyGame_playsOn i _).withTurn .ended
        · exact x.modifyGame_playsOn i _
    · exact .refl s

theorem cycleEnds_keepsSound (l : LaneId) (s : State) : s.keepsSound (cycleEnds l s) := by
  have hd (d : Deck) : s.keepsSound (s.setDeck l d) := setDeck_keepsSound s l d
  unfold cycleEnds
  dsimp only
  refine .ite (.trans (.ite (.trans (.trans ?_ (setSeq_keepsSound _ l _)) (setHolds_keepsSound l _ _))
    (.trans ?_ (setSeq_keepsSound _ l _))) (rackTest_keepsSound l _ _))
    (.trans (.trans ?_ (setSeq_keepsSound _ l _)) (enterStandby_keepsSound l _))
  all_goals
    split
    · exact .ite ((hd _).trans (answerPending_keepsSound l _ _ _)) (hd _)
    · exact hd _

theorem deckRead_keepsSound (l : LaneId) (levels : List Nat) (s : State) : s.keepsSound (deckRead l levels s) := by
  have hd : s.keepsSound (s.setDeck l ((s.deck l).takeRead levels)) := setDeck_keepsSound s l _
  unfold deckRead
  dsimp only
  refine .ite (.trans ?_ (setSeq_keepsSound _ l _)) (.trans ?_ (setSeq_keepsSound _ l _))
  all_goals
    split
    · split
      · exact hd.trans (scoreRead_keepsSound l _ _ _ _ _ _)
      · exact hd
    · exact hd

theorem calibrationRead_keepsSound (l : LaneId) (levels : List Nat) (s : State) : s.keepsSound (calibrationRead l levels s) := by
  have hd (d : Deck) : s.keepsSound (s.setDeck l d) := setDeck_keepsSound s l d
  unfold calibrationRead
  dsimp only
  split
  · exact hd _
  · exact (((hd _).trans (answerPending_keepsSound l _ _ _)).trans (setSeq_keepsSound _ l _)).trans (rackTest_keepsSound l _ _)

/-! ## Resets (R27, R85, R86, R183, R188) -/

theorem truncateLost_keepsSound (l : LaneId) (s : State) : s.keepsSound (truncateLost l s) := by
  unfold truncateLost
  split
  · split
    · split
      · rename_i x hx
        exact putPlaysOn_keepsSound hx (x.truncate_playsOn _)
      · exact .refl s
    · exact .refl s
  · exact .refl s

theorem recover_keepsSound (l : LaneId) (s : State) : s.keepsSound (recover l s) := by
  unfold recover
  exact .ite (beginCycle_keepsSound l _ s) (.refl s)

theorem recover_sessions (l : LaneId) (s : State) : (recover l s).sessions = s.sessions := by
  unfold recover
  split
  · simp [beginCycle]
  · rfl

theorem notices_keepsSound (ids : List Nat) (s : State) :
    s.keepsSound (ids.foldl (fun u id => notice (.sessionParked id) u) s) := foldl_keepsSound (fun _ _ => notice_keepsSound _ _) ids s

theorem Session.warm_entry (x : Session) : x.warm.entry = x.entry := by
  unfold Session.warm
  split <;> rfl

theorem Session.kept_entry (x : Session) : x.kept.entry = x.entry := by
  unfold Session.kept
  dsimp only
  split <;> rfl

theorem Session.warm_home (x : Session) : x.warm.home = x.home := by
  unfold Session.warm
  split <;> rfl

theorem Session.kept_home (x : Session) : x.kept.home = x.home := by
  unfold Session.kept
  dsimp only
  split <;> rfl

/-- Station control after a warm reset, which counts it (R188). -/
theorem Control.inRange.warmed {c d : Control} (h : c.inRange) (hs : d.setup = c.setup := by rfl)
    (hk : d.clock = c.clock := by rfl) (hp : d.pair = c.pair := by rfl)
    (hw : d.warmCount = satAdd 255 c.warmCount 1 := by rfl) : d.inRange := by
  obtain ⟨hsetup, hclock, -, hpair⟩ := h
  unfold Control.inRange
  rw [hs, hk, hp, hw]
  exact ⟨hsetup, hclock, Nat.min_le_left _ _, hpair⟩

/-- A reset that rewrites every record with its entry, under no transfer. -/
theorem reset_keepsSound {f : Session → Session} (hb : s.blocksSound → t.blocksSound) (hs : t.sessions = s.sessions.map f)
    (hn : t.nextId = s.nextId) (ht : t.transfer.record = .idle) (htag : s.transfer.lastTag ≤ 255 → t.transfer.lastTag ≤ 255)
    (hentry : ∀ x, (f x).entry = x.entry) (hhome : ∀ x, (f x).home = x.home)
    (hkind : ∀ x ∈ s.sessions, (x.cross = true → crossedSound x.home x.state x.pos) →
      (∀ b, x.state = .waitPartner b → x.cross = true) → x.kind.endsIn x.home (f x).kind) : s.keepsSound t := by
  refine .of_shrinks ⟨hb, hn, htag, .inl (by rw [ht]; rfl), fun _ => ?_⟩ fun _ h =>
    reset_paired h hs ht (fun x => congrArg (·.1) (hentry x)) hhome hkind
  rw [hs, List.map_map]
  exact (List.map_congr_left fun x _ => hentry x) ▸ List.Sublist.refl _

/-- What returns from a transfer at a reset: the session was in transfer, and plays afterwards (R85). -/
theorem Session.returns_warm (h : x.returns = true) :
    (x.state = .waitMove ∨ ∃ p, x.state = .moving p) ∧ x.warm.state = .playing := by
  unfold Session.returns at h
  unfold Session.warm
  split at h
  · rename_i hs
    exact ⟨.inr ⟨_, hs⟩, by rw [hs]⟩
  · rename_i hs
    exact ⟨.inl hs, by rw [hs]⟩
  · simp at h

/-- Of the sessions of a sound table one at most is in transfer. -/
theorem returned_single (h : s.paired True) : ((s.sessions.filter Session.returns).map (·.id)).length ≤ 1 := by
  have hnamed {n : Nat} (hn : n ∈ (s.sessions.filter Session.returns).map (·.id)) : s.transfer.record.names = some n := by
    obtain ⟨x, hx, rfl⟩ := List.mem_map.1 hn
    obtain ⟨hx, hr⟩ := List.mem_filter.1 hx
    obtain ⟨hcross, -, hmove, -⟩ := (x.seat_sound_iff _).1 (Paired.sound h _ (mem_seats hx))
    obtain ⟨hstate, -⟩ := Session.returns_warm hr
    refine hmove ?_ hstate
    by_contra hc
    obtain ⟨hwait, hmoving, -⟩ := Session.transfer_parked (hcross (by simpa using hc))
    exact hstate.elim hwait fun ⟨p, hp⟩ => hmoving p hp
  have hnodup : ((s.sessions.filter Session.returns).map (·.id)).Nodup :=
    (List.filter_sublist.map _).nodup (seats_ids s ▸ Paired.nodup h)
  generalize (s.sessions.filter Session.returns).map (·.id) = ids at hnamed hnodup ⊢
  match ids with
  | [] => simp
  | [_] => simp
  | a :: b :: rest =>
    have hab := (hnamed (List.mem_cons_self)).symm.trans (hnamed (n := b) (by simp))
    rw [Option.some.inj hab, List.nodup_cons] at hnodup
    exact absurd List.mem_cons_self hnodup.1

theorem sessions_ite {c : Prop} [Decidable c] {xs : List Session} (ht : t.sessions = xs) (hu : u.sessions = xs) :
    (if c then t else u).sessions = xs := by
  split
  · exact ht
  · exact hu

/-- The warm reset up to the selections of the sessions that return. -/
theorem warmReset_cases (c : WarmCause) (low : Bool) (s : State) :
    ∃ v, s.keepsSound v ∧ v.sessions = (truncateLost .B (truncateLost .A s)).sessions.map Session.warm ∧
      warmReset c low s = (((truncateLost .B (truncateLost .A s)).sessions.filter Session.returns).map (·.id)).foldl
        (fun u id => startTurns (selectTurn id u)) v := by
  have hcut := (truncateLost_keepsSound .A s).trans (truncateLost_keepsSound .B _)
  have hnotices (ids : List Nat) (u : State) : (ids.foldl (fun u id => notice (.sessionParked id) u) u).sessions = u.sessions := by
    induction ids generalizing u with
    | nil => rfl
    | cons id ids ih => exact (ih _).trans (by simp)
  refine ⟨_, ?_, ?_, rfl⟩
  · refine .trans (.trans (.ite (.trans ?_ (send_keepsSound _ _ _ _)) ?_) (recover_keepsSound .A _)) (recover_keepsSound .B _)
    all_goals
      refine .ite (.trans (.trans (hcut.trans ?_) (notices_keepsSound _ _)) (notice_keepsSound _ _))
        (.trans (hcut.trans ?_) (notices_keepsSound _ _))
      all_goals
        refine reset_keepsSound (fun h => ⟨by simp [Spacing.reset], Return.warm_inRange _ _, h.store, h.ctl.warmed, h.group⟩)
          rfl rfl rfl (fun h => h) Session.warm_entry Session.warm_home fun x _ hs _ => Session.warm_ends hs
  · rw [recover_sessions, recover_sessions]
    refine sessions_ite ((sendSetupRequest_frame _).2.2.2.2.1.trans ?_) ?_
    all_goals exact sessions_ite (((notice_frame _ _).2.2.2.2.1).trans (hnotices _ _)) (hnotices _ _)

/-- The selections of the sessions that return (R188). -/
theorem returned_paired (h : s.paired True) {ids : List Nat} (hids : ids.length ≤ 1) (hplays : ∀ id ∈ ids, s.plays id) :
    (ids.foldl (fun u id => startTurns (selectTurn id u)) s).paired True := by
  match ids with
  | [] => exact h
  | [id] => exact ((selectTurn_keepsPairs (hplays id (by simp))).trans (startTurns_keepsPairs _)).pairs True h
  | _ :: _ :: _ => simp at hids

theorem warmReset_keepsSound (c : WarmCause) (low : Bool) (s : State) : s.keepsSound (warmReset c low s) := by
  obtain ⟨v, hv, hsessions, hreset⟩ := warmReset_cases c low s
  have hcut := (truncateLost_keepsSound .A s).trans (truncateLost_keepsSound .B _)
  have hfold (ids : List Nat) : v.shrinks (ids.foldl (fun u id => startTurns (selectTurn id u)) v) :=
    foldl_shrinks (fun u id => (selectTurn_shrinks id u).trans (startTurns_shrinks _)) ids v
  rw [hreset]
  refine ⟨fun h => lists_of_shrinks (hfold _) (hv.lists h), fun h => table_of_shrinks (hfold _) (hv.table h), fun ht hp => ?_⟩
  have hvp := hv.pairs ht hp
  refine returned_paired hvp (returned_single (hcut.pairs ht hp)) fun id hid => ?_
  obtain ⟨x, hx, rfl⟩ := List.mem_map.1 hid
  obtain ⟨hx, hr⟩ := List.mem_filter.1 hx
  have hmem : x.warm ∈ v.sessions := by
    rw [hsessions]
    exact List.mem_map_of_mem hx
  have hfound := session?_of_mem (Paired.nodup hvp) hmem
  rw [show x.warm.id = x.id from congrArg (·.1) x.warm_entry] at hfound
  exact .of_eq hfound (Session.returns_warm hr).2

theorem closeFoundOpen_keepsSound (l : LaneId) (s : State) : s.keepsSound (closeFoundOpen l s) := by
  unfold closeFoundOpen
  exact .ite (closeMeter_keepsSound l .power s) (.refl s)

/-- Power-on with retention lost: an empty table, no transfer. -/
theorem lost_keepsSound (hb : s.blocksSound → t.blocksSound) (hs : t.sessions = []) (hn : t.nextId = 1)
    (ht : t.transfer = { record := .idle, lastTag := 0 }) : s.keepsSound t := by
  refine ⟨fun h => ?_, fun _ => ?_, fun _ _ => ?_⟩
  · rw [lists_numbers_iff] at h ⊢
    rw [hn, ht]
    exact ⟨hb h.1, by decide⟩
  · unfold tableSound State.tableCount State.reserved
    rw [hs, hn, ht]
    simp
  · unfold State.paired State.seats
    rw [hs, ht]
    exact Paired.of_single (a := ⟨0, .A, .solo⟩) (by simp) (by simp) rfl (by simp)

theorem strapPair_inRange (n : Nat) : ∀ p ∈ strapPair n, 1 ≤ p ∧ p ≤ 60 := fun _ hp => strapPair_range hp

theorem powerUp_keepsSound (kept : Bool) (strap : Nat) (full low : Bool) (s : State) :
    s.keepsSound (powerUp kept strap full low s) := by
  unfold powerUp
  refine .trans (.ite (.trans (.trans (.trans (.trans ?_ (closeFoundOpen_keepsSound .A _)) (closeFoundOpen_keepsSound .B _))
    (notices_keepsSound _ _)) (notice_keepsSound _ _)) (.trans (.trans (.trans ?_ (closeFoundOpen_keepsSound .A _))
    (closeFoundOpen_keepsSound .B _)) (notices_keepsSound _ _))) (send_keepsSound _ _ _ _)
  all_goals
    cases kept with
    | true =>
      exact reset_keepsSound (fun h => ⟨by simp [Spacing.reset], Return.powerOn_inRange full, h.store.of_same rfl rfl rfl,
        ⟨Setup.builtIn_sound, by simp, by simp, strapPair_inRange strap⟩, by simp⟩) rfl rfl rfl (fun _ => by simp)
        Session.kept_entry Session.kept_home fun x _ hs hw => Session.kept_ends hs hw
    | false =>
      exact lost_keepsSound (fun _ => ⟨by simp [Spacing.reset], Return.powerOn_inRange full, Store.lost_inRange,
        ⟨Setup.builtIn_sound, by simp, by simp, strapPair_inRange strap⟩, by simp⟩) rfl rfl rfl

end

end Sys2Proof.Machine
end

section
/-! SUPPORT. What the session table's and the transfer unit's own events leave of the lists, the session table and the pairs
(R68 to R73, R121, R154 to R165). -/

namespace Sys2Proof.Machine

section
variable {s t u : State} {id : Nat} {x y : Session} {l : LaneId}

/-! ## Records that join (R68, R162) -/

/-- The id a new session takes is an id (R67). -/
theorem newId_range (hlow : 1 ≤ s.nextId) (hhigh : s.nextId ≤ 255) : 1 ≤ s.newId ∧ s.newId ≤ 255 := by
  unfold State.newId
  dsimp only
  cases hfind : ((List.range 255).map fun k => (s.nextId - 1 + k) % 255 + 1).find? fun n => (s.session? n).isNone with
  | none => exact ⟨hlow, hhigh⟩
  | some n =>
    obtain ⟨k, -, rfl⟩ := List.mem_map.1 (List.mem_of_find?_eq_some hfind)
    rw [Option.getD_some]
    omega

/-- A record that joins under the id that is next. -/
theorem joined_keepsLists (hblocks : s.blocksSound → t.blocksSound) (htag : t.transfer.lastTag = s.transfer.lastTag)
    (hn : t.nextId = wrapNext 255 s.newId) (h : listsSound s ∧ numbersSound s) : listsSound t ∧ numbersSound t := by
  rw [lists_numbers_iff] at h ⊢
  obtain ⟨hb, ht, -⟩ := h
  rw [htag, hn]
  exact ⟨hblocks hb, ht, wrapNext_range 255 _ (by decide)⟩

/-- A record joins a table with room: a reserved lane that stays reserved is counted with it. -/
theorem joined_keepsTable (h : tableSound s) (hs : t.sessions = insertSession x s.sessions) (hid : x.id = s.newId)
    (hsize : 1 ≤ x.size ∧ x.size ≤ 6 ∧ x.bowlers.length ≤ x.size) (hroom : s.sessions.length + t.reserved.isSome.toNat ≤ 1)
    (hn : t.nextId = wrapNext 255 s.newId) (ht : t.transfer.record = s.transfer.record ∨ t.transfer.record = .idle) :
    tableSound t := by
  obtain ⟨-, hnodup, hrecords, hlow, hhigh, hoffer⟩ := h
  have hperm := hs ▸ insertSession_perm x s.sessions
  obtain ⟨hnext, hnext'⟩ := wrapNext_range 255 s.newId (by decide)
  refine ⟨?_, ?_, fun z hz => ?_, hn ▸ hnext, hn ▸ hnext', fun r tag peer o parts bad n he => ?_⟩
  · unfold State.tableCount
    rw [hperm.length_eq, List.length_cons]
    omega
  · rw [(hperm.map _).nodup_iff, List.map_cons, List.nodup_cons]
    refine ⟨fun hin => ?_, hnodup⟩
    obtain ⟨z, hz, hzid⟩ := List.mem_map.1 hin
    exact newId_fresh (by omega) z hz (hzid.trans hid)
  · rcases (mem_of_perm hperm).1 hz with rfl | hz
    · obtain ⟨hid1, hid255⟩ := newId_range hlow hhigh
      exact ⟨hid ▸ hid1, hid ▸ hid255, hsize⟩
    · exact hrecords z hz
  · rcases ht with ht | ht
    · exact hoffer _ _ _ _ _ _ _ (ht ▸ he)
    · rw [ht] at he
      cases he

theorem reserved_of_transfer (h : t.transfer = s.transfer) : t.reserved = s.reserved := by
  unfold State.reserved
  rw [h]

theorem newSession_keepsSound {a : StartArgs} (hsize : 1 ≤ a.size ∧ a.size ≤ 6) (hocc : s.occupied l = false)
    (hres : s.reserved ≠ some l) (hclash : s.crossClash l a.cross = false) (hroom : s.tableCount < 2) (m : Msg) (r : Result)
    (d : ReplyData) : s.keepsSound (addSession (newSession s.newId l a) (reply m .startSession r d s)) := by
  have hsessions : (reply m .startSession r d s).sessions = s.sessions := by simp
  have htransfer : (reply m .startSession r d s).transfer = s.transfer := by simp
  have hadded : (addSession (newSession s.newId l a) (reply m .startSession r d s)).sessions =
      insertSession (newSession s.newId l a) s.sessions := congrArg (insertSession _) hsessions
  refine ⟨joined_keepsLists (fun h => ?_) (congrArg Transfer.lastTag htransfer) rfl, fun h => ?_, fun _ h => ?_⟩
  · exact State.blocksSound.of_same (s := s) h (by simp) (by simp) (by simp) (by simp) (by
      show (reply m .startSession r d s).link.group = _
      unfold reply
      rw [send_link])
  · refine joined_keepsTable h hadded rfl ⟨hsize.1, hsize.2, Nat.zero_le _⟩ ?_ rfl (.inl (congrArg Transfer.record htransfer))
    rw [reserved_of_transfer (s := s) (t := addSession _ _) htransfer]
    unfold State.tableCount at hroom
    omega
  · exact newSession_paired h hocc hres hclash hroom hsessions htransfer

/-- The parts that pass the completeness check are as many as were opened. -/
theorem completeParts_length {parts : List BowlerParts} {ps : List (IdentFields × BallsFields)}
    (h : completeParts parts = some ps) : ps.length = parts.length := by
  induction parts generalizing ps with
  | nil => cases h; rfl
  | cons p parts ih =>
    unfold completeParts at h
    split at h
    · rename_i hrest
      cases h
      exact congrArg (· + 1) (ih hrest)
    · cases h

theorem install_keepsSound {rcv : Bool} {tag peer : Nat} {o : OfferFields} {parts : List BowlerParts} {bad : Bool} {n : Nat}
    {ps : List (IdentFields × BallsFields)} (hr : s.transfer.record = .target rcv tag peer o parts bad n)
    (hps : completeParts parts = some ps) : s.keepsSound (install tag peer o ps s) := by
  let v := s.withNewcomer tag peer (o.newcomer s.newId ps)
  have hrest : v.shrinks (install tag peer o ps s) := by
    cases hfind : v.sessions.find? (crossedBeside o s.newId) with
    | none =>
      rw [install_alone hfind]
      exact (selectTurn_shrinks _ v).trans (startTurns_shrinks _)
    | some y =>
      rw [install_crossed hfind]
      refine .trans ?_ (startTurns_shrinks (_, _))
      exact (uncross_shrinks y.id v).trans (selectTurn_shrinks _ _)
  have hsessions : v.sessions = insertSession (o.newcomer s.newId ps) s.sessions := withNewcomer_sessions tag peer _ s
  have htag : v.transfer.lastTag = s.transfer.lastTag := by simp [v, State.withNewcomer, transferIdle, sendTransfer, addSession]
  have hrecord : v.transfer.record = .idle := rfl
  have hnext : v.nextId = wrapNext 255 s.newId := by
    simp [v, State.withNewcomer, transferIdle, sendTransfer, addSession]
    rfl
  refine ⟨fun h => lists_of_shrinks hrest (joined_keepsLists (fun hb => ?_) htag hnext h),
    fun h => table_of_shrinks hrest (joined_keepsTable h hsessions rfl ?_ ?_ hnext (.inr hrecord)),
    fun h hp => install_paired hp h (by rw [hr]; rfl) (by rw [hr]; rfl)⟩
  · exact State.blocksSound.of_same (s := s) hb (by simp [v, State.withNewcomer, transferIdle, addSession])
      (by simp [v, State.withNewcomer, transferIdle, addSession]) (by simp [v, State.withNewcomer, transferIdle, addSession])
      (by simp [v, State.withNewcomer, transferIdle, addSession]) (by
        show (sendTransfer peer tag .done (addSession _ s)).link.group = _
        unfold sendTransfer
        rw [send_link]
        rfl)
  · obtain ⟨hlow, hhigh, hlen⟩ := h.2.2.2.2.2 _ _ _ _ _ _ _ hr
    exact ⟨hlow, hhigh, by
      show (ps.map (installBowler o)).length ≤ o.size
      rw [List.length_map, completeParts_length hps, hlen]⟩
  · have hcount := h.1
    unfold State.tableCount at hcount
    rw [s.reserved_eq_reserves, hr] at hcount
    rw [v.reserved_eq_reserves, hrecord]
    simpa [TransferRec.reserves] using hcount

/-! ## The session table (R69 to R73, R121) -/

/-- ADD_BOWLER's record has one more bowler, within its size (R69). -/
theorem addBowler_keepsSound (hx : s.session? id = some x) (hroom : x.bowlers.length < x.size) (b : Bowler) :
    s.keepsSound (putSession { x with bowlers := x.bowlers ++ [b] } s) := by
  have hseat : Session.seat { x with bowlers := x.bowlers ++ [b] } = x.seat := rfl
  refine ⟨fun h => ?_, fun h => ?_, fun _ => (putSession_keepsPairs hx hseat).pairs True⟩
  · rw [lists_numbers_iff] at h ⊢
    exact ⟨h.1.of_same rfl rfl rfl rfl rfl, h.2⟩
  · obtain ⟨hcount, hnodup, hrecords, hrest⟩ := h
    refine ⟨?_, ?_, fun z hz => ?_, hrest⟩
    · unfold State.tableCount at hcount ⊢
      rwa [show (putSession { x with bowlers := x.bowlers ++ [b] } s).sessions.length = s.sessions.length from List.length_map ..]
    · rw [putSession_ids]
      exact hnodup
    · obtain ⟨w, hw, rfl⟩ := List.mem_map.1 hz
      split
      · obtain ⟨hid, hid', hsize, hsize', -⟩ := hrecords x (mem_of_session? hx)
        exact ⟨hid, hid', hsize, hsize', by rw [List.length_append, List.length_singleton]; exact hroom⟩
      · exact hrecords w hw

theorem beginSession_shrinks (hx : s.session? id = some x) : s.shrinks (beginSession x s) := by
  unfold beginSession
  split
  · exact ((putSession_shrinks (y := { x with state := .waitPartner .start, turn := .none }) hx rfl).trans
      (barrierTest_shrinks x.id _)).trans (startTurns_shrinks _)
  · exact ((putSession_shrinks hx (Session.startGame_entry 1 x)).trans (selectFresh_shrinks x.id _)).trans (startTurns_shrinks _)

theorem beginSession_keepsSound (hx : s.session? id = some x) (hs : x.state = .forming) : s.keepsSound (beginSession x s) :=
  .of_pairs (beginSession_shrinks hx) (beginSession_keepsPairs hx hs)

theorem presentAgain_keepsSound (hx : s.session? x.id = some y) (hy : y.state = x.state) : s.keepsSound (presentAgain x s) := by
  unfold presentAgain
  split
  · rename_i hs
    exact .ite ((selectTurn_keepsSound (.of_eq hx (hy.trans hs))).trans (startTurns_keepsSound _)) (.refl s)
  · exact (barrierTest_keepsSound x.id s).trans (startTurns_keepsSound _)
  · exact .refl s

theorem removeSession_keepsSound (hx : ∀ x, s.session? id = some x → x.state.transferHeld = false) :
    s.keepsSound (removeSession id s) := .of_pairs (removeSession_shrinks id s) (removeSession_keepsPairs hx)

theorem removeUsers_keepsSound (h : s.transferHolds l = false) : s.keepsSound (removeUsers l s) :=
  .of_shrinks (removeUsers_shrinks l s) fun _ hp => removeUsers_paired hp h

/-! ## Moves (R155 to R165) -/

theorem names_of_source {st : SourceState} {tag : Option Nat} {peer : Nat} {lane : LaneId} {sid : Nat} {req : Nat × Nat}
    {n : Option Nat} (h : s.transfer.record = .source st tag peer lane sid req n) :
    s.transfer.record.names = some sid ∧ s.transfer.record.reserves = none := by
  rw [h]
  exact ⟨rfl, rfl⟩

theorem moveFails_keepsSound (hn : s.transfer.record.names = some id) (req : Nat × Nat) (st : MoveStep)
    (why : Option AnswerReason) : s.keepsSound (moveFails id req st why s) :=
  .of_shrinks (((backToPlaying_shrinks id s).trans (send_shrinks _ _ _ _)).trans (transferIdle_shrinks _)) fun _ hp =>
    moveFails_paired hp hn req st why

theorem moveDone_keepsSound (hn : s.transfer.record.names = some id) (peer : Nat) (req : Nat × Nat) :
    s.keepsSound (moveDone id peer req s) :=
  .of_shrinks ((((setFree_shrinks s _).trans (transferIdle_shrinks _)).trans (dropSession_shrinks id _)).trans
    (send_shrinks _ _ _ _)) fun _ hp => moveDone_paired hp hn peer req

theorem park_keepsSound (hn : s.transfer.record.names = some id) : s.keepsSound (park id (transferIdle s)) := by
  refine .of_shrinks ((transferIdle_shrinks s).trans ?_) fun _ hp => park_paired hp hn
  unfold park
  split
  · rename_i x hx
    exact (putSession_shrinks (y := { x with state := .parked, turn := .none }) hx rfl).trans (send_shrinks _ _ _ _)
  · exact .refl _

theorem sendPart_keepsSound (hn : s.transfer.record.names = some id) (hr : s.transfer.record.reserves = none)
    (tag peer : Nat) (lane : LaneId) (req : Nat × Nat) (p : Part) : s.keepsSound (sendPart tag peer lane id req p s) := by
  refine .of_pairs ?_ (sendPart_keepsPairs hn hr tag peer lane req p)
  have hrecord : s.shrinks (s.setTransfer
      { s.transfer with record := .source (.sending p) (some tag) peer lane id req (some Config.stepLimit) }) :=
    setTransfer_shrinks (fun h => h) (.inl rfl)
  unfold sendPart
  dsimp only
  split
  · exact hrecord.trans (send_shrinks _ _ _ _)
  · exact hrecord

theorem sendCommit_keepsSound (hn : s.transfer.record.names = some id) (hr : s.transfer.record.reserves = none)
    (tag peer : Nat) (lane : LaneId) (req : Nat × Nat) : s.keepsSound (sendCommit tag peer lane id req s) := by
  refine .of_shrinks ?_ fun _ hp => sendCommit_paired hp hn hr tag peer lane req
  have hrecord : s.shrinks (s.setTransfer
      { s.transfer with record := .source .committed (some tag) peer lane id req (some Config.stepLimit) }) :=
    setTransfer_shrinks (fun h => h) (.inl rfl)
  unfold sendCommit
  refine State.shrinks.trans ?_ (send_shrinks _ _ _ _)
  dsimp only
  split
  · rename_i x hx
    exact hrecord.trans (putSession_shrinks (y := { x with state := .moving .committed }) hx rfl)
  · exact hrecord

theorem partAcked_keepsSound (tag : Nat) (m : TransferMsg) (s : State) : s.keepsSound (partAcked tag m s) := by
  unfold partAcked
  split
  · rename_i hr
    obtain ⟨hn, hres⟩ := names_of_source hr
    refine .ite ?_ (.refl s)
    split
    · exact sendPart_keepsSound hn hres _ _ _ _ _
    · exact sendCommit_keepsSound hn hres _ _ _ _
  · exact .refl s

theorem endCommitted_keepsSound (r : Option AnswerReason) (m : Msg) (s : State) : s.keepsSound (endCommitted r m s) := by
  unfold endCommitted
  split
  · rename_i hr
    obtain ⟨hn, -⟩ := names_of_source hr
    refine .ite ?_ (.refl s)
    split
    · exact moveDone_keepsSound hn _ _
    · exact moveFails_keepsSound hn _ _ _
  · exact .refl s

theorem transferIdle_keepsSound (hn : s.transfer.record.names = none) : s.keepsSound (transferIdle s) :=
  .of_shrinks (transferIdle_shrinks s) fun _ hp => Paired.idled hp hn

theorem resumeParked_shrinks (hx : s.session? id = some x) : s.shrinks (resumeParked x s) := by
  have hselect : s.shrinks (selectTurn x.id (putSession
      { x with state := .playing, pos := x.pos.map fun p => { p with lane := x.home } } s)).1 :=
    (putSession_shrinks hx (by rfl)).trans (selectTurn_shrinks _ _)
  unfold resumeParked
  dsimp only
  split
  · refine .trans ?_ (startTurns_shrinks (_, _))
    exact hselect.trans (uncross_shrinks _ _)
  · exact hselect.trans (startTurns_shrinks _)

/-- An offer taken, with a lane free and room in the table (R157). -/
theorem offer_keepsSound {tag peer : Nat} {o : OfferFields} {n : Nat} (hidle : s.transfer.record = .idle)
    (hocc : s.occupied o.lane = false) (hroom : s.sessions.length < 2) (hsize : 1 ≤ o.size ∧ o.size ≤ 6) :
    s.keepsSound (s.setTransfer
      { s.transfer with
        record := .target false tag peer o (List.replicate o.size { ident := none, balls := none }) false n }) := by
  refine ⟨fun h => ?_, fun h => ?_, fun _ hp => offer_paired hp hidle hocc rfl rfl rfl⟩
  · rw [lists_numbers_iff] at h ⊢
    exact ⟨h.1.of_same rfl rfl rfl rfl rfl, h.2⟩
  · obtain ⟨-, hnodup, hrecords, hlow, hhigh, -⟩ := h
    refine ⟨?_, hnodup, hrecords, hlow, hhigh, fun r tag' peer' o' parts bad n' he => ?_⟩
    · unfold State.tableCount State.reserved
      simp only [State.setTransfer_sessions, State.setTransfer_transfer, Option.isSome_some, Bool.toNat_true]
      omega
    · cases he
      exact ⟨hsize.1, hsize.2, List.length_replicate ..⟩

/-- MOVE_SESSION taken (R155). -/
theorem moveTaken_keepsSound (hx : s.session? id = some x) (hc : x.cross = false) (hs : x.state = .playing)
    (hidle : s.transfer.record = .idle) (hu : s.shrinks u) (hsame : u.sessions = s.sessions)
    (hn : u.transfer.record.names = some id) (hr : u.transfer.record.reserves = none) (force : Bool) :
    s.keepsSound (if force then startTransfer id (truncateCurrent id u)
      else if x.turn.holds then putSession { x with state := .waitMove } u else startTransfer id u) := by
  have hux : u.session? id = some x := by
    unfold State.session? at hx ⊢
    rwa [hsame]
  refine .of_shrinks ?_ fun _ hp => moveTaken_paired hp hx hc hs hidle hsame hn hr force
  split
  · exact (hu.trans (truncateCurrent_shrinks id u)).trans (startTransfer_shrinks id _)
  · split
    · exact hu.trans (putSession_shrinks hux rfl)
    · exact hu.trans (startTransfer_shrinks id u)

end

end Sys2Proof.Machine
end

section
/-! SUPPORT. The lists, the session table and the pairs through every request and every event. -/

namespace Sys2Proof.Machine

/-- The event keeps the lists, the session table and the pairs. -/
def eventKeeps (e : State → State) : Prop := ∀ s : State, s.keepsSound (e s)

/-! ## The paths to the owners (R157, R172, R176, R179) -/

section
variable {α : Type} {name : ReqName} {parse : List Byte → Option α} {owner both : α → State → State}

theorem eventKeeps_request (m : Msg) (h : ∀ a, eventKeeps (owner a)) : eventKeeps (request name parse owner m) := by
  intro s
  have hf := takeFrame_keepsSound m.dest s
  unfold request
  dsimp only
  split
  · exact hf
  · refine .ite (.ite ?_ (hf.trans (refuse_keepsSound _ _ _ _))) hf
    split
    · exact hf.trans (h _ _)
    · exact hf.trans (refuse_keepsSound _ _ _ _)

theorem eventKeeps_requestOrAll (m : Msg) (ho : ∀ a, eventKeeps (owner a)) (hb : ∀ a, eventKeeps (both a)) :
    eventKeeps (requestOrAll name parse owner both m) := by
  intro s
  have hf := takeFrame_keepsSound m.dest s
  unfold requestOrAll
  refine .ite (eventKeeps_request m ho s) ?_
  dsimp only
  split
  · exact .ite (hf.trans (hb _ _)) hf
  · exact hf

theorem eventKeeps_forTransfer {unit : State → State} (m : Msg) (h : eventKeeps unit) : eventKeeps (forTransfer m unit) := by
  intro s
  have hf := takeFrame_keepsSound m.dest s
  unfold forTransfer
  exact .ite (hf.trans (h _)) hf

end

section
variable {s : State}

theorem reply_session? (m : Msg) (n : ReqName) (r : Result) (d : ReplyData) (s : State) (id : Nat) :
    (reply m n r d s).session? id = s.session? id := by
  unfold State.session?
  simp

/-! ## Requests of class LANE_REQ -/

theorem eventKeeps_takeHold (m : Msg) : eventKeeps (takeHold m) := by
  refine eventKeeps_requestOrAll m (fun a s => ?_) (fun a s => ?_)
  · unfold ownHold
    split
    · exact (reply_keepsSound _ _ _ _ s).trans (addReason_keepsSound _ _ _)
    · exact refuse_keepsSound _ _ _ s
  · unfold holdBoth
    split
    · exact (addReason_keepsSound _ .A s).trans (addReason_keepsSound _ .B _)
    · exact .refl s

theorem eventKeeps_takeRelease (m : Msg) : eventKeeps (takeRelease m) := by
  refine eventKeeps_requestOrAll m (fun a s => ?_)
    (fun a s => (dropReasons_keepsSound .A _ s).trans (dropReasons_keepsSound .B _ _))
  unfold ownRelease
  split
  · exact (reply_keepsSound _ _ _ _ s).trans (dropReasons_keepsSound _ _ _)
  · exact refuse_keepsSound _ _ _ s

theorem eventKeeps_takeSetHoldMode (m : Msg) : eventKeeps (takeSetHoldMode m) := by
  refine eventKeeps_request m fun a s => ?_
  unfold ownSetHoldMode
  split
  · exact (reply_keepsSound _ _ _ _ s).trans (setSeq_keepsSound _ _ _)
  · exact refuse_keepsSound _ _ _ s

theorem resetLane_keepsSound (m : Msg) (l : LaneId) (s : State) : s.keepsSound (resetLane m l s) := by
  have hu : s.keepsSound (abortCalibration l .aborted (leaveSpacing l (reply m .laneReset .accepted .none s))) :=
    ((reply_keepsSound _ _ _ _ s).trans (leaveSpacing_keepsSound l _)).trans (abortCalibration_keepsSound l _ _)
  unfold resetLane
  refine .trans (.trans ?_ (setPendingReq_keepsSound l m _ _)) (beginCycle_keepsSound l _ _)
  dsimp only
  split
  · exact (hu.trans (setSeq_keepsSound _ l _)).trans (truncateCurrent_keepsSound _ _)
  · exact hu.trans (setSeq_keepsSound _ l _)

theorem eventKeeps_takeLaneReset (m : Msg) : eventKeeps (takeLaneReset m) := by
  refine eventKeeps_request m fun a s => ?_
  have hr (r : RefuseReason) := refuse_keepsSound m .laneReset r s
  unfold ownLaneReset
  split
  · exact hr _
  · exact .ite (hr _) (.ite (hr _) (.ite (hr _) (resetLane_keepsSound m _ s)))

theorem eventKeeps_takeClearFault (m : Msg) : eventKeeps (takeClearFault m) := by
  refine eventKeeps_request m fun a s => ?_
  have hr (r : RefuseReason) := refuse_keepsSound m .clearFault r s
  unfold ownClearFault
  split
  · exact hr _
  · split
    · exact .ite (hr _) ((((reply_keepsSound _ _ _ _ s).trans (setPendingReq_keepsSound _ m _ _)).trans
        (setSeq_keepsSound _ _ _)).trans (enterSpacing_keepsSound _ _ _))
    · exact hr _

theorem eventKeeps_takeCalibrate (m : Msg) : eventKeeps (takeCalibrate m) := by
  refine eventKeeps_request m fun a s => ?_
  have hr (r : RefuseReason) := refuse_keepsSound m .calibrate r s
  unfold ownCalibrate
  split
  · exact .ite ((((reply_keepsSound _ _ _ _ s).trans (setPendingReq_keepsSound _ m _ _)).trans
      (setDeck_keepsSound _ _ _)).trans (enterSpacing_keepsSound _ _ _)) (hr _)
  · exact hr _

theorem dropReturn_keepsSound (s : State) : s.keepsSound (dropReturn s) :=
  (((setHolds_keepsSound .A _ s).trans (setHolds_keepsSound .B _ _)).trans (testHeld_keepsSound .A _)).trans
    (testHeld_keepsSound .B _)

theorem eventKeeps_takeClearJam (m : Msg) : eventKeeps (takeClearJam m) := by
  refine eventKeeps_request m fun a s => ?_
  unfold ownClearJam
  refine .ite (.trans (.trans (reply_keepsSound _ _ _ _ s) (setRet_keepsSound fun h => ?_)) (dropReturn_keepsSound _))
    (refuse_keepsSound _ _ _ s)
  exact h.beginPurge

theorem eventKeeps_takeSetGroup (m : Msg) : eventKeeps (takeSetGroup m) := by
  refine eventKeeps_request m fun g s => ?_
  unfold ownSetGroup
  split
  · exact refuse_keepsSound _ _ _ s
  · rename_i hg
    have hr := reply_keepsSound m .setGroup .done .none s
    refine .ite (hr.trans (setLink_keepsSound rfl)) (hr.trans (.of_blocks (fun h => ?_) rfl rfl rfl))
    exact ⟨h.window, h.ret, h.store, h.ctl, by simpa using hg⟩

theorem eventKeeps_takeSetCensusSilent (m : Msg) : eventKeeps (takeSetCensusSilent m) := by
  refine eventKeeps_request m fun v s => ?_
  have hset (b : Bool) : s.keepsSound ((reply m .setCensusSilent .done .none s).setSilent b) :=
    (reply_keepsSound _ _ _ _ s).trans (.of_same rfl rfl rfl rfl rfl rfl rfl rfl)
  unfold ownSetCensusSilent
  split
  · exact hset true
  · exact hset false
  · exact refuse_keepsSound _ _ _ s

theorem eventKeeps_takeStationReset (m : Msg) : eventKeeps (takeStationReset m) := by
  refine eventKeeps_request m fun a s => ?_
  unfold ownStationReset
  refine .ite (reply_keepsSound _ _ _ _ s) ?_
  split
  · exact warmReset_keepsSound _ _ s
  · refine .trans ?_ (setCtl_keepsSound fun h => h.of_same rfl rfl rfl rfl)
    exact setLink_keepsSound rfl

theorem eventKeeps_takeUnknown (c : ReqClass) (code : Byte) (m : Msg) : eventKeeps (takeUnknown c code m) := by
  intro s
  have hf := takeFrame_keepsSound m.dest s
  unfold takeUnknown
  exact .ite (hf.trans (refuse_keepsSound _ _ _ _)) hf

/-! ## Requests of class SESSION_REQ -/

theorem eventKeeps_takeStartSession (m : Msg) : eventKeeps (takeStartSession m) := by
  refine eventKeeps_request m fun a s => ?_
  have hr (r : RefuseReason) := refuse_keepsSound m .startSession r s
  unfold ownStartSession
  split
  · exact hr _
  · rename_i l _
    split
    · exact hr _
    split
    · exact hr _
    split
    · exact hr _
    split
    · exact hr _
    split
    · exact hr _
    rename_i hsize hopen hres hclash hroom
    exact newSession_keepsSound (by omega) (by simpa using (not_or.1 hopen).2) hres (by simpa using hclash) (by omega) m _ _

theorem eventKeeps_takeAddBowler (m : Msg) : eventKeeps (takeAddBowler m) := by
  refine eventKeeps_request m fun a s => ?_
  have hr (r : RefuseReason) := refuse_keepsSound m .addBowler r s
  unfold ownAddBowler
  split
  · exact hr _
  · rename_i x hx
    split
    · exact hr _
    · rename_i hroom
      refine (reply_keepsSound _ _ _ _ s).trans (addBowler_keepsSound (id := a.session) ?_ ?_ _)
      · rw [reply_session?]
        exact hx
      · omega

theorem eventKeeps_takeBeginSession (m : Msg) : eventKeeps (takeBeginSession m) := by
  refine eventKeeps_request m fun id s => ?_
  have hr (r : RefuseReason) := refuse_keepsSound m .beginSession r s
  unfold ownBeginSession
  split
  · exact hr _
  · rename_i x hx
    split
    · exact hr _
    · rename_i hforming
      refine (reply_keepsSound _ _ _ _ s).trans (beginSession_keepsSound (id := id) ?_ ?_)
      · rw [reply_session?]
        exact hx
      · exact not_not.1 (not_or.1 hforming).1

theorem eventKeeps_takeSetHandicap (m : Msg) : eventKeeps (takeSetHandicap m) := by
  refine eventKeeps_request m fun a s => ?_
  unfold ownSetHandicap
  split
  · exact refuse_keepsSound _ _ _ s
  · rename_i x hx
    refine (reply_keepsSound _ _ _ _ s).trans (putPlaysOn_keepsSound (id := a.1) ?_ (x.modifyBowler_playsOn _ _))
    rw [reply_session?]
    exact bowlerTest_ok hx

theorem eventKeeps_takeSetAbsent (m : Msg) : eventKeeps (takeSetAbsent m) := by
  refine eventKeeps_request m fun a s => ?_
  unfold ownSetAbsent
  split
  · exact refuse_keepsSound _ _ _ s
  · rename_i x hx
    have hfound : (reply m .setAbsent .done .none s).session? a.1 = some x := by
      rw [reply_session?]
      exact bowlerTest_ok hx
    have hy := x.modifyBowler_playsOn a.2.1 fun b => { b with absent := flagOf a.2.2 }
    have hput := (reply_keepsSound m .setAbsent .done .none s).trans (putPlaysOn_keepsSound hfound hy)
    refine .ite hput (hput.trans (presentAgain_keepsSound ?_ hy.kept.2.2.2.1))
    rw [session?_id hfound]
    exact session?_put_self hfound hy.kept.1

theorem eventKeeps_takeEndSession (m : Msg) : eventKeeps (takeEndSession m) := by
  refine eventKeeps_request m fun id s => ?_
  have hr (r : RefuseReason) := refuse_keepsSound m .endSession r s
  unfold ownEndSession
  split
  · exact hr _
  · rename_i x hx
    split
    · exact hr _
    · rename_i hheld
      refine (reply_keepsSound _ _ _ _ s).trans (removeSession_keepsSound fun y hy => ?_)
      rw [reply_session?, hx] at hy
      rw [← Option.some.inj hy]
      simpa using hheld

theorem eventKeeps_takeCorrectFrame (m : Msg) : eventKeeps (takeCorrectFrame m) := by
  refine eventKeeps_request m fun a s => ?_
  unfold ownCorrectFrame
  split
  · exact refuse_keepsSound _ _ _ s
  · rename_i x _ hx
    refine (reply_keepsSound _ _ _ _ s).trans (putPlaysOn_keepsSound (id := a.session) ?_ (x.modifyGame_playsOn _ _))
    rw [reply_session?]
    exact correctTest_ok hx

/-- What MOVE_SESSION's tests say (R155). -/
theorem moveTest_passed {a : MoveArgs} {r : Session × LaneId} (h : moveTest s a = .ok r) :
    r.1.cross = false ∧ r.1.state = .playing ∧ s.transfer.record = .idle := by
  unfold moveTest at h
  split at h
  · cases h
  · split at h
    · cases h
    · split at h
      · cases h
      split at h
      · cases h
      split at h
      · cases h
      split at h
      · cases h
      rename_i hcross hstate hrecord
      cases h
      exact ⟨by simpa using hcross, not_not.1 hstate, not_not.1 hrecord⟩

theorem eventKeeps_takeMoveSession (m : Msg) : eventKeeps (takeMoveSession m) := by
  refine eventKeeps_request m fun a s => ?_
  unfold ownMoveSession
  split
  · exact refuse_keepsSound _ _ _ s
  · rename_i x l hx
    obtain ⟨hc, hs, hidle⟩ := moveTest_passed hx
    have hfound := moveTest_ok hx
    dsimp only at hc hs hfound
    rw [← session?_id hfound] at hfound
    let u := reply m .moveSession .accepted .none s
    exact moveTaken_keepsSound (u := u.setTransfer
        { u.transfer with record := .source .waiting none a.station l x.id (m.sender.toNat, m.tag.toNat) none })
      hfound hc hs hidle ((send_shrinks _ _ _ s).trans (setTransfer_shrinks (fun h => h) (.inl rfl))) (by simp [u]) rfl rfl a.force

theorem occupied_of_sessions {t : State} (h : t.sessions = s.sessions) (l : LaneId) : t.occupied l = s.occupied l := by
  unfold State.occupied
  rw [h]

theorem eventKeeps_takeResumeParked (m : Msg) : eventKeeps (takeResumeParked m) := by
  refine eventKeeps_request m fun id s => ?_
  have hr (r : RefuseReason) := refuse_keepsSound m .resumeParked r s
  unfold ownResumeParked
  split
  · exact hr _
  · rename_i x hx
    split
    · exact hr _
    split
    · exact hr _
    rename_i hparked hfree
    obtain ⟨hocc, hres⟩ := not_or.1 hfree
    have hfound : (reply m .resumeParked .done .none s).session? id = some x := by
      rw [reply_session?]
      exact hx
    refine (reply_keepsSound _ _ _ _ s).trans (.of_shrinks (resumeParked_shrinks hfound) fun _ hp => ?_)
    refine resumeParked_paired hp hfound (not_not.1 (not_or.1 hparked).1) ?_ ?_
    · rw [occupied_of_sessions (s := s) (by simp)]
      simpa using hocc
    · rw [reserved_of_transfer (s := s) (by simp)]
      exact hres

theorem eventKeeps_takeDiscardParked (m : Msg) : eventKeeps (takeDiscardParked m) := by
  refine eventKeeps_request m fun id s => ?_
  have hr (r : RefuseReason) := refuse_keepsSound m .discardParked r s
  unfold ownDiscardParked
  split
  · exact hr _
  · rename_i x hx
    split
    · exact hr _
    · rename_i hparked
      refine (reply_keepsSound _ _ _ _ s).trans (.of_shrinks (dropSession_shrinks id _) fun _ hp => ?_)
      refine dropParked_paired hp (x := x) ?_ (not_not.1 hparked)
      rw [reply_session?]
      exact hx

end

end Sys2Proof.Machine
end

section
/-! SUPPORT. The requests of the meters and the reports, the transfer frames and the events under the invariants of the lists,
the session table and the pairs, and the three statements. -/

namespace Sys2Proof.Machine

section
variable {s t : State}

/-! ## Requests of class BILLING_REQ -/

theorem openLane_keepsSound (m : Msg) (l : LaneId) (k : BillMode) (a : OpenArgs) (s : State) : s.keepsSound (openLane m l k a s) :=
  ((((reply_keepsSound _ _ _ _ s).trans (setMeter_keepsSound _ l _)).trans (appendEntry_keepsSound l _ _)).trans
    (setPendingReq_keepsSound l m _ _)).trans (beginCycle_keepsSound l _ _)

theorem eventKeeps_takeOpenLane (m : Msg) : eventKeeps (takeOpenLane m) := by
  refine eventKeeps_request m fun a s => ?_
  have hr (r : RefuseReason) := refuse_keepsSound m .openLane r s
  unfold ownOpenLane
  split
  · exact .ite (hr _) (.ite (hr _) (.ite (hr _) (openLane_keepsSound m _ _ a s)))
  · exact hr _

theorem failOpening_keepsSound (l : LaneId) (s : State) : s.keepsSound (failOpening l s) := by
  unfold failOpening
  split
  · split
    · exact answerPending_keepsSound l _ _ s
    · exact .refl s
  · exact .refl s

theorem closeSequencer_keepsSound (l : LaneId) (s : State) : s.keepsSound (closeSequencer l s) := by
  have hstand := enterStandby_keepsSound l s
  unfold closeSequencer
  split
  · exact hstand
  · exact hstand
  · exact hstand
  · exact hstand
  · exact hstand
  · exact (leaveSpacing_keepsSound l s).trans (enterStandby_keepsSound l _)
  · exact enterSpacing_keepsSound l _ s
  all_goals exact .refl s

theorem transferHolds_of_same (hs : t.sessions = s.sessions) (ht : t.transfer = s.transfer) (l : LaneId) :
    t.transferHolds l = s.transferHolds l := by
  unfold State.transferHolds State.users State.partner?
  rw [reserved_of_transfer ht, hs]

theorem eventKeeps_takeCloseLane (m : Msg) : eventKeeps (takeCloseLane m) := by
  refine eventKeeps_request m fun a s => ?_
  have hr (r : RefuseReason) := refuse_keepsSound m .closeLane r s
  unfold ownCloseLane
  split
  · exact hr _
  · rename_i l _
    split
    · exact hr _
    split
    · exact hr _
    rename_i hbusy
    have hholds : (reply m .closeLane .accepted .none s).transferHolds l = false := by
      rw [transferHolds_of_same (s := s) (by simp) (by simp)]
      by_contra hh
      simp [hh] at hbusy
    exact (((((((reply_keepsSound _ _ _ _ s).trans (removeUsers_keepsSound hholds)).trans (closeMeter_keepsSound l _ _)).trans
      (setHolds_keepsSound l _ _)).trans (failOpening_keepsSound l _)).trans (abortCalibration_keepsSound l _ _)).trans
      (setPendingReq_keepsSound l m _ _)).trans (closeSequencer_keepsSound l _)

theorem creditRetry_keepsSound (l : LaneId) (s : State) : s.keepsSound (creditRetry l s) := by
  unfold creditRetry
  exact .ite (passRetry_keepsSound l _ s) (.refl s)

theorem eventKeeps_takeAddCredit (m : Msg) : eventKeeps (takeAddCredit m) := by
  refine eventKeeps_request m fun a s => ?_
  have hr (r : RefuseReason) := refuse_keepsSound m .addCredit r s
  unfold ownAddCredit
  split
  · exact hr _
  · exact .ite (hr _) (.ite (hr _) (.ite (hr _) ((((setMeter_keepsSound s _ _).trans (appendEntry_keepsSound _ _ _)).trans
      (reply_keepsSound _ _ _ _ _)).trans (creditRetry_keepsSound _ _))))

theorem eventKeeps_takeTariffBand (m : Msg) : eventKeeps (takeTariffBand m) := by
  refine eventKeeps_request m fun a s => ?_
  unfold ownTariffBand
  exact .ite (refuse_keepsSound _ _ _ s) ((reply_keepsSound _ _ _ _ s).trans (setTariff_keepsSound _ _))

theorem eventKeeps_takeTariffCommit (m : Msg) : eventKeeps (takeTariffCommit m) := by
  refine eventKeeps_request m fun a s => ?_
  unfold ownTariffCommit
  refine .ite (refuse_keepsSound _ _ _ s) ?_
  split
  · exact refuse_keepsSound _ _ _ s
  · exact (reply_keepsSound _ _ _ _ s).trans (setTariff_keepsSound _ _)

theorem journalRetries_keepsSound (s : State) : s.keepsSound (journalRetries s) := by
  have hpass (u : State) (l : LaneId) := passRetry_keepsSound l .journal u
  unfold journalRetries
  exact .ite (.trans (.ite (hpass s .A) (.refl s)) (hpass _ .B)) (.ite (hpass s .A) (.refl s))

theorem eventKeeps_takeReleaseJournal (m : Msg) : eventKeeps (takeReleaseJournal m) := by
  refine eventKeeps_request m fun q s => ?_
  have hstore : s.keepsSound (s.setStore (s.store.release q).1) := setStore_keepsSound fun h => h.release q
  unfold ownReleaseJournal
  split
  rename_i t n upTo cut hrelease
  rw [hrelease] at hstore
  have hr := hstore.trans (reply_keepsSound m .releaseJournal (if cut then .clamped else .done) (.freed n upTo) _)
  exact .ite hr (hr.trans (journalRetries_keepsSound _))

theorem eventKeeps_takeArchiveClear (m : Msg) : eventKeeps (takeArchiveClear m) := by
  refine eventKeeps_request m fun _ s => ?_
  refine .trans (reply_keepsSound _ _ _ _ s) (setStore_keepsSound fun h => h.cleared ?_ rfl ?_)
  · simp
  · simp

/-! ## Requests of class REPORT_REQ -/

theorem answerReport_keepsSound (m : Msg) (n : ReqName) (r : Report) (s : State) : s.keepsSound (answerReport m n r s) :=
  send_keepsSound _ _ _ s

theorem eventKeeps_takeLaneStatus (m : Msg) : eventKeeps (takeLaneStatus m) := by
  refine eventKeeps_request m fun a s => ?_
  unfold ownLaneStatus
  split
  · exact answerReport_keepsSound _ _ _ s
  · exact refuse_keepsSound _ _ _ s

theorem eventKeeps_takeStationStatus (m : Msg) : eventKeeps (takeStationStatus m) := by
  refine eventKeeps_request m fun a s => ?_
  unfold ownStationStatus
  split
  · exact answerReport_keepsSound _ _ _ s
  · exact refuse_keepsSound _ _ _ s

theorem eventKeeps_takeSession (m : Msg) : eventKeeps (takeSession m) := by
  refine eventKeeps_request m fun a s => ?_
  unfold ownSession
  split
  · exact refuse_keepsSound _ _ _ s
  · split
    · exact answerReport_keepsSound _ _ _ s
    · exact refuse_keepsSound _ _ _ s

theorem eventKeeps_takeGame (m : Msg) : eventKeeps (takeGame m) := by
  refine eventKeeps_request m fun a s => ?_
  unfold ownGame
  split
  · exact refuse_keepsSound _ _ _ s
  · split
    · exact refuse_keepsSound _ _ _ s
    · split
      · exact refuse_keepsSound _ _ _ s
      · split
        · exact answerReport_keepsSound _ _ _ s
        · exact refuse_keepsSound _ _ _ s

theorem eventKeeps_takeCalibration (m : Msg) : eventKeeps (takeCalibration m) := by
  refine eventKeeps_request m fun a s => ?_
  unfold ownCalibration
  split
  · exact refuse_keepsSound _ _ _ s
  · split
    · exact answerReport_keepsSound _ _ _ s
    · exact refuse_keepsSound _ _ _ s

theorem eventKeeps_takeJournal (m : Msg) : eventKeeps (takeJournal m) := by
  refine eventKeeps_request m fun a s => ?_
  unfold ownJournal
  split
  · exact reply_keepsSound _ _ _ _ s
  · split
    · exact answerReport_keepsSound _ _ _ s
    · exact refuse_keepsSound _ _ _ s

theorem eventKeeps_takeArchive (m : Msg) : eventKeeps (takeArchive m) := by
  refine eventKeeps_request m fun a s => ?_
  unfold ownArchive
  split
  · exact refuse_keepsSound _ _ _ s
  · split
    · exact answerReport_keepsSound _ _ _ s
    · exact refuse_keepsSound _ _ _ s

theorem eventKeeps_takeResetCause (m : Msg) : eventKeeps (takeResetCause m) :=
  eventKeeps_request m fun _ s => answerReport_keepsSound _ _ _ s

/-- A request of any name. -/
theorem eventKeeps_takeNamed (n : ReqName) (m : Msg) : eventKeeps (takeNamed n m) := by
  cases n with
  | hold => exact eventKeeps_takeHold m
  | release => exact eventKeeps_takeRelease m
  | setHoldMode => exact eventKeeps_takeSetHoldMode m
  | laneReset => exact eventKeeps_takeLaneReset m
  | clearFault => exact eventKeeps_takeClearFault m
  | calibrate => exact eventKeeps_takeCalibrate m
  | clearJam => exact eventKeeps_takeClearJam m
  | setGroup => exact eventKeeps_takeSetGroup m
  | setCensusSilent => exact eventKeeps_takeSetCensusSilent m
  | stationReset => exact eventKeeps_takeStationReset m
  | startSession => exact eventKeeps_takeStartSession m
  | addBowler => exact eventKeeps_takeAddBowler m
  | beginSession => exact eventKeeps_takeBeginSession m
  | setHandicap => exact eventKeeps_takeSetHandicap m
  | setAbsent => exact eventKeeps_takeSetAbsent m
  | endSession => exact eventKeeps_takeEndSession m
  | correctFrame => exact eventKeeps_takeCorrectFrame m
  | moveSession => exact eventKeeps_takeMoveSession m
  | resumeParked => exact eventKeeps_takeResumeParked m
  | discardParked => exact eventKeeps_takeDiscardParked m
  | openLane => exact eventKeeps_takeOpenLane m
  | closeLane => exact eventKeeps_takeCloseLane m
  | addCredit => exact eventKeeps_takeAddCredit m
  | tariffBand => exact eventKeeps_takeTariffBand m
  | tariffCommit => exact eventKeeps_takeTariffCommit m
  | releaseJournal => exact eventKeeps_takeReleaseJournal m
  | archiveClear => exact eventKeeps_takeArchiveClear m
  | laneStatus => exact eventKeeps_takeLaneStatus m
  | stationStatus => exact eventKeeps_takeStationStatus m
  | session => exact eventKeeps_takeSession m
  | game => exact eventKeeps_takeGame m
  | calibration => exact eventKeeps_takeCalibration m
  | journal => exact eventKeeps_takeJournal m
  | resetCause => exact eventKeeps_takeResetCause m
  | archive => exact eventKeeps_takeArchive m
  | setup | unknown _ => exact fun s => takeFrame_keepsSound _ s

/-! ## Transfer frames -/

/-- What an OFFER that no test refuses says of the station (R157). -/
theorem offerTest_none {sender : Nat} {o : OfferFields} (h : offerTest s sender o = none) :
    s.transfer.record = .idle ∧ s.occupied o.lane = false ∧ s.sessions.length < 2 := by
  unfold offerTest at h
  split at h
  · cases h
  split at h
  · cases h
  split at h
  · cases h
  split at h
  · cases h
  split at h
  · cases h
  rename_i hidle _ hocc hroom
  exact ⟨not_not.1 hidle, by simpa using hocc, by omega⟩

theorem parseOffer_size {bs : List Byte} {o : OfferFields} (h : parseOffer bs = some o) : 1 ≤ o.size ∧ o.size ≤ 6 := by
  unfold parseOffer at h
  simp only [Option.bind_eq_bind, Option.bind_eq_some_iff, Option.pure_def] at h
  obtain ⟨size, -, number, -, frame, -, current, -, limit, -, discount, -, laneByte, -, lane, -, h⟩ := h
  split at h
  · rename_i hrange
    cases h
    exact ⟨hrange.1, hrange.2.1⟩
  · cases h

theorem eventKeeps_takeOffer (m : Msg) : eventKeeps (takeOffer m) := by
  refine eventKeeps_forTransfer m fun s => ?_
  split
  · exact .refl s
  · rename_i o ho
    split
    · exact sendTransfer_keepsSound _ _ _ s
    · rename_i htest
      obtain ⟨hidle, hocc, hroom⟩ := offerTest_none htest
      exact (offer_keepsSound hidle hocc hroom (parseOffer_size ho)).trans (sendTransfer_keepsSound _ _ _ _)

theorem eventKeeps_takeAnswer (m : Msg) : eventKeeps (takeAnswer m) := by
  refine eventKeeps_forTransfer m fun s => ?_
  split
  · rename_i hr
    obtain ⟨hn, hres⟩ := names_of_source hr
    exact .ite (sendPart_keepsSound hn hres _ _ _ _ _) (.refl s)
  · rename_i hr
    obtain ⟨hn, -⟩ := names_of_source hr
    exact .ite (moveFails_keepsSound hn _ _ _) (.refl s)
  · exact endCommitted_keepsSound _ m s
  · exact .refl s

/-- A part keeps the offer taken and the number of its bowlers' parts (R159). -/
theorem takePart_keepsSound (m : Msg) {w : Nat → List BowlerParts → List BowlerParts × Bool}
    (hw : ∀ n parts, (w n parts).1.length = parts.length) (s : State) : s.keepsSound (takePart m w s) := by
  unfold takePart
  split
  · rename_i hr
    refine .ite (.of_pairs (setTransfer_shrinks (fun h => h) (.inr ?_)) (.of_record rfl ?_ ?_)) (.refl s)
    · rw [hr]
      simp [TransferRec.held, hw]
    · rw [hr]
      rfl
    · rw [hr]
      rfl
  · exact .refl s

theorem addIdent_length (n i : Nat) (f : IdentFields) (parts : List BowlerParts) :
    (addIdent n i f parts).1.length = parts.length := by
  unfold addIdent
  split
  · exact List.length_modify ..
  · rfl

theorem addBalls_length (n i filled : Nat) (f : BallsFields) (parts : List BowlerParts) :
    (addBalls n i filled f parts).1.length = parts.length := by
  unfold addBalls
  split
  · exact List.length_modify ..
  · rfl

theorem eventKeeps_takeIdent (m : Msg) : eventKeeps (takeIdent m) := by
  refine eventKeeps_forTransfer m fun s => ?_
  split
  · exact takePart_keepsSound m (fun n parts => addIdent_length n _ _ parts) s
  · exact .refl s

theorem eventKeeps_takeBalls (m : Msg) : eventKeeps (takeBalls m) := by
  refine eventKeeps_forTransfer m fun s => ?_
  split
  · exact takePart_keepsSound m (fun n parts => addBalls_length n _ _ _ parts) s
  · exact .refl s

theorem eventKeeps_takeCommit (m : Msg) : eventKeeps (takeCommit m) := by
  refine eventKeeps_forTransfer m fun s => ?_
  split
  · rename_i hr
    refine .ite ?_ (.refl s)
    split
    · rename_i ps hcheck
      exact install_keepsSound hr (commitCheck_ok hcheck).1
    · exact (transferIdle_keepsSound (by rw [hr]; rfl)).trans (sendTransfer_keepsSound _ _ _ _)
  · exact .refl s

theorem eventKeeps_takeDone (m : Msg) : eventKeeps (takeDone m) :=
  eventKeeps_forTransfer m fun s => endCommitted_keepsSound none m s

theorem eventKeeps_takeDecline (m : Msg) : eventKeeps (takeDecline m) := by
  refine eventKeeps_forTransfer m fun s => ?_
  split
  · exact endCommitted_keepsSound _ m s
  · exact .refl s

/-! ## Frames that are not requests, and RECEIVE_FRAME -/

theorem eventKeeps_takeStartNotice (f : Bare) : eventKeeps (takeStartNotice f) := by
  intro s
  have hf := takeFrame_keepsSound f.dest s
  unfold takeStartNotice
  exact .ite hf ((hf.trans (setSpacing_keepsSound fun h => h.addEntry _)).trans (recheck_keepsSound _))

theorem eventKeeps_takeCensus (f : Bare) : eventKeeps (takeCensus f) := fun _ => setLink_keepsSound rfl

theorem eventKeeps_takeTime (f : Bare) : eventKeeps (takeTime f) := by
  intro s
  have hf := takeFrame_keepsSound f.dest s
  unfold takeTime
  dsimp only
  split
  · rename_i k hk
    refine .ite (hf.trans (setCtl_keepsSound fun h => ?_)) hf
    obtain ⟨hsetup, -, hrest⟩ := h
    refine ⟨hsetup, fun k' hk' => ?_, hrest⟩
    cases hk'
    exact parseTime_inRange hk
  · exact hf

theorem eventKeeps_takeSetupRequest (f : Bare) : eventKeeps (takeSetupRequest f) := by
  intro s
  have hf := takeFrame_keepsSound f.dest s
  unfold takeSetupRequest
  dsimp only
  split
  · exact .ite (hf.trans (setCtl_keepsSound fun h => h.of_same rfl rfl rfl rfl)) hf
  · exact hf

theorem adopt_keepsSound {u : Setup} (hu : setupSound u) (src : SetupSource) (s : State) : s.keepsSound (adopt u src s) := by
  obtain ⟨-, -, -, -, -, -, -, -, hlow, hhigh, -⟩ := id hu
  unfold adopt
  refine .trans ?_ (setStore_keepsSound fun h => h.layoutCheck hlow hhigh)
  refine setCtl_keepsSound fun h => ?_
  obtain ⟨-, hrest⟩ := h
  exact ⟨hu, hrest⟩

theorem eventKeeps_takeSetupAnswer (f : Bare) : eventKeeps (takeSetupAnswer f) := by
  intro s
  have hf := takeFrame_keepsSound f.dest s
  unfold takeSetupAnswer
  dsimp only
  split
  · exact hf
  · rename_i u hu
    have hdrop (list : List (Nat × Nat)) :
        s.keepsSound ((takeFrame f.dest s).setCtl { (takeFrame f.dest s).ctl with answers := list }) :=
      hf.trans (setCtl_keepsSound fun h => h.of_same rfl rfl rfl rfl)
    refine .ite ?_ (hdrop _)
    split
    · exact (hdrop _).trans (adopt_keepsSound (parseSetup_sound hu) _ _)
    · exact .ite ((hdrop _).trans (send_keepsSound _ _ _ _)) (hdrop _)

theorem eventKeeps_takeTransfer (f : RawFrame) : eventKeeps (takeTransfer f) := by
  intro s
  unfold takeTransfer
  split
  · dsimp only
    split
    · exact eventKeeps_takeOffer _ s
    · exact eventKeeps_takeAnswer _ s
    · exact eventKeeps_takeIdent _ s
    · exact eventKeeps_takeBalls _ s
    · exact eventKeeps_takeCommit _ s
    · exact eventKeeps_takeDone _ s
    · exact takeFrame_keepsSound _ s
  · exact takeFrame_keepsSound _ s

theorem eventKeeps_takeRequest (c : ReqClass) (f : RawFrame) : eventKeeps (takeRequest c f) := by
  intro s
  unfold takeRequest
  split
  · dsimp only
    split
    · exact eventKeeps_takeNamed _ _ s
    · exact eventKeeps_takeUnknown _ _ _ s
  · exact takeFrame_keepsSound _ s

theorem eventKeeps_takeClass (f : RawFrame) : eventKeeps (takeClass f) := by
  intro s
  unfold takeClass
  dsimp only
  split
  · exact eventKeeps_takeStartNotice _ s
  · exact eventKeeps_takeStartNotice _ s
  · exact eventKeeps_takeCensus _ s
  · exact eventKeeps_takeTransfer f s
  · exact eventKeeps_takeTime _ s
  · exact .ite (eventKeeps_takeSetupRequest _ s) (eventKeeps_takeSetupAnswer _ s)
  · exact eventKeeps_takeRequest .lane f s
  · exact eventKeeps_takeRequest .session f s
  · exact eventKeeps_takeRequest .billing f s
  · exact eventKeeps_takeRequest .report f s
  · exact takeFrame_keepsSound _ s

theorem eventKeeps_takeRaw (f : RawFrame) : eventKeeps (takeRaw f) := by
  intro s
  unfold takeRaw
  exact .ite (eventKeeps_takeClass f s) (setLink_keepsSound rfl)

/-! ## Events -/

theorem frameGone_keepsSound (f : QueuedFrame) (acked : Bool) (s : State) : s.keepsSound (frameGone f acked s) := by
  unfold frameGone
  split
  · exact .ite (partAcked_keepsSound _ _ s) (.refl s)
  · exact warmReset_keepsSound _ _ s
  · exact .refl s

/-- A command that is taken as an event. -/
theorem eventKeeps.live {e : State → State} (he : eventKeeps e) (ht : live s e = .next t) : s.keepsSound t := by
  unfold Machine.live at ht
  split at ht
  · cases ht
    exact (he s).trans (beginTx_keepsSound _)
  · cases ht
    exact .refl s

theorem execClockTick_keepsSound (ht : execClockTick s = .next t) : s.keepsSound t := by
  unfold execClockTick at ht
  split at ht
  · cases ht
    exact .refl s
  · rename_i k hk
    have hclock : s.keepsSound (s.setCtl { s.ctl with clock := some k.next }) := setCtl_keepsSound fun h => by
      obtain ⟨hsetup, hclock, hrest⟩ := h
      refine ⟨hsetup, fun k' hk' => ?_, hrest⟩
      cases hk'
      exact (hclock k hk).next
    dsimp only at ht
    split at ht <;> cases ht
    · exact ((hclock.trans (meterSecond_keepsSound _ .A _)).trans (meterSecond_keepsSound _ .B _)).trans (beginTx_keepsSound _)
    · exact hclock

theorem execWarmReset_keepsSound {c : WarmCause} {low : Bool} (ht : execWarmReset c low s = .next t) : s.keepsSound t := by
  have hc : s.keepsSound (s.setCtl (s.ctl.letGo c)) := setCtl_keepsSound fun h => by cases c <;> exact h
  unfold execWarmReset at ht
  dsimp only at ht
  split at ht <;> cases ht
  · exact hc.trans (warmReset_keepsSound c low _)
  · exact hc

theorem sourceStepTimeout_keepsSound (ht : execSourceStepTimeout s = .next t) : s.keepsSound t := by
  refine eventKeeps.live (fun u => ?_) ht
  split
  · rename_i hr
    exact (park_keepsSound (names_of_source hr).1).trans (deferredReply_keepsSound _ _ _ _ _ _)
  · rename_i hr
    exact moveFails_keepsSound (names_of_source hr).1 _ _ _
  · rename_i hr
    exact moveFails_keepsSound (names_of_source hr).1 _ _ _
  · exact .refl u

theorem targetStepTimeout_keepsSound (ht : execTargetStepTimeout s = .next t) : s.keepsSound t := by
  refine eventKeeps.live (fun u => ?_) ht
  split
  · rename_i hr
    exact transferIdle_keepsSound (by rw [hr]; rfl)
  · exact .refl u

theorem queuedFrameOutcome_keepsSound {o : TxOutcome} (ht : execQueuedFrameOutcome o s = .next t) : s.keepsSound t := by
  refine eventKeeps.live (fun u => ?_) ht
  have hq (q : List QueuedFrame) : u.keepsSound (u.setLink { u.link with queue := q }) := setLink_keepsSound rfl
  split
  · exact .refl u
  · split
    · exact hq _
    · exact (hq _).trans (frameGone_keepsSound _ _ _)
    · exact (hq _).trans (frameGone_keepsSound _ _ _)

end

end Sys2Proof.Machine
end

section
/-! SUPPORT. O7, O8, O9: every step keeps the lists within their capacities, the session table and the lockstep of the pair
(R65, R67, R68, R78, R125, R140, R154, R157). -/

namespace Sys2Proof.Machine

section
variable {s t : State}

/-! ## A tenth of a second -/

theorem Spacing.inRange.tick {u : Spacing} (h : u.inRange) : u.tick.inRange := by
  unfold Spacing.inRange Spacing.tick
  rwa [List.length_map]

theorem Transfer.tick_keeps (u : Transfer) :
    u.tick.lastTag = u.lastTag ∧ u.tick.record.names = u.record.names ∧ u.tick.record.reserves = u.record.reserves ∧
      u.tick.record.held = u.record.held := by
  unfold Transfer.tick
  cases hr : u.record with
  | idle => simp [hr]
  | source => exact ⟨rfl, rfl, rfl, rfl⟩
  | target => exact ⟨rfl, rfl, rfl, rfl⟩

theorem tick_keepsSound (s : State) : s.keepsSound (tick s) := by
  obtain ⟨htag, hnames, hreserves, hheld⟩ := s.transfer.tick_keeps
  unfold tick
  refine .ite (.of_pairs ⟨fun h => ?_, rfl, ?_, .inr hheld, fun _ => List.Sublist.refl _⟩
    ⟨hnames, hreserves, fun _ h => Paired.of_record h hnames hreserves⟩) (.refl s)
  · obtain ⟨-, -, -, -, -, -, -, htransit, -⟩ := h.ctl.1
    exact ⟨Spacing.inRange.tick h.window, h.ret.tick htransit, h.store, h.ctl.of_same rfl rfl rfl rfl, h.group⟩
  · intro h
    exact htag ▸ h

/-! ## Machine events -/

theorem eventKeeps_ball (l : LaneId) :
    eventKeeps fun s => ballIntoReturn l (if (s.seq l).state = .armed then beginBallCycle l s else strayBall l s) := by
  intro s
  refine .trans (.ite (setSeq_keepsSound s l _) ?_) (ballIntoReturn_keepsSound l _)
  unfold strayBall
  exact .trans (.ite (setDeck_keepsSound s l _) (.refl s)) (setSeq_keepsSound _ l _)

theorem setTransit_keepsSound {b : BallRecord} {rest : List BallRecord} (ht : s.ret.transit = b :: rest) :
    s.keepsSound (s.setRet
      { s.ret with transit := { b with age := overdueAge s.ctl.setup.transit b.age } :: rest }) :=
  setRet_keepsSound fun h => transitOverdue_inRange h ht

theorem recheckAfter_keepsSound {v : Spacing} (hv : s.spacing.inRange → v.inRange) : s.keepsSound (recheck (s.setSpacing v)) :=
  (setSpacing_keepsSound hv).trans (recheck_keepsSound _)

theorem setCtl_same_keepsSound {c : Control} (hs : c.setup = s.ctl.setup) (hk : c.clock = s.ctl.clock)
    (hw : c.warmCount = s.ctl.warmCount) (hp : c.pair = s.ctl.pair) : s.keepsSound (s.setCtl c) :=
  setCtl_keepsSound fun h => h.of_same hs hk hw hp

/-! ## Every command -/

theorem exec_keepsSound {i : Instr} (ht : exec i s = .next t) : s.keepsSound t := by
  cases i with
  | ball l => exact eventKeeps.live (eventKeeps_ball l) ht
  | foul l => exact eventKeeps.live (fun u => .ite (setSeq_keepsSound u l _) (.refl u)) ht
  | settleExpiry l => exact eventKeeps.live (fun u => .ite (enterSpacing_keepsSound l _ u) (.refl u)) ht
  | spacingWait2W l => exact eventKeeps.live (markUrgent_keepsSound l) ht
  | readDone l levels =>
    unfold Machine.exec execReadDone at ht
    refine eventKeeps.live (fun u => ?_) ht
    split
    · exact deckRead_keepsSound l levels u
    · exact calibrationRead_keepsSound l levels u
    · exact .refl u
  | clearDone l => exact eventKeeps.live (fun u => .ite (setSeq_keepsSound u l _) (.refl u)) ht
  | setDone l => exact eventKeeps.live (fun u => .ite (cycleEnds_keepsSound l u) (.refl u)) ht
  | phaseLimitExpiry l =>
    unfold Machine.exec execPhaseLimitExpiry at ht
    refine eventKeeps.live (fun u => ?_) ht
    split
    · exact overrun_keepsSound l _ u
    · exact .refl u
  | liftTop => exact eventKeeps.live (fun u => setRet_keepsSound fun h => h.liftTop) ht
  | rackFullChange a => exact eventKeeps.live (fun u => setRet_keepsSound fun h => h.rackChange a) ht
  | liftCurrentSample v => exact eventKeeps.live (liftSample_keepsSound v.toNat) ht
  | runOnExpiry =>
    unfold Machine.exec execRunOnExpiry at ht
    refine eventKeeps.live (fun u => ?_) ht
    exact .ite (setRet_keepsSound fun h => h.of_same rfl rfl) (.refl u)
  | transitOverdue =>
    unfold Machine.exec execTransitOverdue at ht
    refine eventKeeps.live (fun u => ?_) ht
    split
    · rename_i htransit
      exact (setTransit_keepsSound htransit).trans (enterJammed_keepsSound _ _)
    · exact .refl u
  | purgeEnd => exact eventKeeps.live (fun u => .ite (purgeEnds_keepsSound u) (.refl u)) ht
  | clockTick => exact execClockTick_keepsSound ht
  | windowEntryExpiry n =>
    unfold Machine.exec execWindowEntryExpiry at ht
    refine eventKeeps.live (fun u => ?_) ht
    exact .ite (recheckAfter_keepsSound fun h => (List.length_eraseIdx_le _ _).trans h) (.refl u)
  | quietPeriodEnd =>
    unfold Machine.exec execQuietPeriodEnd at ht
    refine eventKeeps.live (fun u => ?_) ht
    exact .ite (recheckAfter_keepsSound fun h => h) (.refl u)
  | idleWatchExpiry =>
    unfold Machine.exec execIdleWatchExpiry at ht
    refine eventKeeps.live (fun u => ?_) ht
    exact recheckAfter_keepsSound fun h => (List.length_filter_le _ _).trans h
  | lineIdle =>
    unfold Machine.exec execLineIdle at ht
    refine eventKeeps.live (fun u => ?_) ht
    refine .trans (recheckAfter_keepsSound ?_) (setLink_keepsSound ?_)
    · exact fun h => h
    · rfl
  | startNoticeOutcome sent => exact eventKeeps.live (fun u => .ite (noticeSent_keepsSound u) (noticeLost_keepsSound u)) ht
  | queuedFrameOutcome o => exact queuedFrameOutcome_keepsSound ht
  | startNoticeReceived urgent f => exact eventKeeps.live (eventKeeps_takeStartNotice f) ht
  | census f => exact eventKeeps.live (eventKeeps_takeCensus f) ht
  | receiveFrame f => exact eventKeeps.live (eventKeeps_takeRaw f) ht
  | offer m => exact eventKeeps.live (eventKeeps_takeOffer m) ht
  | answer m => exact eventKeeps.live (eventKeeps_takeAnswer m) ht
  | ident m => exact eventKeeps.live (eventKeeps_takeIdent m) ht
  | balls m => exact eventKeeps.live (eventKeeps_takeBalls m) ht
  | commit m => exact eventKeeps.live (eventKeeps_takeCommit m) ht
  | transferDone m declined =>
    exact eventKeeps.live (fun u => .ite (eventKeeps_takeDecline m u) (eventKeeps_takeDone m u)) ht
  | sourceStepTimeout => exact sourceStepTimeout_keepsSound ht
  | targetStepTimeout => exact targetStepTimeout_keepsSound ht
  | time f => exact eventKeeps.live (eventKeeps_takeTime f) ht
  | setupRequest f => exact eventKeeps.live (eventKeeps_takeSetupRequest f) ht
  | setupAnswer f => exact eventKeeps.live (eventKeeps_takeSetupAnswer f) ht
  | setupWaitExpiry =>
    exact eventKeeps.live (fun u => .ite (adopt_keepsSound Setup.builtIn_sound _ u) (.refl u)) ht
  | setupAnswerDelayExpiry r =>
    unfold Machine.exec execSetupAnswerDelayExpiry at ht
    refine eventKeeps.live (fun u => ?_) ht
    refine .ite (.trans ?_ (send_keepsSound _ _ _ _)) (.refl u)
    exact setCtl_same_keepsSound rfl rfl rfl rfl
  | supplyWarningFall =>
    unfold Machine.exec execSupplyWarningFall at ht
    refine eventKeeps.live (fun u => ?_) ht
    refine .ite (.refl u) (.trans (.trans ?_ (notice_keepsSound _ _)) (recheck_keepsSound _))
    exact setCtl_same_keepsSound rfl rfl rfl rfl
  | supplyWarningRelease =>
    unfold Machine.exec execSupplyWarningRelease at ht
    refine eventKeeps.live (fun u => ?_) ht
    refine .ite (.trans ?_ (recheck_keepsSound _)) (.refl u)
    exact setCtl_same_keepsSound rfl rfl rfl rfl
  | powerOn kept strap full low =>
    cases ht
    exact powerUp_keepsSound _ _ _ _ s
  | warmReset c low => exact execWarmReset_keepsSound ht
  | stationResetTimeout => exact eventKeeps.live (fun u => .ite (warmReset_keepsSound _ _ u) (.refl u)) ht
  | brownout | resetLineAsserted =>
    cases ht
    exact setCtl_same_keepsSound rfl rfl rfl rfl
  | unknownRequest c code m => exact eventKeeps.live (eventKeeps_takeUnknown c code m) ht
  | hold m => exact eventKeeps.live (eventKeeps_takeHold m) ht
  | release m => exact eventKeeps.live (eventKeeps_takeRelease m) ht
  | setHoldMode m => exact eventKeeps.live (eventKeeps_takeSetHoldMode m) ht
  | laneReset m => exact eventKeeps.live (eventKeeps_takeLaneReset m) ht
  | clearFault m => exact eventKeeps.live (eventKeeps_takeClearFault m) ht
  | calibrate m => exact eventKeeps.live (eventKeeps_takeCalibrate m) ht
  | clearJam m => exact eventKeeps.live (eventKeeps_takeClearJam m) ht
  | setGroup m => exact eventKeeps.live (eventKeeps_takeSetGroup m) ht
  | setCensusSilent m => exact eventKeeps.live (eventKeeps_takeSetCensusSilent m) ht
  | stationReset m => exact eventKeeps.live (eventKeeps_takeStationReset m) ht
  | startSession m => exact eventKeeps.live (eventKeeps_takeStartSession m) ht
  | addBowler m => exact eventKeeps.live (eventKeeps_takeAddBowler m) ht
  | beginSession m => exact eventKeeps.live (eventKeeps_takeBeginSession m) ht
  | setHandicap m => exact eventKeeps.live (eventKeeps_takeSetHandicap m) ht
  | setAbsent m => exact eventKeeps.live (eventKeeps_takeSetAbsent m) ht
  | endSession m => exact eventKeeps.live (eventKeeps_takeEndSession m) ht
  | correctFrame m => exact eventKeeps.live (eventKeeps_takeCorrectFrame m) ht
  | moveSession m => exact eventKeeps.live (eventKeeps_takeMoveSession m) ht
  | resumeParked m => exact eventKeeps.live (eventKeeps_takeResumeParked m) ht
  | discardParked m => exact eventKeeps.live (eventKeeps_takeDiscardParked m) ht
  | openLane m => exact eventKeeps.live (eventKeeps_takeOpenLane m) ht
  | closeLane m => exact eventKeeps.live (eventKeeps_takeCloseLane m) ht
  | addCredit m => exact eventKeeps.live (eventKeeps_takeAddCredit m) ht
  | tariffBand m => exact eventKeeps.live (eventKeeps_takeTariffBand m) ht
  | tariffCommit m => exact eventKeeps.live (eventKeeps_takeTariffCommit m) ht
  | releaseJournal m => exact eventKeeps.live (eventKeeps_takeReleaseJournal m) ht
  | archiveClear m => exact eventKeeps.live (eventKeeps_takeArchiveClear m) ht
  | laneStatus m => exact eventKeeps.live (eventKeeps_takeLaneStatus m) ht
  | stationStatus m => exact eventKeeps.live (eventKeeps_takeStationStatus m) ht
  | session m => exact eventKeeps.live (eventKeeps_takeSession m) ht
  | game m => exact eventKeeps.live (eventKeeps_takeGame m) ht
  | calibration m => exact eventKeeps.live (eventKeeps_takeCalibration m) ht
  | journal m => exact eventKeeps.live (eventKeeps_takeJournal m) ht
  | archive m => exact eventKeeps.live (eventKeeps_takeArchive m) ht
  | resetCause m => exact eventKeeps.live (eventKeeps_takeResetCause m) ht

/-- A step is a tenth of a second or a command. -/
theorem step_keepsSound (ht : step s = .next t) : s.keepsSound t := by
  unfold step at ht
  split at ht
  · cases ht
    exact tick_keepsSound s
  · have hrest (rest : List Instr) : s.keepsSound { s with pending := rest } := .of_same rfl rfl rfl rfl rfl rfl rfl rfl
    exact (hrest _).trans (exec_keepsSound ht)

end

/-! ## The statements -/

/-- Settles O7. Each block's operations keep the ranges of its lists and counters. -/
theorem listsKept : Obligations.ListsKept := fun _ hs _ ht => (step_keepsSound ht).lists hs

/-- Settles O8. Only START_SESSION adds a record and only an accepted OFFER reserves a lane; both test the count. -/
theorem tableKept : Obligations.TableKept := fun _ hs _ ht => (step_keepsSound ht).table hs

/-- Settles O9. The invariant is the pair's lockstep over the seats of the table (`State.paired`). -/
theorem pairsKept : Obligations.PairsKept := by
  intro s hs t ht
  rw [pairsSound_iff] at hs ⊢
  obtain ⟨htable, hpaired⟩ := hs
  have hstep := step_keepsSound ht
  exact ⟨hstep.table htable, hstep.pairs htable hpaired⟩

end Sys2Proof.Machine
end

section
/-! SUPPORT. START_SESSION (R67, R68), and the statement about it. -/

namespace Sys2Proof.Machine

/-- The refusal of a START_SESSION in range, in the order of R68's tests. -/
def State.startRefusal (s : State) (l : LaneId) (cross : Bool) : Option RefuseReason :=
  if (s.meter l).isOpen = false ∨ s.occupied l = true then some .state
  else if s.reserved = some l then some .laneTaken
  else if s.crossClash l cross then some .cross
  else if 2 ≤ s.tableCount then some .busy
  else none

section
variable {s : State} {l : LaneId} {a : StartArgs} {m : Msg}

theorem State.crossClash_iff (s : State) (l : LaneId) (cross : Bool) :
    s.crossClash l cross = true ↔ ∃ y ∈ s.sessions, y.occupies (other l) = true ∧ y.cross ≠ cross := by
  simp [State.crossClash]

theorem State.tableCount_eq (s : State) : s.tableCount = s.sessions.length + if s.reserved = none then 0 else 1 := by
  unfold State.tableCount
  cases s.reserved <;> rfl

theorem ownStartSession_noLane (hl : laneOf a.lane = none) : ownStartSession m a s = refuse m .startSession .range s := by
  simp only [ownStartSession, hl]

theorem ownStartSession_size (hsize : a.size = 0 ∨ 6 < a.size) : ownStartSession m a s = refuse m .startSession .range s := by
  unfold ownStartSession
  split
  · rfl
  · exact if_pos (by omega)

theorem State.startRefusal_eq (s : State) (l : LaneId) (cross : Bool) :
    s.startRefusal l cross =
      if (s.meter l).isOpen = false ∨ s.occupied l = true then some .state
      else if s.reserved = some l then some .laneTaken
      else if ∃ y ∈ s.sessions, y.occupies (other l) = true ∧ y.cross ≠ cross then some .cross
      else if 2 ≤ s.sessions.length + (if s.reserved = none then 0 else 1) then some .busy
      else none := by
  unfold State.startRefusal
  simp only [State.crossClash_iff, State.tableCount_eq]

/-- The owner's answer to a request in range. -/
theorem ownStartSession_eq (hl : laneOf a.lane = some l) (hlow : 1 ≤ a.size) (hhigh : a.size ≤ 6) :
    ownStartSession m a s = (s.startRefusal l a.cross).elim
      (addSession (newSession s.newId l a)
        (reply m .startSession (if 99 < a.limit ∨ 100 < a.discount then .clamped else .done) (.sessionId s.newId) s))
      fun r => refuse m .startSession r s := by
  have hsize : ¬ (a.size < 1 ∨ 6 < a.size) := by omega
  simp only [ownStartSession, hl, if_neg hsize]
  unfold State.startRefusal
  split_ifs <;> rfl

theorem State.startRefusal_room {cross : Bool} (h : s.startRefusal l cross = none) : s.sessions.length ≤ 1 := by
  unfold State.startRefusal State.tableCount at h
  split_ifs at h
  omega

/-- A record joins the table before the first record with a greater id (R67). -/
theorem insertSession_split (x : Session) (xs : List Session) :
    ∃ front back, xs = front ++ back ∧ (∀ y ∈ front, y.id ≤ x.id) ∧ (∀ y ∈ back.head?, x.id < y.id) ∧
      insertSession x xs = front ++ x :: back := by
  induction xs with
  | nil => exact ⟨[], [], rfl, by simp, by simp, rfl⟩
  | cons y ys ih =>
    unfold insertSession
    by_cases h : x.id < y.id
    · exact ⟨[], y :: ys, rfl, by simp, by simpa using h, if_pos h⟩
    · obtain ⟨front, back, hys, hfront, hback, hinsert⟩ := ih
      refine ⟨y :: front, back, by rw [hys]; rfl, List.forall_mem_cons.2 ⟨by omega, hfront⟩, hback, ?_⟩
      rw [if_neg h, hinsert]
      rfl

/-- A record added to a station with a reply queued. -/
theorem addSession_replied (x : Session) (s : State) (m : Msg) (n : ReqName) (r : Result) (d : ReplyData) :
    let u := addSession x (s.replied m n r d)
    u = { s with link := u.link, sessions := u.sessions, nextId := wrapNext 255 x.id } ∧
      u.sessions = insertSession x s.sessions := by
  rw [s.replied_eq]
  exact ⟨rfl, rfl⟩

theorem session?_newId (h : s.sessions.length ≤ 1) : s.session? s.newId = none := by
  unfold State.session?
  rw [List.find?_eq_none]
  intro y hy
  simpa using newId_fresh h y hy

end

/-! ## The statement -/

/-- Settles O50. The owner's tests are those of `State.startRefusal`; a request none of them refuses has room for one more
record, so that the id it takes is no other's. -/
theorem sessionStarted : Obligations.SessionStarted := by
  intro m s hr h a ha
  have hexec := exec_request (c := .startSession m) (owner := ownStartSession m) rfl h ha
  have hrefused (r : RefuseReason) (ho : ownStartSession m a (takeFrame m.dest s) = refuse m .startSession r (takeFrame m.dest s)) :=
    refused_event h hr (hexec.trans (by rw [ho]))
  by_cases hrange : laneOf a.lane = none ∨ a.size = 0 ∨ 6 < a.size
  · obtain ⟨t, ht, hans, hlink⟩ := hrefused .range (hrange.elim ownStartSession_noLane ownStartSession_size)
    refine ⟨t, ht, fun _ => ⟨hans, hlink⟩, fun l hl hlow hhigh => ?_⟩
    rw [hl] at hrange
    simp at hrange
    omega
  · obtain ⟨l, hl⟩ := Option.ne_none_iff_exists'.1 fun hn => hrange (.inl hn)
    have hown := ownStartSession_eq (m := m) (s := takeFrame m.dest s) hl (by omega) (by omega)
    change _ = (s.startRefusal l a.cross).elim _ _ at hown
    have hsame {l' : LaneId} (hl' : laneOf a.lane = some l') : l' = l := Option.some.inj (hl'.symm.trans hl)
    cases hwhy : s.startRefusal l a.cross with
    | some r =>
      obtain ⟨t, ht, hans, hlink⟩ := hrefused r (by rw [hown, hwhy]; rfl)
      refine ⟨t, ht, fun hbad => absurd hbad hrange, fun l' hl' _ _ => ?_⟩
      obtain rfl := hsame hl'
      dsimp only
      rw [← s.startRefusal_eq, hwhy]
      refine ⟨fun r' hr' => ?_, nofun⟩
      cases hr'
      exact ⟨hans, hlink⟩
    | none =>
      let u : State := addSession (newSession s.newId l a) (s.replied m .startSession
        (if 99 < a.limit ∨ 100 < a.discount then .clamped else .done) (.sessionId s.newId))
      have hown : ownStartSession m a (takeFrame m.dest s) = u := by rw [hown, hwhy]; exact rfl
      obtain ⟨hans, hbusy⟩ := answered_event (n := .startSession) (u := u) h hr rfl
      rw [hown, hbusy] at hexec
      rw [hbusy] at hans
      refine ⟨u, hexec, fun hbad => absurd hbad hrange, fun l' hl' _ _ => ?_⟩
      obtain rfl := hsame hl'
      dsimp only
      rw [← s.startRefusal_eq, hwhy]
      obtain ⟨hframe, hsessions⟩ := addSession_replied (newSession s.newId l' a) s m .startSession
        (if 99 < a.limit ∨ 100 < a.discount then .clamped else .done) (.sessionId s.newId)
      refine ⟨nofun, fun _ => ⟨hans, hframe, session?_newId (State.startRefusal_room hwhy), ?_⟩⟩
      rw [show u.sessions = insertSession (newSession s.newId l' a) s.sessions from hsessions]
      exact insertSession_split (newSession s.newId l' a) s.sessions

end Sys2Proof.Machine
end

section
/-! SUPPORT. ADD_BOWLER and BEGIN (R69, R70), and the statement about them. -/

namespace Sys2Proof.Machine

section
variable {s u : State} {m : Msg} {x y : Session} {id i : Nat} {p : GamePos} {b : Bowler} {g : Game}

/-! ## The turn starts of one session -/

/-- The turns started for a session whose turn is OUTSTANDING on its ARMED lane (R81). -/
theorem startTurns_turnStarts (hx : u.session? x.id = some x) (hp : x.pos = some p) (hi : x.current = some i)
    (hb : x.bowler? i = some b) (hg : b.game = some g) (hstate : x.state = .playing) (hturn : x.turn = .outstanding)
    (harmed : (u.seq p.lane).state = .armed) (hsends : u.sends 2) :
    u.turnStarts (startTurns (u, [x.id])) p.lane x i b g p ∧ u.startsOnly (startTurns (u, [x.id])) p.lane ∧
      ∀ d q, u.queued d q → (startTurns (u, [x.id])).queued d q := by
  obtain ⟨hstarts, honly, hqueued, y, hy, hq⟩ := startTurn_turnStarts hx hp hi hb hg hstate hturn harmed hsends
  rw [startTurns_own hx hp hy hq]
  exact ⟨hstarts, honly, hqueued⟩

/-- A turn start does not depend on the line. -/
theorem State.turnStarts.of_link {v t : State} {l : LaneId} (h : u.turnStarts t l x i b g p) (hu : u = { v with link := u.link }) :
    v.turnStarts t l x i b g p := by
  rw [hu] at h
  exact h

theorem State.startsOnly.of_link {v t : State} {l : LaneId} (h : u.startsOnly t l) (hu : u = { v with link := u.link }) :
    v.startsOnly t l := by
  rw [hu] at h
  exact h

/-! ## ADD_BOWLER (R69) -/

theorem enterName_eq (bs : List Byte) :
    enterName bs = (bs.take 12).map fun b => if 32 ≤ b.toNat ∧ b.toNat ≤ 126 then b else 63#8 := by
  simp [enterName, printable]

theorem enterHandicap_changed (n : Nat) : enterHandicap n ≠ n ↔ 255 < n := by
  unfold enterHandicap
  omega

theorem ownAddBowler_noSession {a : BowlerArgs} (h : s.session? a.session = none) :
    ownAddBowler m a s = refuse m .addBowler .noSession s := by
  simp only [ownAddBowler, h]

theorem ownAddBowler_refused {a : BowlerArgs} (h : s.session? a.session = some x)
    (hr : x.state ≠ .forming ∨ x.size ≤ x.bowlers.length) : ownAddBowler m a s = refuse m .addBowler .state s := by
  simp only [ownAddBowler, h, if_pos hr]

/-- The bowler ADD_BOWLER adds to a session (R66, R69). -/
def BowlerArgs.bowler (a : BowlerArgs) (x : Session) : Bowler :=
  { name := enterName a.name, handicap := enterHandicap a.handicap, absent := a.absent, completed := 0, game := none
    first := ballLane x.home }

theorem ownAddBowler_taken {a : BowlerArgs} (h : s.session? a.session = some x) (hforming : x.state = .forming)
    (hroom : x.bowlers.length < x.size) :
    ownAddBowler m a s = putSession { x with bowlers := x.bowlers ++ [a.bowler x] }
      (reply m .addBowler (if enterName a.name ≠ a.name ∨ 255 < a.handicap then .clamped else .done)
        (.bowlerIndex (x.bowlers.length + 1)) s) := by
  have hr : ¬ (x.state ≠ .forming ∨ x.size ≤ x.bowlers.length) := by
    rw [not_or, not_not]
    exact ⟨hforming, by omega⟩
  simp only [ownAddBowler, h, if_neg hr, ← enterHandicap_changed]
  rfl

/-! ## BEGIN (R70) -/

theorem ownBeginSession_noSession (h : s.session? id = none) :
    ownBeginSession m id s = refuse m .beginSession .noSession s := by
  simp only [ownBeginSession, h]

theorem ownBeginSession_refused (h : s.session? id = some x) (hr : x.state ≠ .forming ∨ x.bowlers.length < x.size) :
    ownBeginSession m id s = refuse m .beginSession .state s := by
  simp only [ownBeginSession, h, if_pos hr]

theorem ownBeginSession_taken (h : s.session? id = some x) (hforming : x.state = .forming) (hfull : x.size ≤ x.bowlers.length) :
    ownBeginSession m id s = beginSession x (reply m .beginSession .done .none s) := by
  have hr : ¬ (x.state ≠ .forming ∨ x.bowlers.length < x.size) := by
    rw [not_or, not_not]
    exact ⟨hforming, by omega⟩
  simp only [ownBeginSession, h, if_neg hr]

/-- A session's partner depends on its id and its home lane, and on the other records. -/
theorem partner?_putSession (hid : y.id = x.id) (hhome : y.home = x.home) :
    (putSession y s).partner? y = s.partner? x := by
  unfold State.partner?
  show (s.sessions.map fun z => if z.id = y.id then y else z).find? _ = _
  rw [List.find?_map, hid, hhome]
  have hsame : ((fun z : Session => z.id != x.id && z.home == other x.home && z.state != .parked) ∘
      fun z => if z.id = x.id then y else z) = fun z => z.id != x.id && z.home == other x.home && z.state != .parked := by
    funext z
    by_cases hz : z.id = x.id <;> simp [hz, hid]
  rw [hsame]
  cases hf : s.sessions.find? fun z => z.id != x.id && z.home == other x.home && z.state != .parked with
  | none => rfl
  | some z =>
    have hne := List.find?_some hf
    simp only [Bool.and_eq_true, bne_iff_ne] at hne
    rw [Option.map_some, if_neg hne.1.1]

/-- A cross session without a partner waits for one (R70, R78). -/
theorem beginSession_waits (hx : s.session? x.id = some x) (hcross : x.cross = true) (hpartner : s.partner? x = none) :
    beginSession x s = putSession { x with state := .waitPartner .start, turn := .none } s := by
  let y : Session := { x with state := .waitPartner .start, turn := .none }
  have hy : (putSession y s).session? x.id = some y := session?_putSession (y := y) hx
  have hnone : (putSession y s).partner? y = none := (partner?_putSession (x := x) (y := y) rfl rfl).trans hpartner
  unfold beginSession
  rw [if_pos hcross]
  show startTurns (barrierTest x.id (putSession y s)) = putSession y s
  simp only [barrierTest, hy, hnone]
  rfl

/-- The session at the start of game 1, its first bowler chosen (R66, R70, R76). -/
def Session.firstTurn (x : Session) : Session := { x.startGame 1 with turn := .outstanding, current := some 1 }

theorem selectFresh_firstTurn (hx : s.session? x.id = some x) (hb : x.bowlers.head? = some b) (hpresent : b.absent = false) :
    selectFresh x.id (putSession (x.startGame 1) s) = (putSession x.firstTurn s, [x.id]) := by
  have hput : (putSession (x.startGame 1) s).session? x.id = some (x.startGame 1) := session?_putSession (y := x.startGame 1) hx
  have hfirst : firstPresent 0 (x.startGame 1).bowlers = 0 := by
    obtain ⟨bs, hbs⟩ := List.head?_eq_some_iff.1 hb
    refine firstPresent_here (b := { b with
      game := some (Game.fresh b.name b.handicap 1), first := ballLane x.home }) ?_ hpresent
    simp [Session.startGame, hbs]
  have hlength : 0 < (x.startGame 1).bowlers.length := by
    obtain ⟨bs, hbs⟩ := List.head?_eq_some_iff.1 hb
    simp [Session.startGame, hbs]
  have hchoose := Session.choose_chosen (x := x.startGame 1) (p := ⟨1, 1, x.home⟩) rfl (by
    show firstPresent 0 (x.startGame 1).bowlers < _
    rwa [hfirst])
  have hselected : (x.startGame 1).selected ⟨1, 1, x.home⟩ = x.firstTurn := by
    unfold Session.selected
    show ({ x.startGame 1 with
      bowlers := blanks 1 0 (firstPresent 0 (x.startGame 1).bowlers) (x.startGame 1).bowlers
      current := some (firstPresent 0 (x.startGame 1).bowlers + 1), turn := .outstanding } : Session) = _
    rw [hfirst, blanks_none]
    rfl
  simp only [selectFresh, hput, hchoose, hselected]
  exact congrArg (·, [x.id]) (putSession_twice (x := x.startGame 1) (y := x.firstTurn) rfl s)

/-- A session that is not crossed starts game 1 (R70). -/
theorem beginSession_starts (hx : s.session? x.id = some x) (hcross : x.cross = false) (hb : x.bowlers.head? = some b)
    (hpresent : b.absent = false) : beginSession x s = startTurns (putSession x.firstTurn s, [x.id]) := by
  unfold beginSession
  rw [if_neg (by simp [hcross]), selectFresh_firstTurn hx hb hpresent]

theorem beginSession_unarmed (hx : s.session? x.id = some x) (hcross : x.cross = false) (hb : x.bowlers.head? = some b)
    (hpresent : b.absent = false) (harmed : (s.seq x.home).state ≠ .armed) :
    beginSession x s = putSession x.firstTurn s :=
  (beginSession_starts hx hcross hb hpresent).trans (startTurns_unarmed (x := x.firstTurn) (p := ⟨1, 1, x.home⟩)
    (session?_putSession (y := x.firstTurn) hx) rfl harmed)

/-! ## The events -/

variable {n n0 : ReqName} {r : Result} {d : ReplyData}

/-- What a refusal leaves (R178). -/
theorem refused_left (h : s.reaches m n0) (hr : s.room 1) (r : RefuseReason) :
    let t := beginTx (refuse m n r (takeFrame m.dest s))
    s.answered t m n (.refused r) .none ∧ t = { s with link := t.link } := by
  obtain ⟨hans, hbusy⟩ := answered_event (n := n) (r := .refused r) (d := .none) (u := s.replied m n (.refused r) .none) h hr rfl
  refine ⟨hans, ?_⟩
  show beginTx (s.replied m n (.refused r) .none) = { s with link := (beginTx (s.replied m n (.refused r) .none)).link }
  rw [hbusy]
  exact s.replied_eq m n (.refused r) .none

/-- What an answered request that writes one session leaves. -/
theorem written_left (h : s.reaches m n0) (hr : s.room 1) (y : Session) :
    let t := beginTx (putSession y (s.replied m n r d))
    s.answered t m n r d ∧ t = { s with link := t.link, sessions := s.sessions.map fun z => if z.id = y.id then y else z } := by
  obtain ⟨hans, hbusy⟩ := answered_event (n := n) (r := r) (d := d) (u := putSession y (s.replied m n r d)) h hr (by simp)
  refine ⟨hans, ?_⟩
  rw [hbusy, s.replied_eq]
  rfl

/-- BEGIN of a session that is not crossed, on its ARMED home lane (R70, R81). -/
theorem beginSession_armed (h : s.reaches m n0) (hr : s.sends 3) (hx : s.session? x.id = some x) (hcross : x.cross = false)
    (hb : x.bowlers.head? = some b) (hpresent : b.absent = false) (harmed : (s.seq x.home).state = .armed) :
    let t := beginTx (beginSession x (s.replied m n .done .none))
    s.acked t ∧ t.queued m.sender.toNat (firstReply m n .done .none) ∧
      (putSession x.firstTurn s).startsOnly t x.home ∧
      (putSession x.firstTurn s).turnStarts t x.home x.firstTurn 1
        { b with game := some (Game.fresh b.name b.handicap 1), first := ballLane x.home }
        (Game.fresh b.name b.handicap 1) ⟨1, 1, x.home⟩ := by
  let u := putSession x.firstTurn (s.replied m n .done .none)
  have hreplied : (s.replied m n .done .none).session? x.id = some x := by
    rw [s.replied_eq]
    exact hx
  have hu : u.session? x.id = some x.firstTurn := session?_putSession (y := x.firstTurn) hreplied
  have hframe : u = { putSession x.firstTurn s with link := u.link } := by
    show putSession x.firstTurn (s.replied m n .done .none) = _
    rw [s.replied_eq]
    rfl
  have hbowler : x.firstTurn.bowler? 1 = some { b with
      game := some (Game.fresh b.name b.handicap 1), first := ballLane x.home } := by
    obtain ⟨bs, hbs⟩ := List.head?_eq_some_iff.1 hb
    show (x.bowlers.map _)[0]? = _
    rw [hbs]
    rfl
  have husends : u.sends 2 := (State.replied_sends (n := n) (r := .done) (d := .none) (c := 2) h hr.2).of_same rfl rfl
  obtain ⟨hstarts, honly, hqueued⟩ := startTurns_turnStarts (u := u) (p := ⟨1, 1, x.home⟩) hu rfl rfl hbowler rfl rfl rfl
    (by rw [hframe]; exact harmed) husends
  have hacked : s.acked (startTurns (u, [x.firstTurn.id])) :=
    (State.replied_acked (n := n) (r := .done) (d := .none) h (hr.less (by omega) : s.sends 1).2).of_line (startTurns_line _)
  rw [beginSession_starts hreplied hcross hb hpresent]
  change s.acked (beginTx (startTurns (u, [x.firstTurn.id]))) ∧ (beginTx (startTurns (u, [x.firstTurn.id]))).queued _ _ ∧
    (putSession x.firstTurn s).startsOnly (beginTx (startTurns (u, [x.firstTurn.id]))) _ ∧
    (putSession x.firstTurn s).turnStarts (beginTx (startTurns (u, [x.firstTurn.id]))) _ _ _ _ _ _
  rw [beginTx_busy hacked.lineIdle]
  refine ⟨hacked, hqueued _ _ (State.queued.of_link (s := s.replied m n .done .none)
    (State.replied_queued h (hr.less (by omega) : s.sends 1).2) rfl), honly.of_link hframe, hstarts.of_link hframe⟩

end

/-! ## The statement -/

/-- Settles O51. A taken request is answered, and then the record is written or the session begins. -/
theorem sessionFormed : Obligations.SessionFormed := by
  intro m s hr
  have hadd (h : s.reaches m .addBowler) {a : BowlerArgs} (ha : parseBowler m.args = some a) :=
    exec_request (c := .addBowler m) (owner := ownAddBowler m) rfl h ha
  have hbegin (h : s.reaches m .beginSession) {a : Nat} (ha : parse1 m.args = some a) :=
    exec_request (c := .beginSession m) (owner := ownBeginSession m) rfl h ha
  refine ⟨fun h a ha hx => ?_, fun h a ha x hx => ⟨_, hadd h ha, fun hforming hroom => ?_, fun hrefused => ?_⟩,
    fun h a ha hx => ?_, fun h a ha x hx => ⟨_, hbegin h ha, fun hrefused => ?_, fun hforming hfull hcross hpartner => ?_,
      fun hforming hfull hcross b hb hpresent => ⟨fun harmed => ?_, fun harmed hsends => ?_⟩⟩⟩
  · exact refused_event h hr ((hadd h ha).trans (by rw [ownAddBowler_noSession (s := takeFrame m.dest s) hx]))
  · rw [ownAddBowler_taken (s := takeFrame m.dest s) hx hforming hroom]
    rw [← enterName_eq]
    exact written_left h hr _
  · rw [ownAddBowler_refused (s := takeFrame m.dest s) hx hrefused]
    exact refused_left h hr _
  · exact refused_event h hr ((hbegin h ha).trans (by rw [ownBeginSession_noSession (s := takeFrame m.dest s) hx]))
  · rw [ownBeginSession_refused (s := takeFrame m.dest s) hx hrefused]
    exact refused_left h hr _
  all_goals
    have hown : _ = beginSession x (s.replied m .beginSession .done .none) :=
      ownBeginSession_taken (m := m) (s := takeFrame m.dest s) hx hforming hfull
    rw [hown]
    obtain rfl := session?_id hx
    have hreplied : (s.replied m .beginSession .done .none).session? x.id = some x := by
      rw [s.replied_eq]
      exact hx
  · rw [beginSession_waits hreplied hcross (by rw [s.replied_eq]; exact hpartner)]
    exact written_left h hr _
  · rw [beginSession_unarmed hreplied hcross hb hpresent (by rw [s.replied_eq]; exact harmed)]
    exact written_left h hr x.firstTurn
  · obtain ⟨hacked, hqueued, ⟨heq, hseq⟩, hstarts⟩ := beginSession_armed h hsends hx hcross hb hpresent harmed
    refine ⟨hacked, hqueued, ?_, hstarts⟩
    rw [hseq] at heq
    exact heq

end Sys2Proof.Machine
end

section
/-! SUPPORT. The statement about ADD_CREDIT and RELEASE_JOURNAL (R117, R118, R131), refuted: a release that lets both lanes go
on, with more sessions on lane B than a session table holds (R65), overfills the outbound queue (R173). -/

namespace Sys2Proof.Machine

/-! ## The station -/

/-- A session of one bowler in frame 1 of its first game on a lane. -/
def crowdSession (id : Nat) (l : LaneId) (q : SessionState) (t : Turn) : Session :=
  { id := id, home := l, cross := false, state := q, size := 1
    bowlers := [{ name := [65#8], handicap := 0, absent := false, completed := 0, game := some (Game.fresh [65#8] 0 1)
                  first := ballLane l }]
    pos := some { number := 1, frame := 1, lane := l }, turn := t, current := some 1, limit := 0, discount := 0 }

/-- The session of lane A, whose turn is OUTSTANDING. -/
def waitingSession : Session := crowdSession 1 .A .playing .outstanding

/-- A station with both lanes held for the journal of one entry: lane A's session is to be shown its turn start, and lane B
has four sessions whose turns have ended and that wait to be moved. Seven notices wait in the queue. -/
def crowdedStation : State :=
  let held : Sequencer := { Sequencer.powerOn with state := .held (.rack false), holds := HoldSet.empty.put .journal true }
  let meter : Meter := { Meter.lost with
    isOpen := true, mode := .none
    wait := some { reason := .journal, session := 1, bowler := 1, game := 1, frame := 1, discount := 0, charge := none } }
  { State.reset with
    seqs := ⟨held, held⟩, meters := ⟨meter, meter⟩
    sessions := waitingSession :: [2, 3, 4, 5].map fun id => crowdSession id .B .waitMove .ended
    store := { State.reset.store with
      lastSeq := 1
      journal := [{ seq := 1, lane := .A, time := none, body := .opening .none false none }] }
    transfer := { record := .source .waiting none 2 .A 2 (240, 5) none, lastTag := 0 }
    link := { State.reset.link with
      queue := List.replicate 7 { dest := 255, payload := .notice .supplyLow, mark := .none, onLine := false } } }

/-- Desk 240 releases the journal up to entry 1. -/
def crowdedRelease : Msg := { sender := 240#8, dest := 1#8, tag := 9#8, args := [0#8, 0#8, 0#8, 1#8] }

/-- The display update of lane A's turn start. -/
def crowdedDisplay : Payload :=
  .display (.turn (displayHead waitingSession 1
    { name := [65#8], handicap := 0, absent := false, completed := 0, game := some (Game.fresh [65#8] 0 1), first := .A }
    (Game.fresh [65#8] 0 1) { number := 1, frame := 1, lane := .A }) .admitted)

/-- Beside the session of lane A, every session is on lane B and none is SUSPENDED. -/
theorem crowdedStation_others {y : Session} (hy : y ∈ crowdedStation.sessions) (hne : y.id ≠ waitingSession.id) :
    y.frameLane ≠ some .A ∧ ∀ r, y.state ≠ .suspended r := by
  rcases List.mem_cons.1 hy with rfl | hy
  · exact absurd rfl hne
  · obtain ⟨id, -, rfl⟩ := List.mem_map.1 hy
    exact ⟨nofun, nofun⟩

/-- The four OFFERs of lane B fill the queue, and the last of them takes the place of lane A's display update. -/
theorem crowdedDisplay_lost :
    ∃ t, exec (.releaseJournal crowdedRelease) crowdedStation = .next t ∧ ¬ t.queued 65 crowdedDisplay := by
  refine ⟨_, live_running (s := crowdedStation) (by decide) (takeReleaseJournal crowdedRelease), ?_⟩
  unfold State.queued
  decide

/-! ## The statement -/

/-- Refutes O57. The turn start of lane A in `crowdedStation` shows the console the turn, and what is queued then is to be
queued after lane B's retry too; but the OFFERs that lane B's entry into ARMED queues displace the display update (R173).
The statement leaves the number of sessions open; with the two of R65 the queue has room for what both lanes send. -/
theorem not_creditAndRelease : ¬ Obligations.CreditAndRelease := by
  intro h
  obtain ⟨-, hrelease⟩ := h
  obtain ⟨t, ht, -, -, -, hboth, -⟩ := hrelease crowdedRelease crowdedStation (by decide) (by decide) 1 (by decide) (by decide)
  obtain ⟨u, ⟨-, henters⟩, hqueued, -⟩ := hboth (fun l => by cases l <;> decide) (by decide) (fun l => by cases l <;> decide)
    (by decide)
  obtain ⟨-, -, -, -, hadmitted⟩ := henters (by decide) (by decide) waitingSession (by decide) rfl rfl _ rfl rfl
    (fun _ => crowdedStation_others) 1 rfl _ rfl _ rfl
  obtain ⟨-, -, -, hshown, -⟩ := hadmitted (by decide) (by decide)
  obtain ⟨t', ht', hlost⟩ := crowdedDisplay_lost
  obtain rfl : t = t' := by
    rw [ht] at ht'
    exact Host.Outcome.next.inj ht'
  exact hlost (hqueued _ _ hshown)

end Sys2Proof.Machine
end

section
/-! SUPPORT. A cycle that ends in ARMED (R7), and the entry reported with one session's turn on the lane (R1, R76, R81). -/

namespace Sys2Proof.Machine

section
variable {s t t' u v : State} {l : LaneId} {id i : Nat} {x : Session} {p : GamePos} {b : Bowler} {g : Game} {c : Cycle}

/-! ## The entry into ARMED -/

theorem armedTurn_elsewhere (h : ∀ y, v.session? id = some y → y.frameLane ≠ some l) : armedTurn l v id = v := by
  unfold armedTurn
  split
  · rfl
  · rename_i y hy
    exact if_neg (h y hy)

theorem armedTurns_elsewhere {ids : List Nat} (h : ∀ j ∈ ids, ∀ y, v.session? j = some y → y.frameLane ≠ some l) :
    ids.foldl (armedTurn l) v = v := by
  induction ids with
  | nil => rfl
  | cons j js ih =>
    obtain ⟨hj, hjs⟩ := List.forall_mem_cons.1 h
    rw [List.foldl_cons, armedTurn_elsewhere hj]
    exact ih hjs

theorem resumeOn_none (h : ∀ y ∈ u.sessions, ∀ r, y.state ≠ .suspended r) : resumeOn l u = ((u, []), none) := by
  have hnone : (u.sessions.find? fun x => x.home == l && (match x.state with | .suspended _ => true | _ => false)) = none := by
    refine List.find?_eq_none.2 fun y hy => ?_
    have := h y hy
    cases hs : y.state with
    | suspended r => exact absurd hs (this r)
    | _ => simp
  unfold resumeOn
  split
  · rfl
  · rename_i y hy
    exact absurd (hy.symm.trans hnone) (by simp)

/-- An entry into ARMED acts on the one session on the lane, when none is SUSPENDED (R1, R76, R81). -/
theorem armedReport_one (hnodup : (u.sessions.map (·.id)).Nodup) (hid : id ∈ u.sessions.map (·.id))
    (hsuspended : ∀ y ∈ u.sessions, ∀ r, y.state ≠ .suspended r)
    (hothers : ∀ y ∈ u.sessions, y.id ≠ id → y.frameLane ≠ some l) (hkeeps : u.changesOnly id (armedTurn l u id)) :
    armedReport l u = armedTurn l u id := by
  have hlane (j : Nat) (hj : j ≠ id) : ∀ y, u.session? j = some y → y.frameLane ≠ some l := fun y hy =>
    hothers y (List.mem_of_find?_eq_some hy) (by rwa [session?_id hy])
  obtain ⟨pre, post, hids⟩ := List.append_of_mem hid
  rw [hids, List.nodup_middle, List.nodup_cons, List.mem_append, not_or] at hnodup
  obtain ⟨⟨hpre, hpost⟩, -⟩ := hnodup
  unfold armedReport
  rw [resumeOn_none hsuspended]
  show (u.sessions.map (·.id)).foldl (armedTurn l) u = _
  rw [hids, List.foldl_append, List.foldl_cons,
    armedTurns_elsewhere (v := u) fun j hj => hlane j fun h => hpre (h ▸ hj)]
  refine armedTurns_elsewhere fun j hj => ?_
  have hne : j ≠ id := fun h => hpost (h ▸ hj)
  rw [hkeeps j hne]
  exact hlane j hne

theorem armedTurn_outstanding (hx : u.session? id = some x) (hlane : x.frameLane = some l) (hstate : x.state = .playing)
    (hturn : x.turn = .outstanding) : armedTurn l u id = startTurn l id u := by
  simp only [armedTurn, hx, if_pos hlane, hturn, hstate]

theorem armedTurn_ended (hx : u.session? id = some x) (hlane : x.frameLane = some l) (hstate : x.state = .playing)
    (hturn : x.turn = .ended) :
    armedTurn l u id = startTurns (selectTurn id (putSession { x with turn := .none } u)) := by
  simp only [armedTurn, hx, if_pos hlane, hturn, hstate]

theorem session?_of_nodup (hnodup : (u.sessions.map (·.id)).Nodup) (hx : x ∈ u.sessions) : u.session? x.id = some x :=
  session?_of_mem (seats_ids u ▸ hnodup) hx

/-- The entry into ARMED starts the turn OUTSTANDING of the one session on the lane (R81). -/
theorem armedReport_starts (hnodup : (u.sessions.map (·.id)).Nodup) (hx : x ∈ u.sessions) (hstate : x.state = .playing)
    (hturn : x.turn = .outstanding) (hlane : x.frameLane = some l)
    (hothers : ∀ y ∈ u.sessions, y.id ≠ x.id → y.frameLane ≠ some l ∧ ∀ r, y.state ≠ .suspended r) :
    armedReport l u = startTurn l x.id u := by
  have hfound := session?_of_nodup hnodup hx
  have hturned := armedTurn_outstanding hfound hlane hstate hturn
  rw [← hturned]
  refine armedReport_one hnodup (List.mem_map_of_mem hx) (fun y hy r => ?_) (fun y hy hne => (hothers y hy hne).1) ?_
  · by_cases hne : y.id = x.id
    · have hsame : y = x := Option.some.inj ((session?_of_nodup hnodup hy).symm.trans (hne ▸ hfound))
      rw [hsame, hstate]
      simp
    · exact (hothers y hy hne).2 r
  · rw [hturned]
    exact startTurn_changesOnly l x.id u

/-! ## The cycle's end (R7) -/

/-- The station with the lane's cycle ended in ARMED, before the entry is reported: the pending record and the link are as a
completed request leaves them. -/
def State.cycleEnded (s : State) (l : LaneId) (c : Cycle) (pend : Option PendingReq) (k : Link) : State :=
  { s with
    link := k, decks := s.decks.set l { s.deck l with rack := c.kind.rack }
    seqs := s.seqs.set l { s.seq l with cycle := none, timer := none, state := .armed, pend := pend } }

theorem answerPending_eq {q : PendingReq} (h : (v.seq l).pend = some q) (r : Result) (d : ReplyData) :
    answerPending l r d v = { v with
      link := (answerPending l r d v).link, seqs := v.seqs.set l { v.seq l with pend := none } } := by
  simp only [answerPending, h]
  exact send_eq _ _ _ _

theorem answerPending_line (l : LaneId) (r : Result) (d : ReplyData) (v : State) :
    (answerPending l r d v).link.line = v.link.line := by
  unfold answerPending
  split
  · exact send_line _ _ _ _
  · rfl

/-- A cycle that ends in ARMED answers a request that waits for it, and the entry is reported (R7). -/
theorem cycleEnds_arms (hopen : (s.meter l).isOpen = true) (hmode : (s.seq l).mode ≠ .frameEnd)
    (hc : (s.seq l).cycle = some c) (hfree : (s.seq l).holds.appliesAt (.rack c.frameEnd) = false) :
    ∃ pend k, k.line = s.link.line ∧ ((s.seq l).pend = none → pend = none ∧ k = s.link) ∧
      cycleEnds l s = armedReport l (s.cycleEnded l c pend k) := by
  let v := s.setDeck l { s.deck l with rack := c.kind.rack }
  have hends (w : State) (pend : Option PendingReq) (k : Link)
      (hw : w = { v with link := k, seqs := s.seqs.set l { s.seq l with pend := pend } }) :
      (let w := w.setSeq l { w.seq l with cycle := none, timer := none }
       if (w.meter l).isOpen then
         rackTest l c.frameEnd (if (w.seq l).mode = .frameEnd ∧ c.frameEnd then
           setHolds l { (w.seq l).holds with frameEnd := true } w else w)
       else enterStandby l w) = armedReport l (s.cycleEnded l c pend k) := by
    have hseq : w.seq l = { s.seq l with pend := pend } := by rw [hw]; exact Pair.get_set_same _ _ _
    have hmeter : (w.meter l).isOpen = true := by rw [hw]; exact hopen
    have hmode' : ¬ ((w.seq l).mode = .frameEnd ∧ c.frameEnd = true) := fun h => hmode (by rw [← h.1, hseq])
    dsimp only
    rw [State.setSeq_meter, if_pos hmeter, State.setSeq_seq_same, if_neg hmode']
    unfold rackTest enterArmed
    rw [State.setSeq_seq_same, if_neg (by rw [hseq]; simpa using hfree), hseq, hw]
    refine congrArg (armedReport l) ?_
    show ({ s with link := k, decks := _, seqs := ((s.seqs.set l _).set l _).set l _ } : State) = _
    rw [Pair.set_set, Pair.set_set]
    rfl
  have hstays : v = { v with link := s.link, seqs := s.seqs.set l { s.seq l with pend := (s.seq l).pend } } := by
    show v = { v with seqs := s.seqs.set l (s.seqs.get l) }
    rw [Pair.set_get]
    rfl
  unfold cycleEnds
  rw [hc, Option.getD_some]
  dsimp only
  split
  · rename_i q hq
    have hpend : (s.seq l).pend = some q := hq
    split
    · exact ⟨none, (answerPending l .done q.req.doneData v).link, answerPending_line _ _ _ _,
        fun hn => absurd (hpend.symm.trans hn) (by simp), hends _ _ _ (answerPending_eq hq _ _)⟩
    · exact ⟨_, _, rfl, fun hn => absurd (hpend.symm.trans hn) (by simp), hends _ _ _ hstays⟩
  · rename_i hq
    exact ⟨_, _, rfl, fun hn => ⟨hn, rfl⟩, hends _ _ _ hstays⟩

/-! ## What a transmission that begins leaves (R174) -/

theorem sameLine_beginTx (h : u.link.line = s.link.line) : s.sameLine (beginTx u) := by
  obtain ⟨-, -, hack, hresponse, hgroup, hon⟩ := beginTx_quiet u
  have hfields : u.link.ack = s.link.ack ∧ u.link.response = s.link.response ∧ u.link.group = s.link.group ∧
      u.link.groupOn = s.link.groupOn := by
    have hline (k : Link) : k.ack = k.line.ack ∧ k.response = k.line.response ∧ k.group = k.line.group ∧
        k.groupOn = k.line.groupOn := ⟨rfl, rfl, rfl, rfl⟩
    obtain ⟨h1, h2, h3, h4⟩ := hline u.link
    rw [h1, h2, h3, h4, h]
    exact ⟨rfl, rfl, rfl, rfl⟩
  obtain ⟨hack', hresponse', hgroup', hon'⟩ := hfields
  exact ⟨hack.trans hack', hresponse.trans hresponse', hgroup.trans hgroup', hon.trans hon'⟩

theorem State.queued.beginTx {d : Nat} {q : Payload} (h : u.queued d q) : (Machine.beginTx u).queued d q := by
  obtain ⟨f, hf, hdest, hpay⟩ := h
  obtain ⟨hsame, -⟩ := beginTx_quiet u
  have hmem : f.still ∈ (Machine.beginTx u).link.queue.map QueuedFrame.still := by
    rw [show (Machine.beginTx u).link.queue.map QueuedFrame.still = _ from hsame]
    exact List.mem_map_of_mem hf
  obtain ⟨f', hf', hstill⟩ := List.mem_map.1 hmem
  exact ⟨f', hf', (congrArg QueuedFrame.dest hstill).trans hdest, (congrArg QueuedFrame.payload hstill).trans hpay⟩

/-! ## The turn start, before and after what does not touch it -/

/-- A turn start looks at its lane's holds, the meters, the clock, the tariffs, the journal and the table. -/
theorem State.turnStarts.of_before (h : u.turnStarts t l x i b g p) (hm : u.meters = v.meters) (hs : u.store = v.store)
    (hx : u.sessions = v.sessions) (hc : u.ctl = v.ctl) (ht : u.tariff = v.tariff)
    (hh : (u.seq l).holds = (v.seq l).holds) : v.turnStarts t l x i b g p := by
  have hmeter : u.meter l = v.meter l := by unfold State.meter; rw [hm]
  have hband : u.gameBand = v.gameBand := by unfold State.gameBand; rw [hc, ht]
  unfold State.turnStarts at h ⊢
  rw [hmeter, hband, hm, hs, hx, hc, hh] at h
  exact h

theorem State.turnStarts.beginTx (h : u.turnStarts t l x i b g p) : u.turnStarts (Machine.beginTx t) l x i b g p := by
  have hq {d : Nat} {q : Payload} (h : t.queued d q) : ({ t with
      spacing := (Machine.beginTx t).spacing, link := (Machine.beginTx t).link } : State).queued d q := h.beginTx
  rw [beginTx_eq]
  obtain ⟨hjournal, hcredit, hadmitted⟩ := h
  refine ⟨fun hj => ?_, fun hc => ?_, fun hj hc => ?_⟩
  · obtain ⟨hheld, hstate, hholds, hshown⟩ := hjournal hj
    exact ⟨hheld, hstate, hholds, hq hshown⟩
  · obtain ⟨hheld, hstate, hholds, hshown⟩ := hcredit hc
    exact ⟨hheld, hstate, hholds, hq hshown⟩
  · obtain ⟨hstate, hfoul, hholds, hshown, hpaid, hfree⟩ := hadmitted hj hc
    refine ⟨hstate, hfoul, hholds, hq hshown, fun howes => ?_, hfree⟩
    obtain ⟨hmeter, hsessions, hstore, hlow⟩ := hpaid howes
    exact ⟨hmeter, hsessions, hstore, fun hprepaid hbefore hafter => hq (hlow hprepaid hbefore hafter)⟩

/-! ## SET_DONE -/

/-- A SET_DONE of a lane in SETTING ends its cycle. -/
theorem exec_setDone (hrun : s.running = true) (hset : (s.seq l).state = .setting) :
    exec (.setDone l) s = .next (Machine.beginTx (cycleEnds l s)) :=
  (live_running hrun _).trans (by rw [if_pos hset])

/-- What a SET_DONE leaves whose entry into ARMED writes its lane, its meter, the table and the store. -/
theorem setDone_frame {pend : Option PendingReq} {k : Link} (h : t = { s.cycleEnded l c pend k with
      link := t.link, sessions := t.sessions, store := t.store, seqs := (s.cycleEnded l c pend k).seqs.set l (t.seq l)
      meters := s.meters.set l (t.meter l) }) :
    let t' := Machine.beginTx t
    t' = { s with
      seqs := s.seqs.set l (t'.seq l), decks := s.decks.set l (t'.deck l), meters := s.meters.set l (t'.meter l)
      sessions := t'.sessions, store := t'.store, link := t'.link, spacing := t'.spacing } := by
  have hdeck : t.deck l = { s.deck l with rack := c.kind.rack } := by
    rw [h]
    exact Pair.get_set_same _ _ _
  have hseqs : (s.cycleEnded l c pend k).seqs.set l (t.seq l) = s.seqs.set l (t.seq l) := Pair.set_set _ _ _ _
  rw [hseqs] at h
  intro t'
  have hspacing := congrArg (fun w : State => { w with spacing := t'.spacing, link := t'.link }) h
  dsimp only [State.cycleEnded] at hspacing
  rw [← hdeck] at hspacing
  have hfields : t'.seq l = t.seq l ∧ t'.deck l = t.deck l ∧ t'.meter l = t.meter l ∧ t'.sessions = t.sessions ∧
      t'.store = t.store := by
    simp only [t', State.seq, State.deck, State.meter, beginTx_frame, and_self]
  obtain ⟨h1, h2, h3, h4, h5⟩ := hfields
  rw [h1, h2, h3, h4, h5]
  exact (beginTx_eq t).trans hspacing

/-- The price of a game is that of the band in force (R108). -/
theorem gameBand_lookup {k : StationTime} {r : Nat × Band} (hk : s.ctl.clock = some k)
    (hr : s.tariff.live.lookup k.second = some r) : s.gameBand = (r.1, r.2.price) := by
  simp [State.gameBand, hk, hr]

end

/-! ## The statement -/

/-- Settles O20. The entry into ARMED is reported, and the one session on the lane starts its turn. -/
theorem turnStartAdmission : Obligations.TurnStartAdmission := by
  intro l s hrun hset hopen hpend hmode hsends c hc hfree x hs hstate hturn p hp hl i hi b hb g hg
  subst hl
  obtain ⟨pend, k, hline, hnone, hends⟩ := cycleEnds_arms hopen hmode hc hfree
  obtain ⟨rfl, rfl⟩ := hnone hpend
  let v := s.cycleEnded p.lane c none s.link
  have hx : v.session? x.id = some x := session?_alone hs
  have hreport : armedReport p.lane v = startTurn p.lane x.id v :=
    armedReport_starts (u := v) (by simp [v, State.cycleEnded, hs]) (by simp [v, State.cycleEnded, hs]) hstate hturn
      (by simp [Session.frameLane, hp]) fun y hy hne => absurd (by simpa [v, State.cycleEnded, hs] using hy) fun h => hne (by rw [h])
  have harmed : (v.seq p.lane).state = .armed := by
    show ((s.seqs.set p.lane _).get p.lane).state = _
    rw [Pair.get_set_same]
  obtain ⟨hstarts, ⟨heq, -⟩, -⟩ := startTurn_turnStarts (u := v) hx hp hi hb hg hstate hturn harmed (hsends.of_same rfl rfl)
  refine ⟨_, exec_setDone hrun hset, ?_⟩
  rw [hends, hreport]
  refine ⟨sameStarts_beginTx (by simp [v, State.cycleEnded]), sameLine_beginTx (startTurn_line _ _ _), ?_, ?_,
    fun k r => gameBand_lookup⟩
  · exact setDone_frame heq
  · refine State.turnStarts.beginTx (hstarts.of_before rfl rfl rfl rfl rfl ?_)
    show ((s.seqs.set p.lane _).get p.lane).holds = _
    rw [Pair.get_set_same]

end Sys2Proof.Machine
end

section
/-! SUPPORT. The turn selection that passes bowlers over (R57, R76, R77), and games archived at their end (R80, R135). -/

namespace Sys2Proof.Machine

/-! ## The first bowler who is not absent (R76) -/

section
variable {bs cs : List Bowler} {b : Bowler} {f k j lo hi : Nat}

theorem firstPresent_eq (hb : bs[j]? = some b) (hpresent : b.absent = false) (hk : k ≤ j)
    (hbefore : ∀ i a, k ≤ i → i < j → bs[i]? = some a → a.absent = true) : firstPresent k bs = j := by
  obtain ⟨hj, hget⟩ := List.getElem?_eq_some_iff.1 hb
  have hlen : j - k < (bs.drop k).length := by rw [List.length_drop]; omega
  have hidx : (bs.drop k).findIdx (fun b => !b.absent) = j - k := by
    rw [List.findIdx_eq hlen]
    refine ⟨?_, fun i hi => ?_⟩
    · simp only [List.getElem_drop, show k + (j - k) = j by omega, hget, hpresent, Bool.not_false]
    · have hi' : k + i < bs.length := by omega
      have := hbefore (k + i) bs[k + i] (by omega) (by omega) (List.getElem?_eq_getElem hi')
      simp [List.getElem_drop, this]
  unfold firstPresent
  rw [hidx]
  omega

theorem firstPresent_absent (h : ∀ i a, k ≤ i → bs[i]? = some a → a.absent = true) : ¬ firstPresent k bs < bs.length := by
  intro hlt
  have hidx : (bs.drop k).findIdx (fun b => !b.absent) < (bs.drop k).length := by
    unfold firstPresent at hlt
    rw [List.length_drop]
    omega
  have hpresent := List.findIdx_getElem (w := hidx)
  rw [List.getElem_drop] at hpresent
  have habsent := h _ _ (Nat.le_add_right k _) (List.getElem?_eq_getElem hlt)
  rw [Bool.not_eq_true'] at hpresent
  exact absurd (hpresent.symm.trans habsent) (by decide)

/-- Whom a selection finds depends on the absent flags only. -/
theorem firstPresent_congr (h : bs.map (·.absent) = cs.map (·.absent)) (k : Nat) : firstPresent k bs = firstPresent k cs := by
  have hidx (xs : List Bowler) : firstPresent k xs = k + ((xs.map (·.absent)).drop k).findIdx (!·) := by
    rw [← List.map_drop, List.findIdx_map]
    rfl
  rw [hidx, hidx, h]

/-- Passing over writes games only. -/
theorem blanks_map {α : Type} (F : Bowler → α) {f : Nat}
    (hF : ∀ b : Bowler, F { b with game := b.game.map fun g => g.blank f } = F b) (lo hi : Nat) (bs : List Bowler) :
    (blanks f lo hi bs).map F = bs.map F := by
  refine List.ext_getElem? fun n => ?_
  rw [List.getElem?_map, blanks_getElem?, List.getElem?_map, Option.map_map]
  refine congrArg (Option.map · _) (funext fun b => ?_)
  show F (if lo ≤ n ∧ n < hi then _ else b) = F b
  split
  · exact hF b
  · rfl

theorem blanks_absent (f lo hi : Nat) (bs : List Bowler) : (blanks f lo hi bs).map (·.absent) = bs.map (·.absent) :=
  blanks_map (·.absent) (fun _ => rfl) lo hi bs

theorem blanks_length (f lo hi : Nat) (bs : List Bowler) : (blanks f lo hi bs).length = bs.length := List.length_mapIdx

theorem mem_blanks (h : b ∈ blanks f lo hi bs) : ∃ c ∈ bs, b = c ∨ b = { c with game := c.game.map fun g => g.blank f } := by
  obtain ⟨n, hn⟩ := List.mem_iff_getElem?.1 h
  rw [blanks_getElem?] at hn
  obtain ⟨c, hc, rfl⟩ := Option.map_eq_some_iff.1 hn
  refine ⟨c, List.mem_of_getElem? hc, ?_⟩
  split
  · exact .inr rfl
  · exact .inl rfl

theorem blanks_games (h : ∀ b ∈ bs, b.game.isSome = true) : ∀ b ∈ blanks f lo hi bs, b.game.isSome = true := by
  intro b hb
  obtain ⟨c, hc, rfl | rfl⟩ := mem_blanks hb
  · exact h b hc
  · simpa using h c hc

@[simp] theorem Game.blank_number (g : Game) (f : Nat) : (g.blank f).number = g.number := by
  unfold Game.blank
  split
  · rfl
  · dsimp only
    split <;> rfl

/-- Passing over leaves the numbers of the games. -/
theorem blanks_numbers {α : Type} (F : Nat → α) (f lo hi : Nat) (bs : List Bowler) :
    ((blanks f lo hi bs).filterMap (·.game)).map (fun g => F g.number) = (bs.filterMap (·.game)).map fun g => F g.number := by
  have hflat (cs : List Bowler) : (cs.filterMap (·.game)).map (fun g => F g.number) =
      (cs.map fun b => b.game.map fun g => F g.number).filterMap id := by
    rw [List.map_filterMap, List.filterMap_map]
    rfl
  rw [hflat, hflat, blanks_map _ fun b => by simp [Option.map_map, Function.comp_def]]

/-- Everyone from place k on is passed over. -/
theorem take_append_passed (f k : Nat) (bs : List Bowler) :
    bs.take k ++ blanks f 0 (bs.drop k).length (bs.drop k) = blanks f k bs.length bs := by
  rw [take_append_blanks, List.length_drop]
  refine List.ext_getElem? fun n => ?_
  rw [blanks_getElem?, blanks_getElem?]
  by_cases hn : n < bs.length
  · have hsame : (k ≤ n ∧ n < k + (bs.length - k)) ↔ (k ≤ n ∧ n < bs.length) := by omega
    simp only [hsame]
  · rw [List.getElem?_eq_none (by omega)]
    rfl

end

/-! ## A selection that finds no bowler (R77) -/

/-- The record of a session that has finished the frame of p (R57, R76). -/
def Session.frameDone (p : GamePos) (x : Session) : Session :=
  { x with bowlers := blanks p.frame (x.current.getD 0) x.bowlers.length x.bowlers, turn := .none }

section
variable {x : Session} {p : GamePos}

/-- Every bowler left is passed over; a session that is not crossed has a bowler who is present, or has begun the frame. -/
theorem Session.choose_finished (hp : x.pos = some p) (h : ¬ firstPresent (x.current.getD 0) x.bowlers < x.bowlers.length)
    (hidle : x.cross = true ∨ x.current ≠ none ∨ x.allAbsent = false) : x.choose = (x.frameDone p, .finished) := by
  have hno : ¬ ((!x.cross && x.current.isNone && x.allAbsent) = true) := by
    intro hall
    simp only [Bool.and_eq_true, Bool.not_eq_true', Option.isNone_iff_eq_none] at hall
    obtain ⟨⟨hcross, hcurrent⟩, habsent⟩ := hall
    rcases hidle with hc | hc | hc
    · simp [hcross] at hc
    · exact hc hcurrent
    · simp [habsent] at hc
  have hall : (x.bowlers.drop (x.current.getD 0)).findIdx (fun b => !b.absent) = (x.bowlers.drop (x.current.getD 0)).length := by
    refine Nat.le_antisymm List.findIdx_le_length ?_
    unfold firstPresent at h
    rw [List.length_drop]
    omega
  have hframe : (x.pos.map (·.frame)).getD 1 = p.frame := by rw [hp]; rfl
  unfold Session.choose
  rw [if_neg hno]
  simp only [passOver_eq, hall, Nat.lt_irrefl, if_false, take_append_passed, hframe]
  rfl

theorem Session.choose_idles (hcross : x.cross = false) (hcurrent : x.current = none) (habsent : x.allAbsent = true) :
    x.choose = ({ x with turn := .none }, .idle) := by
  unfold Session.choose
  rw [if_pos (by simp [hcross, hcurrent, habsent])]

end

/-! ## Games archived at their end (R80, R135) -/

theorem archiveAll_eq (id : Nat) (bs : List Bowler) (s : State) :
    archiveAll id bs s = { s with store := (archiveAll id bs s).store } := by
  unfold archiveAll
  induction bs generalizing s with
  | nil => rfl
  | cons b bs ih =>
    simp only [List.foldl_cons]
    split
    · refine (ih _).trans ?_
      rfl
    · exact ih s

/-- What a game is archived under: its session, whether it is COMPLETE, its number. -/
def ArchivedGame.brief (e : ArchivedGame) : Nat × Bool × Nat := (e.session, e.complete, e.number)

theorem archiveGame_archive {s : State} (h : s.store.archive.length < s.store.archiveCap) (id : Nat) (l : BallLane) (g : Game)
    (c : Bool) : ∃ e : ArchivedGame, (archiveGame id l g c s).store.archive = s.store.archive ++ [e] ∧
      e.brief = (id, c, g.number) ∧
      (archiveGame id l g c s).store.archiveCap = s.store.archiveCap := by
  refine ⟨?entry, ?archive, ?brief, rfl⟩
  case archive =>
    unfold archiveGame
    dsimp only
    rw [if_neg (by omega)]
    rfl
  case brief => rfl

/-- The games of a session that the archive has room for. -/
theorem archiveAll_archive (id : Nat) {bs : List Bowler} {s : State}
    (h : s.store.archive.length + bs.length ≤ s.store.archiveCap) :
    ∃ new : List ArchivedGame, (archiveAll id bs s).store.archive = s.store.archive ++ new ∧
      new.map ArchivedGame.brief = (bs.filterMap (·.game)).map (fun g => (id, true, g.number)) ∧
      (archiveAll id bs s).store.archiveCap = s.store.archiveCap := by
  unfold archiveAll
  induction bs generalizing s with
  | nil => exact ⟨[], (List.append_nil _).symm, rfl, rfl⟩
  | cons b bs ih =>
    rw [List.length_cons] at h
    simp only [List.foldl_cons]
    cases hg : b.game with
    | none =>
      obtain ⟨new, harchive, hbriefs, hcap⟩ := ih (s := s) (by omega)
      exact ⟨new, harchive, by simpa [hg] using hbriefs, hcap⟩
    | some g =>
      obtain ⟨e, harchive, hbrief, hcap⟩ := archiveGame_archive (s := s) (by omega) id b.first g true
      obtain ⟨new, harchive', hbriefs, hcap'⟩ := ih (s := archiveGame id b.first g true s) (by
        rw [harchive, hcap, List.length_append, List.length_singleton]; omega)
      refine ⟨e :: new, ?_, ?_, hcap'.trans hcap⟩
      · rw [harchive', harchive, List.append_assoc]
        rfl
      · simp [hg, hbrief, hbriefs]

end Sys2Proof.Machine
end

section
/-! SUPPORT. A turn that ended on a lane that does not charge (R76, R77, R80, R81), and the statement about it. -/

namespace Sys2Proof.Machine

section
variable {s t u v w : State} {l : LaneId} {x y z : Session} {p q : GamePos}

/-! ## The one session of the table -/

/-- The entry into ARMED reported to the one session of the table. -/
theorem armedReport_alone (hs : u.sessions = [x]) (h : ∀ r, x.state ≠ .suspended r) : armedReport l u = armedTurn l u x.id := by
  unfold armedReport
  rw [resumeOn_none (by simpa [hs] using h)]
  show (u.sessions.map (·.id)).foldl (armedTurn l) u = _
  rw [hs]
  rfl

theorem putSession_alone (hs : s.sessions = [x]) (hid : y.id = x.id) : putSession y s = { s with sessions := [y] } := by
  show ({ s with sessions := s.sessions.map fun z => if z.id = y.id then y else z } : State) = _
  rw [hs, List.map_singleton, if_pos hid.symm]

/-- The station goes on with the sessions xs: the table, the lane, its meter and the queue are written, and the lane is
ARMED. -/
def State.goesOn (w t : State) (l : LaneId) (xs : List Session) : Prop :=
  t = { w with link := t.link, sessions := xs, seqs := w.seqs.set l (t.seq l), meters := w.meters.set l (t.meter l) } ∧
    (t.seq l).state = .armed ∧ t.link.line = w.link.line

theorem State.goesOn.of_sessions {xs ys : List Session} (h : State.goesOn { w with sessions := ys } t l xs) :
    w.goesOn t l xs := h

/-- A table is written, and no turn starts. -/
theorem State.goesOn.of_table {xs : List Session} (h : (w.seq l).state = .armed) : w.goesOn { w with sessions := xs } l xs := by
  refine ⟨?_, h, rfl⟩
  show _ = ({ w with sessions := xs, seqs := w.seqs.set l (w.seqs.get l), meters := w.meters.set l (w.meters.get l) } : State)
  rw [Pair.set_get, Pair.set_get]

theorem startTurns_goesOn (hs : w.sessions = [y]) (ha : y.awaits q) (harmed : (w.seq q.lane).state = .armed)
    (hm : (w.meter q.lane).mode = .none) : w.goesOn (startTurns (w, [y.id])) q.lane [{ y with turn := .active }] := by
  obtain ⟨hpos, hstate, hturn, i, b, g, hi, hb, hg⟩ := ha
  refine ⟨?_, ?_, startTurns_line _⟩
  all_goals rw [startTurns_free (session?_alone hs) hpos hi hb hg hstate hturn hm, if_pos harmed, display_eq]
  · have hsessions : (w.turnMade q.lane y).sessions = [{ y with turn := .active }] := by
      show w.sessions.map _ = _
      rw [hs, List.map_singleton, if_pos rfl]
    rw [← hsessions]
    show ({ w with link := _, seqs := w.seqs.set q.lane _, meters := w.meters.set q.lane _, sessions := _ } : State) =
      { w with
        link := _, sessions := _, seqs := w.seqs.set q.lane ((w.seqs.set q.lane _).get q.lane)
        meters := w.meters.set q.lane ((w.meters.set q.lane _).get q.lane) }
    rw [Pair.get_set_same, Pair.get_set_same]
  · show ((w.seqs.set q.lane _).get q.lane).state = _
    rw [Pair.get_set_same]
    exact harmed

/-- A session that is not crossed enters a frame on an ARMED lane (R76, R77, R81). -/
theorem selectFresh_goesOn (hs : w.sessions = [x]) (hid : z.id = x.id) (hcross : z.cross = false)
    (hgames : ∀ b ∈ z.bowlers, b.game.isSome = true) (harmed : (w.seq q.lane).state = .armed)
    (hm : (w.meter q.lane).mode = .none) :
    w.goesOn (startTurns (selectFresh z.id (putSession (z.atFrame q) w))) q.lane [z.entered (fun _ => true) q] := by
  have hfound : w.session? z.id = some x := hid ▸ session?_alone hs
  obtain ⟨y, ids, hselect, hyid, ⟨rfl, hidle⟩ | ⟨rfl, hawaits, hturn⟩⟩ := selectFresh_entered (p := q) hfound hcross hgames
  all_goals rw [hselect, putSession_alone hs (hyid.trans hid)]
  · rw [hidle]
    exact .of_table harmed
  · rw [hturn]
    exact State.goesOn.of_sessions (ys := [y]) (hyid ▸ startTurns_goesOn (w := { w with sessions := [y] }) rfl hawaits harmed hm)

/-! ## The selection after a turn that ended (R76, R77, R80) -/

/-- The next bowler of the frame. -/
theorem selectTurn_next (hs : w.sessions = [x]) (hp : x.pos = some p) (hstate : x.state = .playing)
    (hgames : ∀ b ∈ x.bowlers, b.game.isSome = true) (harmed : (w.seq p.lane).state = .armed)
    (hm : (w.meter p.lane).mode = .none) (h : firstPresent (x.current.getD 0) x.bowlers < x.bowlers.length) :
    w.goesOn (startTurns (selectTurn x.id w)) p.lane [{ x.selected p with turn := .active }] := by
  rw [selectTurn_chosen (session?_alone hs) (Session.choose_chosen hp h), putSession_alone (y := x.selected p) hs rfl]
  obtain ⟨b, g, hb, hg⟩ := Session.selected_bowler (p := p) h hgames
  exact State.goesOn.of_sessions (ys := [x.selected p])
    (startTurns_goesOn (w := { w with sessions := [x.selected p] }) rfl ⟨hp, hstate, rfl, _, b, g, rfl, hb, hg⟩ harmed hm)

/-- Every bowler is absent, and the frame is not begun: the session stays without a turn. -/
theorem selectTurn_idle (hs : w.sessions = [x]) (harmed : (w.seq l).state = .armed) (hcross : x.cross = false)
    (hcurrent : x.current = none) (habsent : x.allAbsent = true) :
    w.goesOn (startTurns (selectTurn x.id w)) l [{ x with turn := .none }] := by
  have hselect : selectTurn x.id w = (putSession { x with turn := .none } w, []) := by
    simp only [selectTurn, session?_alone hs, Session.choose_idles hcross hcurrent habsent]
  rw [hselect, putSession_alone (y := { x with turn := .none }) hs rfl]
  exact .of_table harmed

section
variable (hs : w.sessions = [x]) (hp : x.pos = some p) (hcross : x.cross = false)
  (hgames : ∀ b ∈ x.bowlers, b.game.isSome = true)
  (h : ¬ firstPresent (x.current.getD 0) x.bowlers < x.bowlers.length) (hbegun : x.current ≠ none ∨ x.allAbsent = false)
include hs hp hcross h hbegun

theorem selectTurn_finished : selectTurn x.id w = nextFrame x.id p.frame (putSession (x.frameDone p) w) := by
  have hchoose := Session.choose_finished hp h (.inr hbegun)
  have hframe : ((x.frameDone p).pos.map (·.frame)).getD 1 = p.frame := by
    show (x.pos.map (·.frame)).getD 1 = _
    rw [hp]
    rfl
  have hno : (x.frameDone p).cross = false := hcross
  simp only [selectTurn, session?_alone hs, hchoose, hframe, hno, Bool.false_eq_true, if_false]

include hgames

/-- The next frame. -/
theorem selectTurn_nextFrame (harmed : (w.seq x.home).state = .armed) (hm : (w.meter x.home).mode = .none)
    (hframe : p.frame ≠ 10) :
    w.goesOn (startTurns (selectTurn x.id w)) x.home
      [(x.frameDone p).entered (fun _ => true) { p with frame := p.frame + 1, lane := x.home }] := by
  let y := x.frameDone p
  let q : GamePos := { p with frame := p.frame + 1, lane := x.home }
  have hput : (putSession y w).session? x.id = some y := session?_putSession (y := y) (x := x) (session?_alone hs)
  have henter : y.enterFrame (p.frame + 1) = y.atFrame q := by
    have hlane : y.laneOfFrame (p.frame + 1) = x.home := by
      unfold Session.laneOfFrame
      rw [show y.cross = false from hcross]
      rfl
    unfold Session.enterFrame
    rw [hlane, show y.pos = some p from hp]
    rfl
  have hnext : nextFrame x.id p.frame (putSession y w) = selectFresh y.id (putSession (y.atFrame q) w) := by
    simp only [nextFrame, if_neg hframe, hput, henter]
    rw [putSession_twice (x := y) (y := y.atFrame q) rfl]
    rfl
  rw [selectTurn_finished hs hp hcross h hbegun, hnext]
  exact selectFresh_goesOn (z := y) (q := q) hs rfl hcross (blanks_games hgames) harmed hm

omit hgames in
/-- The game ends: its games are archived, and the session leaves at its limit or starts its next game (R80). -/
theorem selectTurn_gameEnd (harmed : (w.seq x.home).state = .armed)
    (hm : (w.meter x.home).mode = .none) (hframe : p.frame = 10) :
    let a : State := { w with store := (archiveAll x.id (x.frameDone p).bowlers (putSession (x.frameDone p) w)).store }
    a.goesOn (startTurns (selectTurn x.id w)) x.home
      (if x.atLimit p.number then [] else [((x.frameDone p).countGames).begun (fun _ => true) (p.number + 1)]) := by
  intro a
  let y := x.frameDone p
  let q : GamePos := { number := p.number + 1, frame := 1, lane := x.home }
  have hput : (putSession y w).session? x.id = some y := session?_putSession (y := y) (x := x) (session?_alone hs)
  have hnumber : (y.pos.map (·.number)).getD 1 = p.number := by
    show (x.pos.map (·.number)).getD 1 = _
    rw [hp]
    rfl
  have harchived : archiveAll x.id y.bowlers (putSession y w) = { a with sessions := [y] } :=
    (archiveAll_eq _ _ _).trans (congrArg (fun u : State => { u with store := a.store }) (putSession_alone (y := y) hs rfl))
  have hgameEnd : gameEnd x.id (putSession y w) =
      if x.atLimit p.number then { a with sessions := [] }
      else putSession (y.countGames.startGame (p.number + 1)) { a with sessions := [y] } := by
    have hlimit : y.atLimit p.number = x.atLimit p.number := rfl
    simp only [gameEnd, hput, hnumber, harchived, hlimit]
    split
    · show ({ a with sessions := [y].filter (·.id != x.id) } : State) = _
      rw [List.filter_singleton, show (y.id != x.id) = false from bne_self_eq_false _]
      rfl
    · rfl
  have hnext : nextFrame x.id p.frame (putSession y w) = selectFresh x.id (gameEnd x.id (putSession y w)) := if_pos hframe
  rw [selectTurn_finished hs hp hcross h hbegun, hnext, hgameEnd]
  split
  · have hnone : selectFresh x.id { a with sessions := [] } = ({ a with sessions := [] }, []) := rfl
    rw [hnone]
    exact .of_table harmed
  · have hstart : y.countGames.startGame (p.number + 1) = ((y.countGames).withGames (p.number + 1)).atFrame q := rfl
    rw [hstart]
    refine State.goesOn.of_sessions (ys := [y]) (selectFresh_goesOn (z := (y.countGames).withGames (p.number + 1)) (q := q)
      (w := { a with sessions := [y] }) rfl rfl hcross (fun b hb => ?_) harmed hm)
    obtain ⟨c, -, rfl⟩ := List.mem_map.1 hb
    rfl

end

/-- A session enters a frame on an ARMED lane, with a bowler who is present. -/
theorem Session.entered_at {j : Nat} (hj : firstPresent 0 z.bowlers = j) (hlt : j < z.bowlers.length) :
    z.entered (fun _ => true) q =
      { z with
        state := .playing, pos := some q, turn := .active, current := some (j + 1)
        bowlers := blanks q.frame 0 j z.bowlers } := by
  unfold Session.entered
  rw [hj]
  dsimp only
  rw [if_pos hlt, if_pos rfl]

theorem Session.atLimit_iff (x : Session) (n : Nat) : x.atLimit n = true ↔ (x.limit ≠ 0 ∧ x.limit ≤ n) ∨ 99 ≤ n := by
  simp [Session.atLimit]

/-- The bowlers of the next game, whoever was passed over in the last frame (R66, R80). -/
theorem nextGame_bowlers (x : Session) (p : GamePos) (n : Nat) :
    ((x.frameDone p).countGames.withGames n).bowlers = x.bowlers.map fun b =>
      { b with
        completed := min 99 (b.completed + 1), first := ballLane x.home, game := some (Game.fresh b.name b.handicap n) } := by
  show ((blanks _ _ _ x.bowlers).map _).map _ = _
  rw [List.map_map]
  exact blanks_map _ (fun _ => rfl) _ _ _

/-! ## The event -/

/-- A SET_DONE that brings the lane of the one session to ARMED after a turn there ended (R7, R76). -/
theorem setDone_goesOn {c : Cycle} (hrun : s.running = true) (hset : (s.seq l).state = .setting)
    (hopen : (s.meter l).isOpen = true) (hpend : (s.seq l).pend = none) (hmode : (s.seq l).mode ≠ .frameEnd)
    (hc : (s.seq l).cycle = some c) (hfree : (s.seq l).holds.appliesAt (.rack c.frameEnd) = false) (hs : s.sessions = [x])
    (hstate : x.state = .playing) (hturn : x.turn = .ended) (hp : x.pos = some p) (hl : p.lane = l) :
    let v := s.cycleEnded l c none s.link
    let w : State := { v with sessions := [{ x with turn := .none }] }
    exec (.setDone l) s = .next (beginTx (startTurns (selectTurn x.id w))) ∧ (v.seq l).state = .armed := by
  intro v w
  obtain ⟨pend, k, -, hnone, hends⟩ := cycleEnds_arms hopen hmode hc hfree
  obtain ⟨rfl, rfl⟩ := hnone hpend
  have hv : v.sessions = [x] := hs
  have hreport : cycleEnds l s = startTurns (selectTurn x.id w) := by
    rw [hends, armedReport_alone hv (by simp [hstate]),
      armedTurn_ended (session?_alone hv) (by simp [Session.frameLane, hp, hl]) hstate hturn,
      putSession_alone (y := { x with turn := .none }) hv rfl]
  refine ⟨(exec_setDone hrun hset).trans (by rw [hreport]), ?_⟩
  show ((s.seqs.set l _).get l).state = _
  rw [Pair.get_set_same]

/-- What a station that goes on after a SET_DONE is. -/
theorem State.goesOn.setDone {c : Cycle} {st : Store} {xs : List Session}
    (h : State.goesOn { s.cycleEnded l c none s.link with store := st } t l xs) :
    let t' := beginTx t
    s.sameStarts t' ∧ s.sameLine t' ∧
      t' = { s with
        seqs := s.seqs.set l (t'.seq l), decks := s.decks.set l (t'.deck l), meters := s.meters.set l (t'.meter l)
        sessions := t'.sessions, store := t'.store, link := t'.link, spacing := t'.spacing } ∧
      (t'.seq l).state = .armed ∧ t'.store = st ∧ t'.sessions = xs := by
  obtain ⟨heq, harmed, hline⟩ := h
  have hstore : t.store = st := by rw [heq]
  have hsessions : t.sessions = xs := by rw [heq]
  have hspacing : t.spacing = s.spacing := by rw [heq]; rfl
  rw [← hstore, ← hsessions] at heq
  refine ⟨sameStarts_beginTx hspacing, sameLine_beginTx hline, setDone_frame (k := s.link) heq, ?_, ?_, ?_⟩
  · rwa [show (beginTx t).seq l = t.seq l by simp only [State.seq, beginTx_frame]]
  · rw [← hstore]
    simp
  · rw [← hsessions]
    simp

end

/-! ## The statement -/

/-- Settles O21. The selection finds the next bowler of the frame, or the session enters its next frame or game, or leaves. -/
theorem turnsGoOn : Obligations.TurnsGoOn := by
  intro l s hrun hset hopen hm hpend hmode hsends c hc hfree x hs hstate hturn hcross hhome p hp hl hgames
  subst hhome
  obtain ⟨hexec, harmed⟩ := setDone_goesOn hrun hset hopen hpend hmode hc hfree hs hstate hturn hp hl
  let v := s.cycleEnded x.home c none s.link
  let x' : Session := { x with turn := .none }
  let w : State := { v with sessions := [x'] }
  have hnext (h : firstPresent (x.current.getD 0) x.bowlers < x.bowlers.length) :
      v.goesOn (startTurns (selectTurn x.id w)) x.home [{ x'.selected p with turn := .active }] :=
    hl ▸ selectTurn_next (w := w) (x := x') rfl hp hstate hgames (hl ▸ harmed) (hl ▸ hm) h
  have hframe (h : ¬ firstPresent (x.current.getD 0) x.bowlers < x.bowlers.length)
      (hbegun : x.current ≠ none ∨ x.allAbsent = false) (h10 : p.frame ≠ 10) :
      v.goesOn (startTurns (selectTurn x.id w)) x.home
        [(x'.frameDone p).entered (fun _ => true) { p with frame := p.frame + 1, lane := x.home }] :=
    selectTurn_nextFrame (w := w) (x := x') rfl hp hcross hgames h hbegun harmed hm h10
  have hgame (h : ¬ firstPresent (x.current.getD 0) x.bowlers < x.bowlers.length)
      (hbegun : x.current ≠ none ∨ x.allAbsent = false) (h10 : p.frame = 10) :
      State.goesOn { v with store := (archiveAll x.id (x'.frameDone p).bowlers (putSession (x'.frameDone p) w)).store }
        (startTurns (selectTurn x.id w)) x.home
        (if x.atLimit p.number then [] else [((x'.frameDone p).countGames).begun (fun _ => true) (p.number + 1)]) :=
    selectTurn_gameEnd (w := w) (x := x') rfl hp hcross h hbegun harmed hm h10
  have hsome : ∃ st xs, State.goesOn { v with store := st } (startTurns (selectTurn x.id w)) x.home xs := by
    by_cases h : firstPresent (x.current.getD 0) x.bowlers < x.bowlers.length
    · exact ⟨_, _, hnext h⟩
    by_cases hbegun : x.current ≠ none ∨ x.allAbsent = false
    · by_cases h10 : p.frame = 10
      · exact ⟨_, _, hgame h hbegun h10⟩
      · exact ⟨_, _, hframe h hbegun h10⟩
    · simp only [not_or, not_not, Bool.not_eq_false] at hbegun
      exact ⟨_, _, selectTurn_idle (w := w) (x := x') rfl harmed hcross hbegun.1 hbegun.2⟩
  obtain ⟨_, _, hany⟩ := hsome
  obtain ⟨hstarts, hline, heq, harmed', -⟩ := hany.setDone
  refine ⟨_, hexec, hstarts, hline, heq, fun j b hb hpresent hk hbefore => ?_, fun j b hb hpresent hk hbefore hafter => ?_⟩
  all_goals have hlt := (List.getElem?_eq_some_iff.1 hb).1
  · have hj := firstPresent_eq hb hpresent hk hbefore
    obtain ⟨-, -, -, -, hstore, hsessions⟩ := State.goesOn.setDone (hnext (hj ▸ hlt))
    refine ⟨harmed', hstore, hsessions.trans ?_⟩
    show [({ x with bowlers := blanks _ _ (firstPresent _ _) _, current := some (firstPresent _ _ + 1), turn := _ } : Session)] = _
    rw [hj]
    rfl
  · have hlast := firstPresent_absent hafter
    have hbegun : x.current ≠ none ∨ x.allAbsent = false :=
      .inr (List.all_eq_false.2 ⟨b, List.mem_of_getElem? hb, by simp [hpresent]⟩)
    have hj := firstPresent_eq hb hpresent (Nat.zero_le j) fun i a _ => hbefore i a
    have hlane : ({ p with frame := p.frame + 1, lane := x.home } : GamePos) = { p with frame := p.frame + 1 } := by rw [← hl]
    refine ⟨harmed', fun h10 => ?_, fun h10 => ?_⟩
    · obtain ⟨-, -, -, -, hstore, hsessions⟩ := State.goesOn.setDone (hframe hlast hbegun (by omega))
      refine ⟨hstore, hsessions.trans ?_⟩
      rw [Session.entered_at ((firstPresent_congr (blanks_absent _ _ _ _) 0).trans hj) (by
        show j < (blanks _ _ _ x.bowlers).length
        rwa [blanks_length]), ← hstate, hlane]
      rfl
    · obtain ⟨-, -, -, -, hstore, hsessions⟩ := State.goesOn.setDone (hgame hlast hbegun h10)
      refine ⟨fun hroom => ?_, fun hlimit => ?_, fun hlimit hnumber => ?_⟩
      · obtain ⟨new, harchive, hbriefs, -⟩ := archiveAll_archive x.id (bs := (x'.frameDone p).bowlers)
          (s := putSession (x'.frameDone p) w) ((congrArg (s.store.archive.length + ·) (blanks_length _ _ _ _)).trans_le hroom)
        exact ⟨new, (congrArg Store.archive hstore).trans harchive,
          hbriefs.trans (blanks_numbers (fun n => (x.id, true, n)) _ _ _ _)⟩
      · rw [hsessions, if_pos ((x.atLimit_iff p.number).2 hlimit)]
      · rw [hsessions, if_neg (mt (x.atLimit_iff p.number).1 (by omega))]
        have hbowlers := nextGame_bowlers x' p (p.number + 1)
        have habsent : ((x'.frameDone p).countGames.withGames (p.number + 1)).bowlers.map (·.absent) =
            x.bowlers.map (·.absent) := by
          rw [hbowlers, List.map_map]
          rfl
        unfold Session.begun
        rw [Session.entered_at ((firstPresent_congr habsent 0).trans hj) (by rw [hbowlers, List.length_map]; exact hlt),
          hbowlers, ← hstate]
        rfl

end Sys2Proof.Machine
end

section
/-! SUPPORT. The turn order on lanes that do not charge (R76 to R81, R87): what it writes and what it leaves, while no session
waits to be moved (R155). -/

namespace Sys2Proof.Machine

/-! ## The outbound queue (R173) -/

/-- No frame is lost from the queue but display updates. -/
def State.keepsFrames (s t : State) : Prop := ∀ d p, p.cls ≠ 12 → s.queued d p → t.queued d p

theorem mem_dropDisplay {q q' : List QueuedFrame} {f : QueuedFrame} (h : dropDisplay q = some q') (hf : f ∈ q)
    (hcls : f.payload.cls ≠ 12) : f ∈ q' := by
  induction q generalizing q' with
  | nil => cases hf
  | cons g q ih =>
    unfold dropDisplay at h
    split at h
    · rename_i hg
      cases h
      rcases List.mem_cons.1 hf with rfl | hf
      · simp [QueuedFrame.isDisplay, hcls] at hg
      · exact hf
    · obtain ⟨q'', hdrop, rfl⟩ := Option.map_eq_some_iff.1 h
      rcases List.mem_cons.1 hf with rfl | hf
      · exact List.mem_cons_self
      · exact List.mem_cons_of_mem _ (ih hdrop hf)

theorem mem_joinQueue {q q' : List QueuedFrame} {f g : QueuedFrame} (h : joinQueue q f = some q') (hg : g ∈ q)
    (hcls : g.payload.cls ≠ 12) : g ∈ q' := by
  unfold joinQueue at h
  split at h
  · cases h
    exact (placeFrame_mem f g q).2 (.inr hg)
  · split at h
    · cases h
    · obtain ⟨q'', hdrop, rfl⟩ := Option.map_eq_some_iff.1 h
      exact (placeFrame_mem f g q'').2 (.inr (mem_dropDisplay hdrop hg hcls))

theorem send_keepsFrames (d : Nat) (k : FrameMark) (p : Payload) (s : State) : s.keepsFrames (send d k p s) := by
  rintro e r hr ⟨f, hf, hdest, hpay⟩
  unfold send
  split
  · exact ⟨f, hf, hdest, hpay⟩
  · split
    · rename_i q hq
      exact ⟨f, mem_joinQueue hq hf (hpay ▸ hr), hdest, hpay⟩
    · exact ⟨f, hf, hdest, hpay⟩

/-! ## What the turn order writes -/

/-- No lane charges, and no session waits to be moved. -/
structure State.calm (s : State) : Prop where
  free : ∀ k, (s.meter k).mode = .none
  settled : ∀ z ∈ s.sessions, z.state ≠ .waitMove

/-- The table, the archive, the foul-pending flags and the meters' waits are written, and frames queued. -/
structure State.playedOn (s t : State) : Prop where
  frame : t = { s with
    link := t.link, seqs := t.seqs, meters := t.meters, sessions := t.sessions, store := t.store, free := t.free }
  lanes : ∀ k, t.seq k = { s.seq k with foul := (t.seq k).foul } ∧ t.meter k = { s.meter k with wait := (t.meter k).wait }
  line : t.link.line = s.link.line
  frames : s.keepsFrames t

/-- A calm station plays on, and stays calm. -/
def State.playsOn (s t : State) : Prop := s.calm → s.playedOn t ∧ t.calm

section
variable {s t u : State} {id : Nat} {x y z : Session} {l : LaneId}

theorem State.playedOn.refl (s : State) : s.playedOn s := ⟨rfl, fun _ => ⟨rfl, rfl⟩, rfl, fun _ _ _ h => h⟩

theorem State.playedOn.trans (h : s.playedOn t) (h' : t.playedOn u) : s.playedOn u where
  frame := by rw [h'.frame, h.frame]
  lanes k := ⟨by rw [(h'.lanes k).1, (h.lanes k).1], by rw [(h'.lanes k).2, (h.lanes k).2]⟩
  line := h'.line.trans h.line
  frames d p hp hq := h'.frames d p hp (h.frames d p hp hq)

theorem State.playsOn.refl (s : State) : s.playsOn s := fun h => ⟨.refl s, h⟩

theorem State.playsOn.trans (h : s.playsOn t) (h' : t.playsOn u) : s.playsOn u := fun hs => by
  obtain ⟨hplayed, ht⟩ := h hs
  obtain ⟨hplayed', hu⟩ := h' ht
  exact ⟨hplayed.trans hplayed', hu⟩

theorem State.playsOn.ite {c : Prop} [Decidable c] (ht : s.playsOn t) (hu : s.playsOn u) : s.playsOn (if c then t else u) := by
  split
  · exact ht
  · exact hu

theorem foldl_playsOn {α : Type} {f : State → α → State} (hf : ∀ (u : State) (a : α), u.playsOn (f u a)) (as : List α)
    (s : State) : s.playsOn (as.foldl f s) := by
  induction as generalizing s with
  | nil => exact .refl s
  | cons a as ih => exact (hf s a).trans (ih _)

/-- A table of sessions none of whom waits to be moved. -/
theorem State.playsOn.of_table {xs : List Session} (h : s.calm → ∀ z ∈ xs, z.state ≠ .waitMove) :
    s.playsOn { s with sessions := xs } := fun hs =>
  ⟨⟨rfl, fun _ => ⟨rfl, rfl⟩, rfl, fun _ _ _ hq => hq⟩, hs.free, h hs⟩

theorem putSession_playsOn (h : s.calm → y.state ≠ .waitMove) : s.playsOn (putSession y s) :=
  .of_table fun hs z hz => by
    obtain ⟨w, hw, rfl⟩ := List.mem_map.1 hz
    split
    · exact h hs
    · exact hs.settled w hw

theorem putFound_playsOn (hx : s.session? id = some x) (hy : y.state = x.state) : s.playsOn (putSession y s) :=
  putSession_playsOn fun hs => hy ▸ hs.settled x (mem_of_session? hx)

theorem dropSession_playsOn (id : Nat) (s : State) : s.playsOn (dropSession id s) :=
  .of_table fun hs z hz => hs.settled z (List.mem_of_mem_filter hz)

theorem archiveAll_playsOn (id : Nat) (bs : List Bowler) (s : State) : s.playsOn (archiveAll id bs s) := by
  rw [archiveAll_eq]
  exact fun hs => ⟨⟨rfl, fun _ => ⟨rfl, rfl⟩, rfl, fun _ _ _ hq => hq⟩, hs.free, hs.settled⟩

theorem setFree_playsOn (n : Nat) (s : State) : s.playsOn (s.setFree n) := fun hs =>
  ⟨⟨rfl, fun _ => ⟨rfl, rfl⟩, rfl, fun _ _ _ hq => hq⟩, hs.free, hs.settled⟩

/-! ## Turn order (R76 to R80) -/

theorem gameEnd_playsOn (id : Nat) (s : State) : s.playsOn (gameEnd id s) := by
  unfold gameEnd
  split
  · exact .refl s
  · rename_i x hx
    refine (archiveAll_playsOn id x.bowlers s).trans ?_
    dsimp only
    split
    · exact dropSession_playsOn id _
    · exact putSession_playsOn fun _ => by simp [Session.startGame]

theorem selectFresh_playsOn (id : Nat) (s : State) : s.playsOn (selectFresh id s).1 := by
  unfold selectFresh
  split
  · exact .refl s
  · rename_i x hx
    obtain ⟨-, -, -, hstate, -⟩ := x.choose_playsOn.kept
    split
    all_goals rename_i hc; rw [hc] at hstate
    · exact putFound_playsOn hx hstate
    · exact putFound_playsOn hx hstate
    · split
      · exact putSession_playsOn fun _ => by simp
      · exact putFound_playsOn hx hstate

theorem nextFrame_playsOn (id f : Nat) (s : State) : s.playsOn (nextFrame id f s).1 := by
  unfold nextFrame
  split
  · exact (gameEnd_playsOn id s).trans (selectFresh_playsOn id _)
  · split
    · exact .refl s
    · exact (putSession_playsOn fun _ => by simp [Session.enterFrame]).trans (selectFresh_playsOn id _)

theorem selectBoth_playsOn (a b : Nat) (s : State) : s.playsOn (selectBoth a b s).1 :=
  (selectFresh_playsOn a s).trans (selectFresh_playsOn b _)

theorem clearCross_playsOn (id : Nat) (s : State) : s.playsOn (clearCross id s) := by
  unfold clearCross
  split
  · exact .refl s
  · rename_i x hx
    exact putFound_playsOn hx rfl

theorem bothGameEnds_playsOn (a b : Nat) (s : State) : s.playsOn (bothGameEnds a b s) := by
  have hends := (setFree_playsOn (s.free + 1) s).trans (.ite (c := Config.freeRunFirst s.free)
    ((gameEnd_playsOn a _).trans (gameEnd_playsOn b _)) ((gameEnd_playsOn b _).trans (gameEnd_playsOn a _)))
  unfold bothGameEnds
  dsimp only
  split
  · exact hends.trans (clearCross_playsOn a _)
  · exact hends.trans (clearCross_playsOn b _)
  · exact hends

theorem passBarrier_playsOn (x y : Session) (b : Barrier) (s : State) : s.playsOn (passBarrier x y b s).1 := by
  have hput {x' y' : Session} (hx : x'.state = .playing) (hy : y'.state = .playing) :
      s.playsOn (selectBoth x.id y.id (putSession y' (putSession x' s))).1 :=
    ((putSession_playsOn fun _ => by simp [hx]).trans (putSession_playsOn fun _ => by simp [hy])).trans (selectBoth_playsOn _ _ _)
  unfold passBarrier
  split
  · exact hput rfl rfl
  · split
    · exact (bothGameEnds_playsOn _ _ s).trans (selectBoth_playsOn _ _ _)
    · exact hput rfl rfl

theorem barrierTest_playsOn (id : Nat) (s : State) : s.playsOn (barrierTest id s).1 := by
  unfold barrierTest
  split
  · exact .refl s
  · split
    · split
      · split
        · exact passBarrier_playsOn _ _ _ s
        · exact passBarrier_playsOn _ _ _ s
      · exact .refl s
    · exact .refl s

theorem selectTurn_playsOn (id : Nat) (s : State) : s.playsOn (selectTurn id s).1 := by
  unfold selectTurn
  split
  · exact .refl s
  · rename_i x hx
    obtain ⟨-, -, -, hstate, -⟩ := x.choose_playsOn.kept
    split
    all_goals rename_i hc; rw [hc] at hstate
    · exact putFound_playsOn hx hstate
    · exact putFound_playsOn hx hstate
    · dsimp only
      split
      · exact (putSession_playsOn fun _ => by simp).trans (barrierTest_playsOn id _)
      · exact (putFound_playsOn hx hstate).trans (nextFrame_playsOn id _ _)

theorem uncross_playsOn (id : Nat) (s : State) : s.playsOn (uncross id s).1 := by
  unfold uncross
  split
  · exact .refl s
  · rename_i x hx
    have hput : s.playsOn (putSession { x with cross := false } s) := putFound_playsOn hx rfl
    dsimp only
    split
    · exact (putSession_playsOn fun _ => by simp [Session.startGame]).trans (selectFresh_playsOn id _)
    · exact hput.trans (nextFrame_playsOn id _ _)
    · exact hput

/-! ## Turn starts (R81) -/

/-- A turn start that a lane admits without a charge. -/
theorem startTurn_free_cases (hm : (s.meter l).mode = .none) (id : Nat) :
    startTurn l id s = s ∨ ∃ x d, s.session? id = some x ∧ startTurn l id s = display d (s.turnMade l x) := by
  unfold startTurn
  split
  · exact .inl rfl
  · rename_i x hx
    split
    · split
      · split
        · rename_i p i b _ _ _ g _ _
          refine .inr ⟨x, .turn (displayHead x i b g p) .admitted, hx, ?_⟩
          rw [admission_free hm]
          exact congrArg (display _) (turnAnswered_admitted (l := l) hx)
        · exact .inl rfl
      · exact .inl rfl
    · exact .inl rfl

theorem turnMade_lanes (s : State) (l : LaneId) (x : Session) (k : LaneId) :
    (s.turnMade l x).seq k = { s.seq k with foul := ((s.turnMade l x).seq k).foul } ∧
      (s.turnMade l x).meter k = { s.meter k with wait := ((s.turnMade l x).meter k).wait } := by
  have hseq : (s.turnMade l x).seq k = if k = l then { s.seq l with foul := false } else s.seq k := Pair.get_set _ _ _ _
  have hmeter : (s.turnMade l x).meter k = if k = l then { s.meter l with wait := none } else s.meter k := Pair.get_set _ _ _ _
  rw [hseq, hmeter]
  by_cases hk : k = l
  · subst hk
    rw [if_pos rfl, if_pos rfl]
    exact ⟨rfl, rfl⟩
  · rw [if_neg hk, if_neg hk]
    exact ⟨rfl, rfl⟩

theorem turnMade_playsOn (l : LaneId) (hx : s.session? id = some x) : s.playsOn (s.turnMade l x) := fun hs => by
  have hlanes := turnMade_lanes s l x
  refine ⟨⟨rfl, hlanes, rfl, fun _ _ _ hq => hq⟩, fun k => by rw [(hlanes k).2]; exact hs.free k, ?_⟩
  exact ((putFound_playsOn (y := { x with turn := .active }) hx rfl) hs).2.settled

theorem display_playsOn (d : Display) (s : State) : s.playsOn (display d s) := fun hs => by
  refine ⟨⟨?_, ?_, display_line s d, send_keepsFrames _ _ _ _⟩, ?_, ?_⟩
  all_goals rw [display_eq]
  · exact fun _ => ⟨rfl, rfl⟩
  · exact hs.free
  · exact hs.settled

theorem startTurn_playsOn (l : LaneId) (id : Nat) (s : State) : s.playsOn (startTurn l id s) := fun hs => by
  obtain h | ⟨x, d, hx, h⟩ := startTurn_free_cases (hs.free l) id
  · rw [h]
    exact State.playsOn.refl s hs
  · rw [h]
    exact ((turnMade_playsOn l hx).trans (display_playsOn d _)) hs

theorem startTurns_playsOn (r : State × List Nat) : r.1.playsOn (startTurns r) :=
  (foldl_playsOn (fun u id => startTurn_playsOn .A id u) r.2 r.1).trans
    (foldl_playsOn (fun u id => startTurn_playsOn .B id u) r.2 _)

/-! ## The entry into ARMED (R1, R87) -/

theorem freshBowler_playsOn (x : Session) (s : State) : s.playsOn (freshBowler x s) := fun hs =>
  ⟨⟨by unfold freshBowler; split <;> rfl, fun k => ⟨by rw [freshBowler_seq], by simp [State.meter]⟩, by simp, fun d p _ hq =>
    hq.of_link (by simp)⟩, fun k => by simpa [State.meter] using hs.free k, by simpa using hs.settled⟩

theorem resumeOn_playsOn (l : LaneId) (s : State) : s.playsOn (resumeOn l s).1.1 := by
  unfold resumeOn
  split
  · exact .refl s
  · rename_i x _
    split
    · exact putSession_playsOn fun _ => by simp
    · have hcut (i : Nat) : s.playsOn (putSession (Session.truncate { x with state := .playing } i) s) :=
        putSession_playsOn fun _ => by
          rw [(Session.truncate_playsOn _ i).kept.2.2.2.1]
          simp
      have hput : s.playsOn (putSession { x with state := .playing } s) := putSession_playsOn fun _ => by simp
      dsimp only
      split
      · split
        · exact (hcut _).trans (freshBowler_playsOn _ _)
        · exact hput.trans (freshBowler_playsOn _ _)
      · split
        · exact hcut _
        · exact hput
    · rename_i b _
      have hwait : s.playsOn (putSession { x with state := .waitPartner b } s) := putSession_playsOn fun _ => by simp
      dsimp only
      split
      · exact hwait.trans (barrierTest_playsOn _ _)
      · exact hwait.trans (uncross_playsOn _ _)
    · exact .refl s

theorem armedTurn_playsOn (l : LaneId) (s : State) (id : Nat) : s.playsOn (armedTurn l s id) := fun hs => by
  refine (?_ : s.playsOn (armedTurn l s id)) hs
  unfold armedTurn
  split
  · exact .refl s
  · rename_i x hx
    split
    · split
      · exact ((putFound_playsOn (y := { x with turn := .none }) hx rfl).trans (selectTurn_playsOn id _)).trans
          (startTurns_playsOn _)
      · exact absurd ‹x.state = .waitMove› (hs.settled x (mem_of_session? hx))
      · exact startTurn_playsOn l id s
      · exact .refl s
    · exact .refl s

theorem armedReport_playsOn (l : LaneId) (s : State) : s.playsOn (armedReport l s) := by
  have hfold : s.playsOn (((startTurns (resumeOn l s).1).sessions.map (·.id)).foldl (armedTurn l)
      (startTurns (resumeOn l s).1)) :=
    ((resumeOn_playsOn l s).trans (startTurns_playsOn _)).trans (foldl_playsOn (armedTurn_playsOn l) _ _)
  unfold armedReport
  dsimp only
  split
  · exact (hfold.trans (selectTurn_playsOn _ _)).trans (startTurns_playsOn _)
  · exact hfold

end

end Sys2Proof.Machine
end

section
/-! SUPPORT. Turn starts and selections on lanes that do not charge, read session by session (R76, R77, R81). -/

namespace Sys2Proof.Machine

/-- The lanes that are ARMED. -/
def State.isArmed (s : State) : LaneId → Bool := fun k => decide ((s.seq k).state = .armed)

/-- The same ids stand in the table; the store and the free choices are not touched. -/
structure State.sameRows (s t : State) : Prop where
  ids : t.sessions.map (·.id) = s.sessions.map (·.id)
  store : t.store = s.store
  free : t.free = s.free

section
variable {s t u : State} {x y z : Session} {p q : GamePos} {l : LaneId} {id : Nat} {ids js : List Nat}

theorem State.sameRows.refl (s : State) : s.sameRows s := ⟨rfl, rfl, rfl⟩

theorem State.sameRows.trans (h : s.sameRows t) (h' : t.sameRows u) : s.sameRows u :=
  ⟨h'.ids.trans h.ids, h'.store.trans h.store, h'.free.trans h.free⟩

theorem putSession_sameRows (y : Session) (s : State) : s.sameRows (putSession y s) := ⟨putSession_ids y s, rfl, rfl⟩

theorem State.playedOn.isArmed (h : s.playedOn t) : t.isArmed = s.isArmed :=
  funext fun k => by
    unfold State.isArmed
    rw [(h.lanes k).1]

theorem State.turnOn_eq (s : State) (l : LaneId) : s.turnOn l = if s.isArmed l then .active else .outstanding := by
  simp [State.turnOn, State.isArmed]

/-! ## One turn start -/

theorem startTurn_still (hx : s.session? id = some x) (h : ∀ p, x.pos = some p → p.lane = l → s.isArmed l = false) :
    startTurn l id s = s := by
  cases hp : x.pos with
  | none => simp only [startTurn, hx, hp]
  | some p =>
    by_cases hl : p.lane = l
    · exact startTurn_unarmed (by simpa [State.isArmed] using h p hp hl) id
    · exact startTurn_elsewhere hx hp hl

theorem startTurn_sameRows (hs : s.calm) (l : LaneId) (id : Nat) : s.sameRows (startTurn l id s) := by
  obtain h | ⟨x, d, hx, h⟩ := startTurn_free_cases (hs.free l) id
  · rw [h]
    exact .refl s
  · rw [h, display_eq]
    exact ⟨putSession_ids { x with turn := .active } s, rfl, rfl⟩

theorem startTurn_session? (hs : s.calm) (hx : s.session? x.id = some x) (ha : x.awaits p) :
    (startTurn p.lane x.id s).session? x.id = some { x with turn := s.turnOn p.lane } := by
  obtain ⟨hpos, hstate, hturn, i, b, g, hi, hb, hg⟩ := ha
  by_cases harmed : (s.seq p.lane).state = .armed
  · rw [startTurn_free hx hpos hi hb hg hstate hturn harmed (hs.free _), display_session?, State.turnMade_session? _ hx,
      State.turnOn, if_pos harmed]
  · rw [startTurn_unarmed harmed, State.turnOn, if_neg harmed, ← hturn]
    exact hx

/-! ## The turn starts of a lane -/

/-- The turn starts of sessions on one lane. -/
def laneTurns (l : LaneId) (ids : List Nat) (s : State) : State := ids.foldl (fun s id => startTurn l id s) s

theorem laneTurns_playsOn (l : LaneId) (ids : List Nat) (s : State) : s.playsOn (laneTurns l ids s) :=
  foldl_playsOn (fun u id => startTurn_playsOn l id u) ids s

theorem laneTurns_sameRows (hs : s.calm) (l : LaneId) (ids : List Nat) : s.sameRows (laneTurns l ids s) := by
  induction ids generalizing s with
  | nil => exact .refl s
  | cons j js ih => exact (startTurn_sameRows hs l j).trans (ih (startTurn_playsOn l j s hs).2)

theorem laneTurns_others (l : LaneId) (h : id ∉ ids) (s : State) : (laneTurns l ids s).session? id = s.session? id := by
  induction ids generalizing s with
  | nil => rfl
  | cons j js ih =>
    rw [List.mem_cons, not_or] at h
    obtain ⟨hj, hjs⟩ := h
    exact (ih hjs _).trans (startTurn_changesOnly l j s id hj)

theorem laneTurns_still (hs : s.calm) (hx : s.session? id = some x)
    (h : ∀ p, x.pos = some p → p.lane = l → s.isArmed l = false) (ids : List Nat) :
    (laneTurns l ids s).session? id = some x := by
  induction ids generalizing s with
  | nil => exact hx
  | cons j js ih =>
    obtain ⟨hplayed, hcalm⟩ := startTurn_playsOn l j s hs
    refine ih hcalm ?_ fun p hp hl => hplayed.isArmed ▸ h p hp hl
    by_cases hj : id = j
    · subst hj
      exact (congrArg (·.session? id) (startTurn_still hx h)).trans hx
    · exact (startTurn_changesOnly l j s id hj).trans hx

theorem laneTurns_starts (hs : s.calm) (hx : s.session? x.id = some x) (ha : x.awaits p) (hmem : x.id ∈ ids)
    (hnodup : ids.Nodup) : (laneTurns p.lane ids s).session? x.id = some { x with turn := s.turnOn p.lane } := by
  induction ids generalizing s with
  | nil => cases hmem
  | cons j js ih =>
    obtain ⟨hj, hjs⟩ := List.nodup_cons.1 hnodup
    by_cases hxj : x.id = j
    · subst hxj
      exact (laneTurns_others p.lane hj _).trans (startTurn_session? hs hx ha)
    · obtain ⟨hplayed, hcalm⟩ := startTurn_playsOn p.lane j s hs
      refine (ih hcalm ((startTurn_changesOnly p.lane j s x.id hxj).trans hx) ((List.mem_cons.1 hmem).resolve_left hxj)
        hjs).trans ?_
      rw [State.turnOn_eq, State.turnOn_eq, hplayed.isArmed]

/-! ## The turn starts of both lanes (R81) -/

theorem startTurns_eq (s : State) (ids : List Nat) : startTurns (s, ids) = laneTurns .B ids (laneTurns .A ids s) := rfl

theorem startTurns_sameRows (hs : s.calm) (ids : List Nat) : s.sameRows (startTurns (s, ids)) :=
  (laneTurns_sameRows hs .A ids).trans (laneTurns_sameRows (laneTurns_playsOn .A ids s hs).2 .B ids)

theorem startTurns_others (h : id ∉ ids) (s : State) : (startTurns (s, ids)).session? id = s.session? id :=
  (laneTurns_others .B h _).trans (laneTurns_others .A h s)

/-- No turn of a session starts whose lane is not ARMED. -/
theorem startTurns_still (hs : s.calm) (hx : s.session? id = some x) (h : ∀ p, x.pos = some p → s.isArmed p.lane = false)
    (ids : List Nat) : (startTurns (s, ids)).session? id = some x := by
  obtain ⟨hplayed, hcalm⟩ := laneTurns_playsOn .A ids s hs
  have hstill (l : LaneId) (p : GamePos) (hp : x.pos = some p) (hl : p.lane = l) : s.isArmed l = false := hl ▸ h p hp
  exact laneTurns_still hcalm (laneTurns_still hs hx (hstill .A) ids) (hplayed.isArmed ▸ hstill .B) ids

theorem startTurns_starts (hs : s.calm) (hx : s.session? x.id = some x) (ha : x.awaits p) (hmem : x.id ∈ ids)
    (hnodup : ids.Nodup) : (startTurns (s, ids)).session? x.id = some { x with turn := s.turnOn p.lane } := by
  obtain ⟨hplayed, hcalm⟩ := laneTurns_playsOn .A ids s hs
  have helsewhere {l k : LaneId} (hl : p.lane = l) (hk : l ≠ k) {v : State} (q : GamePos) (hq : x.pos = some q)
      (hqk : q.lane = k) : v.isArmed k = false := by
    cases ha.1.symm.trans hq
    exact absurd (hl.symm.trans hqk) hk
  rw [startTurns_eq]
  cases hl : p.lane with
  | A =>
    have hstart := laneTurns_starts hs hx ha hmem hnodup
    rw [hl] at hstart
    exact laneTurns_still (x := { x with turn := s.turnOn .A }) hcalm hstart (helsewhere hl (by decide)) ids
  | B =>
    have hkept := laneTurns_still hs hx (helsewhere (k := .A) hl (by decide)) ids
    have hstart := laneTurns_starts hcalm hkept ha hmem hnodup
    rw [hl, State.turnOn_eq, hplayed.isArmed, ← State.turnOn_eq] at hstart
    exact hstart

/-! ## Selections, and the turns that follow them -/

/-- The record y, with its turn start if one is to be made, comes to F of the lanes that are ARMED. -/
def Session.comesTo (y : Session) (ids : List Nat) (F : (LaneId → Bool) → Session) : Prop :=
  ids = [] ∧ (∀ armed, F armed = y) ∨
    ids = [y.id] ∧ ∃ p, y.awaits p ∧ ∀ armed, F armed = { y with turn := if armed p.lane then .active else .outstanding }

/-- The turn starts after selections, of which one is the session's. -/
theorem Session.comesTo.starts {F : (LaneId → Bool) → Session} (h : y.comesTo js F) (hs : s.calm)
    (hy : s.session? y.id = some y) (hnodup : ids.Nodup) (hmem : y.id ∈ ids ↔ y.id ∈ js) :
    (startTurns (s, ids)).session? y.id = some (F s.isArmed) := by
  obtain ⟨rfl, hF⟩ | ⟨rfl, p, ha, hF⟩ := h
  · rw [startTurns_others (by simpa using hmem), hy, hF]
  · rw [startTurns_starts hs hy ha (hmem.2 List.mem_cons_self) hnodup, hF, State.turnOn_eq]

/-- At most the session itself is selected. -/
theorem Session.comesTo.own {F : (LaneId → Bool) → Session} (h : y.comesTo js F) : js = [] ∨ js = [y.id] :=
  h.imp And.left And.left

/-- The selection of a session that has entered a frame (R76, R77). -/
theorem selectFresh_enters (hz : s.session? z.id = some (z.atFrame p)) (hgames : ∀ b ∈ z.bowlers, b.game.isSome = true) :
    ∃ y ids, selectFresh z.id s = (putSession y s, ids) ∧ y.id = z.id ∧ y.comesTo ids fun armed => z.entered armed p := by
  by_cases hj : firstPresent 0 z.bowlers < z.bowlers.length
  · obtain ⟨b, g, hb, hg⟩ := Session.selected_bowler (p := p) (x := z.atFrame p) hj hgames
    refine ⟨(z.atFrame p).selected p, [z.id], ?_, rfl,
      .inr ⟨rfl, p, ⟨rfl, rfl, rfl, _, b, g, rfl, hb, hg⟩, fun armed => Session.entered_chosen hj⟩⟩
    simp only [selectFresh, hz, Session.choose_chosen (x := z.atFrame p) rfl hj]
  · cases hcross : z.cross with
    | false =>
      refine ⟨z.atFrame p, [], ?_, rfl, .inl ⟨rfl, fun armed => Session.entered_idle hj hcross⟩⟩
      simp only [selectFresh, hz, Session.choose_idle (x := z.atFrame p) hcross rfl hj]
      rfl
    | true =>
      have hwaits (armed : LaneId → Bool) : z.entered armed p =
          { (z.atFrame p).frameDone p with state := .waitPartner (.frame p.frame) } := by
        unfold Session.entered
        dsimp only
        rw [if_neg hj, if_pos hcross]
        have hlast : firstPresent 0 z.bowlers = z.bowlers.length :=
          Nat.le_antisymm (by unfold firstPresent; simpa using List.findIdx_le_length) (by omega)
        rw [hlast]
        rfl
      refine ⟨{ (z.atFrame p).frameDone p with state := .waitPartner (.frame p.frame) }, [], ?_, rfl, .inl ⟨rfl, hwaits⟩⟩
      have hfinished := Session.choose_finished (x := z.atFrame p) rfl hj (.inl hcross)
      have hcross' : ((z.atFrame p).frameDone p).cross = true := hcross
      simp only [selectFresh, hz, hfinished, hcross', if_true]
      rfl

theorem selectFresh_missing (hz : s.session? id = none) : selectFresh id s = (s, []) := by
  simp only [selectFresh, hz]

/-- A session enters a frame, and its turn starts (R76, R77, R81). -/
theorem selectFresh_starts (hs : s.calm) (hz : s.session? z.id = some (z.atFrame p))
    (hgames : ∀ b ∈ z.bowlers, b.game.isSome = true) :
    (startTurns (selectFresh z.id s)).session? z.id = some (z.entered s.isArmed p) ∧
      s.sameRows (startTurns (selectFresh z.id s)) := by
  obtain ⟨hplayed, hcalm⟩ := selectFresh_playsOn z.id s hs
  obtain ⟨y, ids, hselect, hid, hcomes⟩ := selectFresh_enters hz hgames
  rw [hselect] at hplayed hcalm ⊢
  have hy : (putSession y s).session? y.id = some y := session?_putSession (hid ▸ hz)
  refine ⟨?_, (putSession_sameRows y s).trans (startTurns_sameRows hcalm ids)⟩
  have hstarts := hcomes.starts hcalm hy (by obtain rfl | rfl := hcomes.own <;> simp) Iff.rfl
  rw [hid] at hstarts
  rw [hstarts, hplayed.isArmed]

/-- Two sessions enter a frame each, and their turns start (R76, R77, R81). -/
theorem selectBoth_starts (hs : s.calm) (hx : s.session? x.id = some (x.atFrame p)) (hy : s.session? y.id = some (y.atFrame q))
    (hne : x.id ≠ y.id) (hgx : ∀ b ∈ x.bowlers, b.game.isSome = true) (hgy : ∀ b ∈ y.bowlers, b.game.isSome = true) :
    let t := startTurns (selectBoth x.id y.id s)
    t.session? x.id = some (x.entered s.isArmed p) ∧ t.session? y.id = some (y.entered s.isArmed q) ∧ s.sameRows t := by
  obtain ⟨hplayed, hcalm⟩ := selectBoth_playsOn x.id y.id s hs
  obtain ⟨x', is, hselect, hxid, hcx⟩ := selectFresh_enters hx hgx
  have hyput : (putSession x' s).session? y.id = some (y.atFrame q) :=
    (session?_putSession_other (by rw [hxid]; exact hne.symm)).trans hy
  obtain ⟨y', js, hselect', hyid, hcy⟩ := selectFresh_enters hyput hgy
  have hboth : selectBoth x.id y.id s = (putSession y' (putSession x' s), is ++ js) := by
    simp only [selectBoth, hselect, hselect']
  rw [hboth] at hplayed hcalm ⊢
  have hx' : (putSession y' (putSession x' s)).session? x'.id = some x' :=
    (session?_putSession_other (by rw [hyid, hxid]; exact hne)).trans (session?_putSession (hxid ▸ hx))
  have hy' : (putSession y' (putSession x' s)).session? y'.id = some y' := session?_putSession (hyid ▸ hyput)
  have hne' : x'.id ≠ y'.id := by rwa [hxid, hyid]
  have hlists : (is ++ js).Nodup ∧ (x'.id ∈ is ++ js ↔ x'.id ∈ is) ∧ (y'.id ∈ is ++ js ↔ y'.id ∈ js) := by
    obtain rfl | rfl := hcx.own <;> obtain rfl | rfl := hcy.own <;> simp [hne', hne'.symm]
  obtain ⟨hnodup, hmemx, hmemy⟩ := hlists
  have hsx := hcx.starts hcalm hx' hnodup hmemx
  have hsy := hcy.starts hcalm hy' hnodup hmemy
  rw [hxid] at hsx
  rw [hyid] at hsy
  refine ⟨?_, ?_, ((putSession_sameRows x' s).trans (putSession_sameRows y' _)).trans (startTurns_sameRows hcalm _)⟩
  · rw [hsx, hplayed.isArmed]
  · rw [hsy, hplayed.isArmed]

end

end Sys2Proof.Machine
end

section
/-! SUPPORT. The barrier of a crossed pair on lanes that do not charge (R78 to R81): the test, the frame both enter, the games
both start, and the game ends of barrier 10 with their archived games (R80, R135). -/

namespace Sys2Proof.Machine

/-! ## A table of two -/

theorem table_of_ids {xs : List Session} {ids : List Nat} (h : (xs.map (·.id)).Sublist ids) (hn : ids.Nodup) :
    xs = ids.filterMap fun i => xs.find? (·.id == i) := by
  induction ids generalizing xs with
  | nil =>
    rw [List.sublist_nil, List.map_eq_nil_iff] at h
    rw [h]
    rfl
  | cons i is ih =>
    obtain ⟨hi, his⟩ := List.nodup_cons.1 hn
    match xs, h with
    | [], _ => simp
    | z :: zs, h =>
      by_cases hz : z.id = i
      · have htail : (zs.map (·.id)).Sublist is := by
          rw [List.map_cons, hz] at h
          exact List.cons_sublist_cons.1 h
        have hrest : (is.filterMap fun j => (z :: zs).find? (·.id == j)) = is.filterMap fun j => zs.find? (·.id == j) :=
          List.filterMap_congr fun j hj => List.find?_cons_of_neg (by
            rw [hz, beq_iff_eq]
            rintro rfl
            exact hi hj)
        rw [List.filterMap_cons_some (f := fun j => (z :: zs).find? (·.id == j)) (b := z)
          (List.find?_cons_of_pos (beq_iff_eq.2 hz)), hrest, ← ih htail his]
      · have hsub : ((z :: zs).map (·.id)).Sublist is := by
          rw [List.map_cons] at h ⊢
          exact (List.sublist_cons_iff.1 h).resolve_right fun ⟨r, hr, _⟩ => hz (List.cons.inj hr).1
        have hnone : (z :: zs).find? (·.id == i) = none :=
          List.find?_eq_none.2 fun w hw hid => hi (hsub.subset ((by simpa using hid : w.id = i) ▸ List.mem_map_of_mem hw))
        rw [List.filterMap_cons_none (f := fun j => (z :: zs).find? (·.id == j)) hnone]
        exact ih hsub his

/-- The table holds two sessions of different home lanes, in either order. -/
structure State.holdsPair (s : State) (x y : Session) : Prop where
  table : s.sessions = [x, y] ∨ s.sessions = [y, x]
  ids : x.id ≠ y.id
  homes : x.home ≠ y.home

section
variable {s t u : State} {x y z : Session} {p q : GamePos} {l : LaneId} {id : Nat} {b : Barrier}

theorem State.holdsPair.symm (h : s.holdsPair x y) : s.holdsPair y x := ⟨h.table.symm, h.ids.symm, h.homes.symm⟩

theorem State.holdsPair.first (h : s.holdsPair x y) : s.session? x.id = some x := by
  obtain hs | hs := h.table <;> simp [State.session?, hs, h.ids.symm]

theorem State.holdsPair.second (h : s.holdsPair x y) : s.session? y.id = some y := h.symm.first

theorem State.holdsPair.nodup (h : s.holdsPair x y) : (s.sessions.map (·.id)).Nodup := by
  obtain hs | hs := h.table <;> simp [hs, h.ids, h.ids.symm]

theorem State.holdsPair.of_sessions (h : s.holdsPair x y) (ht : t.sessions = s.sessions) : t.holdsPair x y :=
  ⟨ht ▸ h.table, h.ids, h.homes⟩

theorem State.holdsPair.put {x' : Session} (h : s.holdsPair x y) (hid : x'.id = x.id) (hhome : x'.home = x.home) :
    (putSession x' s).holdsPair x' y := by
  refine ⟨?_, hid ▸ h.ids, hhome ▸ h.homes⟩
  show s.sessions.map _ = _ ∨ s.sessions.map _ = _
  obtain hs | hs := h.table <;> simp [hs, hid, h.ids.symm]

theorem State.holdsPair.other (h : s.holdsPair x y) : y.home = other x.home := eq_other h.homes

/-- The partner of a session of the pair (R67). -/
theorem State.holdsPair.partner (h : s.holdsPair x y) (hp : y.state ≠ .parked) : s.partner? x = some y := by
  have hhome := h.other
  obtain hs | hs := h.table <;> simp [State.partner?, hs, h.ids.symm, hhome, hp]

theorem State.holdsPair.alone (h : s.holdsPair x y) (hp : y.state = .parked) : s.partner? x = none := by
  obtain hs | hs := h.table <;> simp [State.partner?, hs, hp]

/-- What becomes of the table, read session by session. -/
theorem State.holdsPair.left (h : s.holdsPair x y) (hids : (t.sessions.map (·.id)).Sublist (s.sessions.map (·.id)))
    {a c : Option Session} (hx : t.session? x.id = a) (hy : t.session? y.id = c) :
    t.sessions = s.sessions.filterMap fun z => if z.id = x.id then a else c := by
  rw [table_of_ids hids h.nodup, List.filterMap_map]
  refine List.filterMap_congr fun z hz => ?_
  show t.session? z.id = _
  have hcases : z = x ∨ z = y := by obtain hs | hs := h.table <;> simpa [hs, or_comm] using hz
  obtain rfl | rfl := hcases
  · rw [if_pos rfl, hx]
  · rw [if_neg h.ids.symm, hy]

theorem State.holdsPair.becomes (h : s.holdsPair x y) (hids : (t.sessions.map (·.id)).Sublist (s.sessions.map (·.id)))
    {x' y' : Session} (hx : t.session? x.id = some x') (hy : t.session? y.id = some y') :
    t.sessions = s.sessions.map fun z => if z.id = x.id then x' else y' := by
  rw [h.left hids hx hy, ← List.filterMap_eq_map]
  refine List.filterMap_congr fun z _ => ?_
  exact (apply_ite some (z.id = x.id) x' y').symm

theorem State.holdsPair.leaves (h : s.holdsPair x y) (hids : (t.sessions.map (·.id)).Sublist (s.sessions.map (·.id)))
    {x' : Session} (hx : t.session? x.id = some x') (hy : t.session? y.id = none) : t.sessions = [x'] := by
  rw [h.left hids hx hy]
  obtain hs | hs := h.table <;> simp [hs, h.ids.symm]

theorem State.holdsPair.empty (h : s.holdsPair x y) (hids : (t.sessions.map (·.id)).Sublist (s.sessions.map (·.id)))
    (hx : t.session? x.id = none) (hy : t.session? y.id = none) : t.sessions = [] := by
  rw [h.left hids hx hy]
  simp

/-! ## The test (R78) -/

/-- The barrier passes for a pair that waits at it, the session of the lower id first. -/
theorem barrierTest_passes (h : s.holdsPair x y) (hx : x.state = .waitPartner b) (hy : y.state = .waitPartner b)
    (hidle : b = .start ∨ (x.allAbsent && y.allAbsent) = false) :
    barrierTest x.id s = if x.id < y.id then passBarrier x y b s else passBarrier y x b s := by
  simp only [barrierTest, h.first, h.partner (by simp [hy]), hx]
  rw [if_pos ⟨hy, hidle⟩]

theorem barrierTest_waits (h : s.holdsPair x y) (hx : x.state = .waitPartner b)
    (hy : y.state = .waitPartner b → ¬ (b = .start ∨ (x.allAbsent && y.allAbsent) = false)) :
    barrierTest x.id s = (s, []) := by
  by_cases hp : y.state = .parked
  · simp only [barrierTest, h.first, h.alone hp, hx]
  · simp only [barrierTest, h.first, h.partner hp, hx]
    exact if_neg fun ⟨hw, hi⟩ => hy hw hi

/-! ## A frame both enter (R78) -/

/-- Both sessions of the pair come to the records given. -/
structure State.bothBecome (s t : State) (x y x' y' : Session) : Prop where
  first : t.session? x.id = some x'
  second : t.session? y.id = some y'
  rows : s.sameRows t

theorem State.bothBecome.symm {x' y' : Session} (h : s.bothBecome t x y x' y') : s.bothBecome t y x y' x' :=
  ⟨h.second, h.first, h.rows⟩

/-- Both sessions are put at the start of a frame, and their turns start. -/
theorem selectBoth_putBoth (hs : s.calm) (h : s.holdsPair x y) {x' y' : Session} (hx : x'.id = x.id) (hy : y'.id = y.id)
    (hgx : ∀ b ∈ x'.bowlers, b.game.isSome = true) (hgy : ∀ b ∈ y'.bowlers, b.game.isSome = true) (p q : GamePos) :
    s.bothBecome (startTurns (selectBoth x.id y.id (putSession (y'.atFrame q) (putSession (x'.atFrame p) s)))) x y
      (x'.entered s.isArmed p) (y'.entered s.isArmed q) := by
  have hputs := (putSession_playsOn (s := s) (y := x'.atFrame p) fun _ => by simp [Session.atFrame]).trans
    (putSession_playsOn (y := y'.atFrame q) fun _ => by simp [Session.atFrame])
  have hx' : (putSession (x'.atFrame p) s).session? x.id = some (x'.atFrame p) := session?_put_self h.first hx
  have hfirst : (putSession (y'.atFrame q) (putSession (x'.atFrame p) s)).session? x.id = some (x'.atFrame p) :=
    (session?_putSession_other (y := y'.atFrame q) (by show _ ≠ y'.id; rw [hy]; exact h.ids)).trans hx'
  have hsecond : (putSession (y'.atFrame q) (putSession (x'.atFrame p) s)).session? y.id = some (y'.atFrame q) :=
    session?_put_self (x := y) ((session?_putSession_other (y := x'.atFrame p) (by show _ ≠ x'.id; rw [hx]; exact h.ids.symm)).trans
      h.second) hy
  rw [← hx] at hfirst
  rw [← hy] at hsecond
  have hstarts := selectBoth_starts (hputs hs).2 hfirst hsecond (by rw [hx, hy]; exact h.ids) hgx hgy
  rw [hx, hy] at hstarts
  obtain ⟨hfst, hsnd, hrows⟩ := hstarts
  exact ⟨hfst, hsnd, ((putSession_sameRows (x'.atFrame p) s).trans (putSession_sameRows (y'.atFrame q) _)).trans hrows⟩

/-- A cross session enters a frame on the lane of its parity (R65). -/
theorem Session.enterFrame_crossed (hc : x.cross = true) (hp : x.pos = some p) (f : Nat) :
    x.enterFrame f = x.atFrame { p with frame := f, lane := x.crossLane f } := by
  have hlane : x.laneOfFrame f = x.crossLane f := by simp [Session.laneOfFrame, Session.crossLane, hc]
  unfold Session.enterFrame
  rw [hlane, hp]
  rfl

theorem passBarrier_frame_enters (hs : s.calm) (h : s.holdsPair x y) (hcx : x.cross = true) (hcy : y.cross = true)
    (hp : x.pos = some p) (hq : y.pos = some q) (hgx : ∀ b ∈ x.bowlers, b.game.isSome = true)
    (hgy : ∀ b ∈ y.bowlers, b.game.isSome = true) {f : Nat} (hf : f ≠ 10) :
    s.bothBecome (startTurns (passBarrier x y (.frame f) s)) x y
      (x.entered s.isArmed { p with frame := f + 1, lane := x.crossLane (f + 1) })
      (y.entered s.isArmed { q with frame := f + 1, lane := y.crossLane (f + 1) }) := by
  have hpass : passBarrier x y (.frame f) s =
      selectBoth x.id y.id (putSession (y.enterFrame (f + 1)) (putSession (x.enterFrame (f + 1)) s)) := if_neg hf
  rw [hpass, Session.enterFrame_crossed hcx hp, Session.enterFrame_crossed hcy hq]
  exact selectBoth_putBoth hs h rfl rfl hgx hgy _ _

theorem passBarrier_start_begins (hs : s.calm) (h : s.holdsPair x y) :
    s.bothBecome (startTurns (passBarrier x y .start s)) x y (x.begun s.isArmed 1) (y.begun s.isArmed 1) :=
  selectBoth_putBoth (x' := x.withGames 1) (y' := y.withGames 1) hs h rfl rfl
    (fun c hc => by obtain ⟨d, -, rfl⟩ := List.mem_map.1 hc; rfl)
    (fun c hc => by obtain ⟨d, -, rfl⟩ := List.mem_map.1 hc; rfl) ⟨1, 1, x.home⟩ ⟨1, 1, y.home⟩

/-- The pair enters the frame behind its barrier (R78). -/
theorem barrierTest_frame_enters (hs : s.calm) (h : s.holdsPair x y) (hcx : x.cross = true) (hcy : y.cross = true)
    (hp : x.pos = some p) (hq : y.pos = some q) (hgx : ∀ b ∈ x.bowlers, b.game.isSome = true)
    (hgy : ∀ b ∈ y.bowlers, b.game.isSome = true) {f : Nat} (hf : f ≠ 10) (hx : x.state = .waitPartner (.frame f))
    (hy : y.state = .waitPartner (.frame f)) (hidle : (x.allAbsent && y.allAbsent) = false) :
    s.bothBecome (startTurns (barrierTest x.id s)) x y
      (x.entered s.isArmed { p with frame := f + 1, lane := x.crossLane (f + 1) })
      (y.entered s.isArmed { q with frame := f + 1, lane := y.crossLane (f + 1) }) := by
  rw [barrierTest_passes h hx hy (.inr hidle)]
  split
  · exact passBarrier_frame_enters hs h hcx hcy hp hq hgx hgy hf
  · exact (passBarrier_frame_enters hs h.symm hcy hcx hq hp hgy hgx hf).symm

/-- The pair starts game 1 (R70, R78). -/
theorem barrierTest_start_begins (hs : s.calm) (h : s.holdsPair x y) (hx : x.state = .waitPartner .start)
    (hy : y.state = .waitPartner .start) :
    s.bothBecome (startTurns (barrierTest x.id s)) x y (x.begun s.isArmed 1) (y.begun s.isArmed 1) := by
  rw [barrierTest_passes h hx hy (.inl rfl)]
  split
  · exact passBarrier_start_begins hs h
  · exact (passBarrier_start_begins hs h.symm).symm

/-! ## Barrier 10 (R80, R135) -/

/-- The record of a session for its next game; one left alone is un-crossed (R80). -/
def Session.forNextGame (x : Session) (n : Nat) (alone : Bool) : Session :=
  { x.countGames.withGames (n + 1) with cross := x.cross && !alone }

theorem Session.forNextGame_games (x : Session) (n : Nat) (alone : Bool) :
    ∀ b ∈ (x.forNextGame n alone).bowlers, b.game.isSome = true := fun b hb => by
  obtain ⟨c, -, rfl⟩ := List.mem_map.1 hb
  rfl

/-- What is left of a session when both games of the pair have ended. -/
theorem bothGameEnds_left (h : s.holdsPair x y) (hcx : x.cross = true) (hcy : y.cross = true) (hp : x.pos = some p)
    (hq : y.pos = some q) :
    let w := bothGameEnds x.id y.id s
    (w.sessions.map (·.id)).Sublist (s.sessions.map (·.id)) ∧
      (w.session? x.id = if x.ends then none else some ((x.forNextGame p.number y.ends).atFrame ⟨p.number + 1, 1, x.home⟩)) ∧
      (w.session? y.id = if y.ends then none else some ((y.forNextGame q.number x.ends).atFrame ⟨q.number + 1, 1, y.home⟩)) := by
  intro w
  obtain ⟨t, ht, hw⟩ := bothGameEnds_cases h.first h.second h.ids
  have hnext {z : Session} {r : GamePos} (hr : z.pos = some r) (alone : Bool) :
      { z.nextGame with cross := z.cross && !alone } = (z.forNextGame r.number alone).atFrame ⟨r.number + 1, 1, z.home⟩ := by
    unfold Session.nextGame
    rw [hr]
    rfl
  have hboth {z : Session} {r : GamePos} (hc : z.cross = true) (hr : z.pos = some r) :
      z.nextGame = (z.forNextGame r.number false).atFrame ⟨r.number + 1, 1, z.home⟩ := by
    rw [← hnext hr, Bool.not_false, Bool.and_true]
    rfl
  have hlone {z : Session} {r : GamePos} (hr : z.pos = some r) :
      { z.nextGame with cross := false } = (z.forNextGame r.number true).atFrame ⟨r.number + 1, 1, z.home⟩ := by
    rw [← hnext hr, Bool.not_true, Bool.and_false]
  have hfirst := ht.first
  have hsecond := ht.second
  show (w.sessions.map (·.id)).Sublist _ ∧ w.session? x.id = _ ∧ w.session? y.id = _
  rw [show w = _ from hw]
  cases hxe : x.ends with
  | true =>
    rw [hxe] at hfirst
    cases hye : y.ends with
    | true =>
      rw [hye] at hsecond
      exact ⟨ht.ids, hfirst, hsecond⟩
    | false =>
      rw [hye] at hsecond
      refine ⟨(clearCross_ids y.id t) ▸ ht.ids, (clearCross_changesOnly y.id t x.id h.ids).trans hfirst, ?_⟩
      exact (clearCross_session? (id := y.id) (x := y.nextGame) hsecond).trans (congrArg some (hlone hq))
  | false =>
    rw [hxe] at hfirst
    cases hye : y.ends with
    | true =>
      rw [hye] at hsecond
      refine ⟨(clearCross_ids x.id t) ▸ ht.ids, ?_, (clearCross_changesOnly x.id t y.id h.ids.symm).trans hsecond⟩
      exact (clearCross_session? (id := x.id) (x := x.nextGame) hfirst).trans (congrArg some (hlone hp))
    | false =>
      rw [hye] at hsecond
      exact ⟨ht.ids, hfirst.trans (congrArg some (hboth hcx hp)), hsecond.trans (congrArg some (hboth hcy hq))⟩

/-- A selection and the turn start after it are one session's. -/
theorem selectFresh_startsOnly (id : Nat) (s : State) : s.changesOnly id (startTurns (selectFresh id s)) := fun j hj => by
  have hlist : (selectFresh id s).2 = [] ∨ (selectFresh id s).2 = [id] := by
    unfold selectFresh
    split
    · exact .inl rfl
    · split
      · exact .inr rfl
      · exact .inl rfl
      · split
        · exact .inl rfl
        · exact .inl rfl
  refine (startTurns_others (ids := (selectFresh id s).2) ?_ _).trans (selectFresh_changesOnly id s j hj)
  obtain h | h := hlist <;> simp [h, hj]

/-- Selections of a pair of which either session may have left. -/
theorem selectBoth_left (hs : s.calm) {e e' : Bool} (hne : x.id ≠ y.id)
    (hx : s.session? x.id = if e then none else some (x.atFrame p)) (hy : s.session? y.id = if e' then none else some (y.atFrame q))
    (hgx : ∀ b ∈ x.bowlers, b.game.isSome = true) (hgy : ∀ b ∈ y.bowlers, b.game.isSome = true) :
    let t := startTurns (selectBoth x.id y.id s)
    (t.session? x.id = if e then none else some (x.entered s.isArmed p)) ∧
      (t.session? y.id = if e' then none else some (y.entered s.isArmed q)) ∧ s.sameRows t := by
  cases e with
  | true =>
    have hsecond : selectBoth x.id y.id s = selectFresh y.id s := by
      simp only [selectBoth, selectFresh_missing (s := s) hx, List.nil_append]
    rw [hsecond]
    have hgone := (selectFresh_startsOnly y.id s x.id hne).trans hx
    cases e' with
    | true =>
      rw [selectFresh_missing (s := s) hy]
      exact ⟨hx, hy, .refl s⟩
    | false =>
      obtain ⟨hstarts, hrows⟩ := selectFresh_starts hs hy hgy
      exact ⟨hgone, hstarts, hrows⟩
  | false =>
    cases e' with
    | true =>
      have hfirst : selectBoth x.id y.id s = selectFresh x.id s := by
        have hgone : selectFresh y.id (selectFresh x.id s).1 = ((selectFresh x.id s).1, []) :=
          selectFresh_missing ((selectFresh_changesOnly x.id s y.id hne.symm).trans hy)
        simp only [selectBoth, hgone, List.append_nil]
      rw [hfirst]
      obtain ⟨hstarts, hrows⟩ := selectFresh_starts hs hx hgx
      exact ⟨hstarts, (selectFresh_startsOnly x.id s y.id hne.symm).trans hy, hrows⟩
    | false => exact selectBoth_starts hs hx hy hne hgx hgy

/-! ## The games archived at barrier 10 (R80, R135) -/

/-- The games of a session, as its run in the archive names them. -/
def Session.run (x : Session) : List (Nat × Bool × Nat) := (x.bowlers.filterMap (·.game)).map fun g => (x.id, true, g.number)

theorem gameEnd_archive (hx : s.session? x.id = some x) (h : s.store.archive.length + x.bowlers.length ≤ s.store.archiveCap) :
    ∃ new : List ArchivedGame, (gameEnd x.id s).store.archive = s.store.archive ++ new ∧
      new.map ArchivedGame.brief = x.run ∧ (gameEnd x.id s).store.archiveCap = s.store.archiveCap ∧ new.length ≤ x.bowlers.length := by
  have hstore : (gameEnd x.id s).store = (archiveAll x.id x.bowlers s).store := by
    simp only [gameEnd, hx]
    split <;> rfl
  obtain ⟨new, harchive, hbriefs, hcap⟩ := archiveAll_archive x.id h
  rw [hstore]
  refine ⟨new, harchive, hbriefs, hcap, ?_⟩
  rw [← List.length_map (f := ArchivedGame.brief), hbriefs, List.length_map]
  exact List.length_filterMap_le _ _

theorem gameEnds_archive (h : s.holdsPair x y)
    (hroom : s.store.archive.length + (x.bowlers.length + y.bowlers.length) ≤ s.store.archiveCap) :
    ∃ new : List ArchivedGame, (gameEnd y.id (gameEnd x.id s)).store.archive = s.store.archive ++ new ∧
      new.map ArchivedGame.brief = x.run ++ y.run := by
  obtain ⟨new, harchive, hbriefs, hcap, hlen⟩ := gameEnd_archive h.first (by omega)
  have hy : (gameEnd x.id s).session? y.id = some y := (gameEnd_changesOnly x.id s y.id h.ids.symm).trans h.second
  obtain ⟨new', harchive', hbriefs', -⟩ := gameEnd_archive hy (by rw [harchive, hcap, List.length_append]; omega)
  exact ⟨new ++ new', by rw [harchive', harchive, List.append_assoc], by rw [List.map_append, hbriefs, hbriefs']⟩

/-- The games of the pair are archived in two runs, of which either comes first (R135). -/
theorem bothGameEnds_archive (h : s.holdsPair x y)
    (hroom : s.store.archive.length + (x.bowlers.length + y.bowlers.length) ≤ s.store.archiveCap) :
    ∃ new : List ArchivedGame, (bothGameEnds x.id y.id s).store.archive = s.store.archive ++ new ∧
      (new.map ArchivedGame.brief = x.run ++ y.run ∨ new.map ArchivedGame.brief = y.run ++ x.run) := by
  let v : State := s.setFree (s.free + 1)
  have hv : v.holdsPair x y := h.of_sessions rfl
  have hstore : (bothGameEnds x.id y.id s).store = (gameEnd y.id (gameEnd x.id v)).store ∨
      (bothGameEnds x.id y.id s).store = (gameEnd x.id (gameEnd y.id v)).store := by
    have hends : (bothGameEnds x.id y.id s).store = (if Config.freeRunFirst s.free then gameEnd y.id (gameEnd x.id v)
        else gameEnd x.id (gameEnd y.id v)).store := by
      unfold bothGameEnds
      dsimp only
      split <;> simp [v]
    rw [hends]
    split
    · exact .inl rfl
    · exact .inr rfl
  obtain hfirst | hsecond := hstore
  · rw [hfirst]
    obtain ⟨new, harchive, hbriefs⟩ := gameEnds_archive hv hroom
    exact ⟨new, harchive, .inl hbriefs⟩
  · rw [hsecond]
    obtain ⟨new, harchive, hbriefs⟩ := gameEnds_archive hv.symm (by rw [Nat.add_comm y.bowlers.length]; exact hroom)
    exact ⟨new, harchive, .inr hbriefs⟩

/-! ## The pair at barrier 10 -/

/-- What barrier 10 leaves of the pair: which sessions, and in which game. -/
structure State.gamesPass (s t : State) (x y : Session) (n : Nat) : Prop where
  ids : (t.sessions.map (·.id)).Sublist (s.sessions.map (·.id))
  first : t.session? x.id =
    if x.ends then none else some ((x.forNextGame n y.ends).entered s.isArmed ⟨n + 1, 1, x.home⟩)
  second : t.session? y.id =
    if y.ends then none else some ((y.forNextGame n x.ends).entered s.isArmed ⟨n + 1, 1, y.home⟩)
  archive : s.store.archive.length + (x.bowlers.length + y.bowlers.length) ≤ s.store.archiveCap →
    ∃ new : List ArchivedGame, t.store.archive = s.store.archive ++ new ∧
      (new.map ArchivedGame.brief = x.run ++ y.run ∨ new.map ArchivedGame.brief = y.run ++ x.run)

theorem State.gamesPass.symm {n : Nat} (h : s.gamesPass t x y n) : s.gamesPass t y x n where
  ids := h.ids
  first := h.second
  second := h.first
  archive hroom := by
    obtain ⟨new, harchive, hbriefs⟩ := h.archive (by rw [Nat.add_comm x.bowlers.length]; exact hroom)
    exact ⟨new, harchive, hbriefs.symm⟩

theorem passBarrier_gamesPass (hs : s.calm) (h : s.holdsPair x y) (hcx : x.cross = true) (hcy : y.cross = true)
    (hp : x.pos = some p) (hq : y.pos = some q) (hn : q.number = p.number) :
    s.gamesPass (startTurns (passBarrier x y (.frame 10) s)) x y p.number := by
  obtain ⟨hids, hfirst, hsecond⟩ := bothGameEnds_left h hcx hcy hp hq
  obtain ⟨hplayed, hcalm⟩ := bothGameEnds_playsOn x.id y.id s hs
  rw [hn] at hsecond
  obtain ⟨hfst, hsnd, hrows⟩ := selectBoth_left (x := x.forNextGame p.number y.ends) (y := y.forNextGame p.number x.ends) hcalm
    h.ids hfirst hsecond (x.forNextGame_games _ _) (y.forNextGame_games _ _)
  rw [hplayed.isArmed] at hfst hsnd
  refine ⟨hrows.ids ▸ hids, hfst, hsnd, fun hroom => ?_⟩
  obtain ⟨new, harchive, hbriefs⟩ := bothGameEnds_archive h hroom
  exact ⟨new, (congrArg Store.archive hrows.store).trans harchive, hbriefs⟩

/-- The pair ends its games at barrier 10 (R78, R80). -/
theorem barrierTest_gamesPass (hs : s.calm) (h : s.holdsPair x y) (hcx : x.cross = true) (hcy : y.cross = true)
    (hp : x.pos = some p) (hq : y.pos = some q) (hn : q.number = p.number) (hx : x.state = .waitPartner (.frame 10))
    (hy : y.state = .waitPartner (.frame 10)) (hidle : (x.allAbsent && y.allAbsent) = false) :
    s.gamesPass (startTurns (barrierTest x.id s)) x y p.number := by
  rw [barrierTest_passes h hx hy (.inr hidle)]
  split
  · exact passBarrier_gamesPass hs h hcx hcy hp hq hn
  · exact hn ▸ (passBarrier_gamesPass hs h.symm hcy hcx hq hp hn.symm).symm

end

end Sys2Proof.Machine
end

section
/-! SUPPORT. The requests that lead a crossed pair on, or un-cross a session, on lanes that do not charge: BEGIN, SET_ABSENT,
END_SESSION and RESUME_PARKED (R70, R72, R73, R78, R79, R165). -/

namespace Sys2Proof.Machine

section
variable {s t u v : State} {m : Msg} {n n0 : ReqName} {r : Result} {d : ReplyData} {x y z : Session} {p q : GamePos} {id : Nat}
  {js : List Nat}

/-! ## A request after whose reply the station plays on -/

/-- An owner's answer is queued, and nothing of what follows loses it. -/
theorem replied_playedOn (h : s.reaches m n0) (hr : s.room 1) (hp : (s.replied m n r d).playedOn t) :
    beginTx t = t ∧ s.acked t ∧
      t = { s with
        link := t.link, seqs := t.seqs, meters := t.meters, sessions := t.sessions, store := t.store, free := t.free } ∧
      (∀ k, t.seq k = { s.seq k with foul := (t.seq k).foul } ∧ t.meter k = { s.meter k with wait := (t.meter k).wait }) ∧
      t.queued m.sender.toNat (firstReply m n r d) := by
  have hacked : s.acked t := (State.replied_acked (n := n) (r := r) (d := d) h hr).of_line hp.line
  refine ⟨beginTx_busy hacked.lineIdle, hacked, ?_, ?_, hp.frames _ _ (by simp [firstReply, Payload.cls])
    (State.replied_queued h hr)⟩
  · have hframe := hp.frame
    rw [s.replied_eq] at hframe
    exact hframe
  · have hlanes := hp.lanes
    rw [s.replied_eq] at hlanes
    exact hlanes

theorem State.calm.replied (hs : s.calm) : (s.replied m n r d).calm := by
  rw [s.replied_eq]
  exact ⟨hs.free, hs.settled⟩

theorem State.holdsPair.replied (h : s.holdsPair x y) : (s.replied m n r d).holdsPair x y :=
  h.of_sessions (by rw [s.replied_eq])

theorem State.isArmed_replied : (s.replied m n r d).isArmed = s.isArmed := by
  rw [s.replied_eq]
  rfl

/-! ## BEGIN of the second session (R70, R78) -/

theorem beginSession_pair (hs : s.calm) (h : s.holdsPair x y) (hcross : x.cross = true) (hy : y.state = .waitPartner .start) :
    s.playsOn (beginSession x s) ∧ s.bothBecome (beginSession x s) x y (x.begun s.isArmed 1) (y.begun s.isArmed 1) := by
  let x' : Session := { x with state := .waitPartner .start, turn := .none }
  have hput : s.playsOn (putSession x' s) := putSession_playsOn fun _ => by simp [x']
  have hbegin : beginSession x s = startTurns (barrierTest x'.id (putSession x' s)) := if_pos hcross
  rw [hbegin]
  refine ⟨(hput.trans (barrierTest_playsOn _ _)).trans (startTurns_playsOn _), ?_⟩
  have hboth := barrierTest_start_begins (hput hs).2 (h.put (x' := x') rfl rfl) rfl hy
  exact ⟨hboth.first, hboth.second, (putSession_sameRows x' s).trans hboth.rows⟩

/-! ## SET_ABSENT of a session that waits (R72) -/

/-- The bowler who is back is present. -/
theorem Session.modifyBowler_present {i : Nat} (h : x.bowler? i ≠ none) :
    (x.modifyBowler i fun b => { b with absent := false }).allAbsent = false := by
  obtain ⟨b, hb⟩ := Option.ne_none_iff_exists'.1 h
  unfold Session.bowler? at hb
  split at hb
  · cases hb
  · rename_i hi
    refine List.all_eq_false.2 ⟨{ b with absent := false }, ?_, by simp⟩
    simp only [Session.modifyBowler, if_neg hi]
    refine List.mem_of_getElem? (i := i - 1) ?_
    rw [List.getElem?_modify_eq, hb]
    rfl

/-- A session back at its barrier makes the test again. -/
theorem presentAgain_waits {b : Barrier} (hx : x.state = .waitPartner b) (s : State) :
    presentAgain x s = startTurns (barrierTest x.id s) := by
  simp only [presentAgain, hx]

/-! ## An un-crossing (R79) -/

theorem Session.uncrossing.comesTo (h : y.uncrossing z js) : z.id = y.id ∧ z.comesTo js y.uncrossed := by
  obtain ⟨hid, hstays | ⟨rfl, p, -, ha, hF⟩⟩ := h
  · exact ⟨hid, .inl hstays⟩
  · exact ⟨hid, .inr ⟨by rw [hid], p, ha, hF⟩⟩

theorem sessions_single (h : t.sessions.map (·.id) = [id]) (hz : t.session? id = some z) : t.sessions = [z] := by
  have htable := table_of_ids (xs := t.sessions) (ids := [id]) (h ▸ List.Sublist.refl _) (by simp)
  rwa [List.filterMap_cons, show t.sessions.find? (·.id == id) = some z from hz] at htable

/-- The one session of the table is un-crossed, and its turn starts. -/
theorem uncross_starts (hs : s.calm) (hy : s.sessions = [y]) (hgames : y.pos ≠ none → ∀ b ∈ y.bowlers, b.game.isSome = true)
    (hwait : ∀ b, y.state = .waitPartner b → b ≠ .frame 10 ∧ (b ≠ .start → y.pos ≠ none)) :
    (startTurns (uncross y.id s)).sessions = [y.uncrossed s.isArmed] ∧ s.sameRows (startTurns (uncross y.id s)) := by
  obtain ⟨z, ids, huncross, hz⟩ := uncross_uncrossing (session?_alone hy) hgames hwait
  obtain ⟨hid, hcomes⟩ := hz.comesTo
  obtain ⟨hplayed, hcalm⟩ := uncross_playsOn y.id s hs
  rw [huncross] at hplayed hcalm ⊢
  have hput : (putSession z s).session? z.id = some z := session?_putSession (x := y) (by rw [hid]; exact session?_alone hy)
  have hrows := (putSession_sameRows z s).trans (startTurns_sameRows hcalm ids)
  have hstarts := hcomes.starts hcalm hput (by obtain rfl | rfl := hcomes.own <;> simp) Iff.rfl
  rw [hid] at hstarts
  refine ⟨sessions_single (by rw [hrows.ids, hy]; rfl) (hstarts.trans ?_), hrows⟩
  rw [hplayed.isArmed]

/-! ## END_SESSION (R73) -/

theorem handOverAll_eq (id : Nat) (bs : List Bowler) (s : State) :
    handOverAll id bs s = { s with store := { s.store with
      archive := (handOverAll id bs s).store.archive, nextSerial := (handOverAll id bs s).store.nextSerial } } := by
  unfold handOverAll
  induction bs generalizing s with
  | nil => rfl
  | cons b bs ih =>
    have hone : handOver id b s = { s with store := { s.store with
        archive := (handOver id b s).store.archive, nextSerial := (handOver id b s).store.nextSerial } } := by
      unfold handOver
      split
      · rfl
      · split
        · rfl
        · split
          · rfl
          · rfl
    rw [List.foldl_cons]
    let v : State := bs.foldl (fun s b => handOver id b s) (handOver id b s)
    exact (ih (handOver id b s)).trans (congrArg (fun u : State => { u with store := { u.store with
      archive := v.store.archive, nextSerial := v.store.nextSerial } }) hone)

theorem takeOut_playsOn (x : Session) (s : State) : s.playsOn (takeOut x s) := by
  refine State.playsOn.trans (t := handOverAll x.id x.bowlers s) ?_ (dropSession_playsOn x.id _)
  rw [handOverAll_eq]
  exact fun hs => ⟨⟨rfl, fun _ => ⟨rfl, rfl⟩, rfl, fun _ _ _ hq => hq⟩, hs.free, hs.settled⟩

theorem State.holdsPair.takeOut (h : s.holdsPair x y) : (takeOut x s).sessions = [y] := by
  show (handOverAll x.id x.bowlers s).sessions.filter _ = _
  rw [(handOverAll_frame s x.id x.bowlers).2.2.2.2.1]
  obtain hs | hs := h.table <;> simp [hs, h.ids.symm]

/-- A session of the pair is ended, and its partner goes on alone (R73, R79). -/
theorem removeSession_pair (hs : s.calm) (h : s.holdsPair x y) (hcross : y.cross = true) (hparked : y.state ≠ .parked)
    (hturn : x.turn ≠ .outstanding) (hgames : y.pos ≠ none → ∀ b ∈ y.bowlers, b.game.isSome = true)
    (hwait : ∀ b, y.state = .waitPartner b → b ≠ .frame 10 ∧ (b ≠ .start → y.pos ≠ none)) :
    let t := removeSession x.id s
    s.playsOn t ∧ t.sessions = [y.uncrossed s.isArmed] ∧ t.free = s.free ∧
      t.store = { s.store with archive := t.store.archive, nextSerial := t.store.nextSerial } := by
  have hpartner : (s.partner? x).filter (·.cross) = some y := by simp [h.partner hparked, hcross]
  have htold : withdrawTurn x (takeOut x s) = takeOut x s := by
    unfold withdrawTurn
    split
    · exact absurd ‹_› hturn
    · rfl
  have hremove : removeSession x.id s = startTurns (uncross y.id (takeOut x s)) := by
    simp only [removeSession, h.first, hpartner, htold]
  obtain ⟨hplayed, hcalm⟩ := takeOut_playsOn x s hs
  obtain ⟨hsessions, hrows⟩ := uncross_starts hcalm h.takeOut hgames hwait
  have hstore : (takeOut x s).store = { s.store with
      archive := (takeOut x s).store.archive, nextSerial := (takeOut x s).store.nextSerial } := by
    show (handOverAll x.id x.bowlers s).store = _
    conv_lhs => rw [handOverAll_eq]
    rfl
  rw [hremove]
  refine ⟨((takeOut_playsOn x s).trans (uncross_playsOn _ _)).trans (startTurns_playsOn _), ?_, ?_, ?_⟩
  · rw [hsessions, hplayed.isArmed]
  · rw [hrows.free]
    exact (handOverAll_frame s x.id x.bowlers).2.2.2.2.2.2.2.2.2.2.2.2.2
  · rw [hrows.store]
    exact hstore

/-! ## RESUME_PARKED (R165) -/

/-- The record of a parked session as it plays on at its home lane (R165). -/
def Session.unparked (x : Session) : Session :=
  { x with state := .playing, pos := x.pos.map fun p => ({ p with lane := x.home } : GamePos) }

/-- A parked session plays on, and the other one is un-crossed (R79, R165). -/
theorem resumeParked_pair (hs : s.calm) (h : s.holdsPair x y) (hcross : y.cross = true) (hparked : y.state ≠ .parked)
    (hgames : y.pos ≠ none → ∀ b ∈ y.bowlers, b.game.isSome = true)
    (hwait : ∀ b, y.state = .waitPartner b → b ≠ .frame 10 ∧ (b ≠ .start → y.pos ≠ none))
    (harmed : s.isArmed x.home = false) (hchosen : x.unparked.choose.2 = .chosen) :
    s.playsOn (resumeParked x s) ∧ s.bothBecome (resumeParked x s) x y x.unparked.choose.1 (y.uncrossed s.isArmed) := by
  let x' := x.unparked.choose.1
  obtain ⟨hid, hhome, -, hstate, hpos⟩ := x.unparked.choose_playsOn.kept
  have hx : (putSession x.unparked s).session? x.id = some x.unparked := (h.put (x' := x.unparked) rfl rfl).first
  have hselect : selectTurn x.id (putSession x.unparked s) = (putSession x' s, [x.id]) := by
    rw [selectTurn_chosen hx (Prod.ext rfl hchosen : x.unparked.choose = (x', .chosen)), putSession_twice (y := x') hid.symm]
  have hpair : (putSession x' s).holdsPair x' y := h.put hid hhome
  have hother : y.home = other x.home := h.other
  have hfind : (putSession x' s).sessions.find? (fun z => z.id != x.id && z.cross && z.occupies (other x.home)) = some y := by
    obtain ht | ht := hpair.table <;> rw [ht] <;>
      simp [show x'.id = x.id from hid, h.ids.symm, hcross, Session.occupies, hother, hparked]
  obtain ⟨z, js, huncross, hz⟩ := uncross_uncrossing hpair.second hgames hwait
  obtain ⟨hzid, hcomes⟩ := hz.comesTo
  have hresume : resumeParked x s = startTurns (putSession z (putSession x' s), [x.id] ++ js) := by
    unfold resumeParked
    dsimp only
    rw [show selectTurn x.id (putSession { x with state := .playing, pos := x.pos.map _ } s) = _ from hselect]
    dsimp only
    rw [hfind]
    dsimp only
    rw [huncross]
  have hplays : s.playsOn (putSession z (putSession x' s)) := by
    have huncrossed := uncross_playsOn y.id (putSession x' s)
    rw [huncross] at huncrossed
    exact (putSession_playsOn fun _ => by rw [hstate]; simp [Session.unparked]).trans huncrossed
  obtain ⟨hplayed, hcalm⟩ := hplays hs
  have hxz : (putSession z (putSession x' s)).session? x.id = some x' := by
    rw [session?_putSession_other (by rw [hzid]; exact h.ids)]
    exact hid ▸ hpair.first
  have hzz : (putSession z (putSession x' s)).session? z.id = some z := session?_putSession (hzid ▸ hpair.second)
  have hlists : ([x.id] ++ js).Nodup ∧ (z.id ∈ [x.id] ++ js ↔ z.id ∈ js) := by
    obtain rfl | rfl := hcomes.own <;> simp [hzid, h.ids, h.ids.symm]
  have hlane (p : GamePos) (hp : x'.pos = some p) : (putSession z (putSession x' s)).isArmed p.lane = false := by
    rw [hplayed.isArmed]
    obtain ⟨q, -, rfl⟩ := Option.map_eq_some_iff.1 (hpos.symm.trans hp : x.unparked.pos = some p)
    exact harmed
  have hstarts := hcomes.starts hcalm hzz hlists.1 hlists.2
  rw [hzid, hplayed.isArmed] at hstarts
  rw [hresume]
  exact ⟨hplays.trans (startTurns_playsOn (_, [x.id] ++ js)), startTurns_still hcalm hxz hlane _, hstarts,
    ((putSession_sameRows x' s).trans (putSession_sameRows z _)).trans (startTurns_sameRows hcalm _)⟩

end

end Sys2Proof.Machine
end

section
/-! SUPPORT. A turn that ended on a lane that enters ARMED, of a crossed pair (R76 to R80). -/

namespace Sys2Proof.Machine

section
variable {s t u v : State} {x y z : Session} {p q : GamePos} {l : LaneId} {id n : Nat} {c : Cycle} {pend : Option PendingReq}
  {k : Link}

/-! ## The event (R7) -/

theorem setDone_arms (h : s.cycleArms l) :
    ∃ c pend k, k.line = s.link.line ∧ exec (.setDone l) s = .next (beginTx (armedReport l (s.cycleEnded l c pend k))) := by
  obtain ⟨hrun, hset, hopen, hmode, c, hc, hfree⟩ := h
  obtain ⟨pend, k, hline, -, hends⟩ := cycleEnds_arms hopen hmode hc hfree
  exact ⟨c, pend, k, hline, (exec_setDone hrun hset).trans (by rw [hends])⟩

theorem cycleEnded_seq (s : State) (l : LaneId) (c : Cycle) (pend : Option PendingReq) (k : Link) (i : LaneId) :
    (s.cycleEnded l c pend k).seq i =
      if i = l then { s.seq l with cycle := none, timer := none, state := .armed, pend := pend } else s.seq i :=
  Pair.get_set _ _ _ _

theorem cycleEnded_isArmed (s : State) (l : LaneId) (c : Cycle) (pend : Option PendingReq) (k : Link) :
    (s.cycleEnded l c pend k).isArmed = fun i => i == l || decide ((s.seq i).state = .armed) := by
  funext i
  unfold State.isArmed
  rw [cycleEnded_seq]
  by_cases hi : i = l <;> simp [hi]

theorem State.calm.cycleEnded (h : s.calm) : (s.cycleEnded l c pend k).calm := ⟨h.free, h.settled⟩

/-- What a SET_DONE leaves of a calm station, whoever plays on. -/
theorem setDone_playedOn (hp : (s.cycleEnded l c pend k).playedOn t) (hk : k.line = s.link.line) :
    let t' := beginTx t
    s.sameStarts t' ∧ s.sameLine t' ∧
      t' = { s with
        seqs := t'.seqs, decks := s.decks.set l (t'.deck l), meters := t'.meters, sessions := t'.sessions, store := t'.store
        free := t'.free, link := t'.link, spacing := t'.spacing } ∧
      (t'.seq l).state = .armed ∧ (∀ i, i ≠ l → t'.seq i = { s.seq i with foul := (t'.seq i).foul }) ∧
      ∀ i, t'.meter i = { s.meter i with wait := (t'.meter i).wait } := by
  intro t'
  have hseq (i : LaneId) : t'.seq i = t.seq i := by simp [t', State.seq]
  have hmeter (i : LaneId) : t'.meter i = t.meter i := by simp [t', State.meter]
  have hlanes (i : LaneId) := (hp.lanes i).1
  simp only [cycleEnded_seq] at hlanes
  refine ⟨sameStarts_beginTx (by rw [hp.frame]; rfl), sameLine_beginTx (hp.line.trans hk), ?_, ?_, fun i hi => ?_, fun i => ?_⟩
  · have hdeck : t'.deck l = { s.deck l with rack := c.kind.rack } := by
      have hsame : t'.deck l = t.deck l := by simp [t', State.deck]
      rw [hsame, hp.frame]
      exact Pair.get_set_same _ _ _
    have hfields : t'.seqs = t.seqs ∧ t'.meters = t.meters ∧ t'.sessions = t.sessions ∧ t'.store = t.store ∧
        t'.free = t.free := by simp [t']
    obtain ⟨h1, h2, h3, h4, h5⟩ := hfields
    rw [hdeck, h1, h2, h3, h4, h5]
    exact (beginTx_eq t).trans (congrArg (fun w : State => { w with spacing := t'.spacing, link := t'.link }) hp.frame)
  · rw [hseq, hlanes, if_pos rfl]
  · rw [hseq]
    have hi' := hlanes i
    rwa [if_neg hi] at hi'
  · rw [hmeter]
    exact (hp.lanes i).2

/-! ## The sessions of the pair -/

/-- An entry into ARMED of the lane has nothing to do for the session (R76, R81). -/
def Session.rests (l : LaneId) (x : Session) : Prop :=
  x.frameLane = some l → x.state = .playing ∨ x.state = .waitMove → x.turn ≠ .ended ∧ x.turn ≠ .outstanding

theorem Session.rests.of_state (h : x.state ≠ .playing) (h' : x.state ≠ .waitMove) : x.rests l := fun _ hs =>
  absurd hs (by simp [h, h'])

theorem Session.entered_rests {armed : LaneId → Bool} (ha : armed l = true) : (z.entered armed p).rests l := by
  intro hlane _
  unfold Session.entered at hlane ⊢
  dsimp only at hlane ⊢
  split
  · rename_i hj
    rw [if_pos hj] at hlane
    obtain rfl : p.lane = l := Option.some.inj hlane
    simp [ha]
  · split <;> simp

theorem armedTurn_rests (h : ∀ z, v.session? id = some z → z.rests l) : armedTurn l v id = v := by
  unfold armedTurn
  split
  · rfl
  · rename_i z hz
    split
    · rename_i hlane
      have hrest := h z hz hlane
      split
      · exact absurd ‹z.turn = .ended› (hrest (.inl ‹_›)).1
      · exact absurd ‹z.turn = .ended› (hrest (.inr ‹_›)).1
      · exact absurd ‹z.turn = .outstanding› (hrest (.inl ‹_›)).2
      · rfl
    · rfl

/-- The record of a cross session that has come to the barrier of the frame of p, everyone left passed over (R76, R77). -/
def Session.atBarrier (p : GamePos) (x : Session) : Session :=
  { x with
    bowlers := blanks p.frame (x.current.getD 0) x.bowlers.length x.bowlers, turn := .none
    state := .waitPartner (.frame p.frame) }

theorem armedTurn_atBarrier (hx : u.session? x.id = some x) (hcross : x.cross = true) (hstate : x.state = .playing)
    (hturn : x.turn = .ended) (hp : x.pos = some p) (hl : p.lane = l)
    (habsent : ¬ firstPresent (x.current.getD 0) x.bowlers < x.bowlers.length) :
    armedTurn l u x.id = startTurns (barrierTest x.id (putSession (x.atBarrier p) u)) := by
  let x' : Session := { x with turn := .none }
  have hx' : (putSession x' u).session? x.id = some x' := session?_putSession (y := x') hx
  have hchoose : x'.choose = (x'.frameDone p, .finished) := Session.choose_finished hp habsent (.inl hcross)
  have hframe : ((x'.frameDone p).pos.map (·.frame)).getD 1 = p.frame := by
    show (x.pos.map (·.frame)).getD 1 = _
    rw [hp]
    rfl
  have hselect : selectTurn x.id (putSession x' u) = barrierTest x.id (putSession (x.atBarrier p) u) := by
    simp only [selectTurn, hx', hchoose, hframe]
    rw [if_pos (show (x'.frameDone p).cross = true from hcross)]
    exact congrArg (barrierTest x.id) (putSession_twice (x := x') (y := x.atBarrier p) rfl u)
  rw [armedTurn_ended hx (by simp [Session.frameLane, hp, hl]) hstate hturn]
  exact congrArg startTurns hselect

/-- The entry into ARMED brings the session to its barrier, whatever comes of it for the pair (R76, R77, R78). -/
theorem armedReport_atBarrier (h : u.holdsPair x y) (hcross : x.cross = true) (hstate : x.state = .playing)
    (hturn : x.turn = .ended) (hp : x.pos = some p) (hl : p.lane = l)
    (habsent : ¬ firstPresent (x.current.getD 0) x.bowlers < x.bowlers.length) (hy : ∀ r, y.state ≠ .suspended r)
    (hrest : y.rests l)
    (hafter : ∀ z, (startTurns (barrierTest x.id (putSession (x.atBarrier p) u))).session? y.id = some z → z.rests l) :
    armedReport l u = startTurns (barrierTest x.id (putSession (x.atBarrier p) u)) := by
  have hnone : ∀ z ∈ u.sessions, ∀ r, z.state ≠ .suspended r := by
    obtain ht | ht := h.table <;> simp [ht, hstate, hy]
  have hfirst := armedTurn_atBarrier h.first hcross hstate hturn hp hl habsent
  have hbefore : armedTurn l u y.id = u := armedTurn_rests fun z hz => by
    cases h.second.symm.trans hz
    exact hrest
  unfold armedReport
  rw [resumeOn_none hnone]
  show (u.sessions.map (·.id)).foldl (armedTurn l) u = _
  obtain ht | ht := h.table
  · rw [ht]
    show armedTurn l (armedTurn l u x.id) y.id = _
    rw [hfirst]
    exact armedTurn_rests hafter
  · rw [ht]
    show armedTurn l (armedTurn l u y.id) x.id = _
    rw [hbefore, hfirst]

/-! ## Records at a barrier -/

theorem Session.allAbsent_congr (h : y.bowlers.map (·.absent) = x.bowlers.map (·.absent)) : y.allAbsent = x.allAbsent := by
  have hall (z : Session) : z.allAbsent = (z.bowlers.map (·.absent)).all (fun a => a) := by
    rw [List.all_map]
    rfl
  rw [hall, hall, h]

theorem Session.atBarrier_allAbsent (x : Session) (p : GamePos) : (x.atBarrier p).allAbsent = x.allAbsent :=
  Session.allAbsent_congr (blanks_absent _ _ _ _)

theorem Session.not_allAbsent (h : firstPresent 0 x.bowlers < x.bowlers.length) : x.allAbsent = false := by
  unfold firstPresent at h
  rw [Nat.zero_add, List.drop_zero] at h
  obtain ⟨b, hb, hpresent⟩ := List.findIdx_lt_length.1 h
  exact List.all_eq_false.2 ⟨b, hb, by simpa using hpresent⟩

theorem Session.ends_iff (hp : x.pos = some p) : x.ends = true ↔ (x.limit ≠ 0 ∧ x.limit ≤ p.number) ∨ 99 ≤ p.number := by
  unfold Session.ends
  rw [hp]
  exact x.atLimit_iff p.number

/-- Whoever was passed over in frame 10 starts the next game. -/
theorem Session.atBarrier_forNextGame (x : Session) (p : GamePos) (n : Nat) (alone : Bool) (armed : LaneId → Bool) :
    ((x.atBarrier p).forNextGame n alone).entered armed q = (x.forNextGame n alone).entered armed q := by
  have hbowlers : ((x.atBarrier p).forNextGame n alone).bowlers = (x.forNextGame n alone).bowlers := by
    show ((blanks _ _ _ x.bowlers).map _).map _ = (x.bowlers.map _).map _
    rw [List.map_map, List.map_map]
    exact blanks_map _ (fun _ => rfl) _ _ _
  unfold Session.entered
  rw [hbowlers]
  rfl

theorem Session.forNextGame_pair (hc : x.cross = true) (n : Nat) (armed : LaneId → Bool) :
    (x.forNextGame n false).entered armed ⟨n + 1, 1, x.home⟩ = x.countGames.begun armed (n + 1) := by
  have hsame : x.forNextGame n false = x.countGames.withGames (n + 1) := by
    unfold Session.forNextGame
    rw [hc]
    exact congrArg (fun b => ({ x.countGames.withGames (n + 1) with cross := b } : Session)) hc.symm
  rw [hsame]
  rfl

theorem Session.forNextGame_alone (hj : firstPresent 0 x.bowlers < x.bowlers.length) (n : Nat) (armed : LaneId → Bool) :
    (x.forNextGame n true).entered armed ⟨n + 1, 1, x.home⟩ = { x.countGames.begun armed (n + 1) with cross := false } := by
  have hbowlers : (x.countGames.withGames (n + 1)).bowlers.map (·.absent) = x.bowlers.map (·.absent) := by
    show ((x.bowlers.map _).map _).map _ = _
    rw [List.map_map, List.map_map]
    rfl
  have hlt : firstPresent 0 (x.countGames.withGames (n + 1)).bowlers < (x.countGames.withGames (n + 1)).bowlers.length := by
    rw [firstPresent_congr hbowlers 0, ← List.length_map (f := (·.absent)), hbowlers, List.length_map]
    exact hj
  have hlt' : firstPresent 0 (x.forNextGame n true).bowlers < (x.forNextGame n true).bowlers.length := hlt
  unfold Session.begun Session.entered
  dsimp only
  rw [if_pos hlt, if_pos hlt']
  unfold Session.forNextGame
  rw [Bool.not_true, Bool.and_false]
  rfl

theorem games_numbered {α : Type} (F : Nat → α) {bs : List Bowler} (hgames : ∀ b ∈ bs, b.game.isSome = true)
    (hn : ∀ b ∈ bs, ∀ g ∈ b.game, g.number = n) :
    (bs.filterMap (·.game)).map (fun g => F g.number) = bs.map fun _ => F n := by
  induction bs with
  | nil => rfl
  | cons b bs ih =>
    obtain ⟨hb, hbs⟩ := List.forall_mem_cons.1 hgames
    obtain ⟨hnb, hnbs⟩ := List.forall_mem_cons.1 hn
    obtain ⟨g, hg⟩ := Option.isSome_iff_exists.1 hb
    rw [List.filterMap_cons_some hg, List.map_cons, List.map_cons, ih hbs hnbs, hnb g hg]

/-- The run of a session whose bowlers all play the game with one number. -/
theorem Session.run_eq (hgames : ∀ b ∈ x.bowlers, b.game.isSome = true) (hn : ∀ b ∈ x.bowlers, ∀ g ∈ b.game, g.number = n) :
    x.run = x.bowlers.map fun _ => (x.id, true, n) := games_numbered (fun i => (x.id, true, i)) hgames hn

theorem Session.atBarrier_run (x : Session) (p : GamePos) : (x.atBarrier p).run = x.run :=
  blanks_numbers (fun n => (x.id, true, n)) _ _ _ _

end

end Sys2Proof.Machine
end

section
/-! SUPPORT. The statement about barriers and un-crossings (R78, R79), on lanes that do not charge. -/

namespace Sys2Proof.Machine

section
variable {s u : State} {x y : Session} {p q : GamePos} {l : LaneId} {m : Msg}

/-! ## The entry into ARMED after the last turn of a session (R76 to R80) -/

section
variable (hs : u.calm) (h : u.holdsPair x y) (hcx : x.cross = true) (hcy : y.cross = true) (hstate : x.state = .playing)
  (hturn : x.turn = .ended) (hp : x.pos = some p) (hl : p.lane = l)
  (habsent : ¬ firstPresent (x.current.getD 0) x.bowlers < x.bowlers.length)
include h hcx hstate hturn hp hl habsent

theorem armedReport_waits (hy : ∀ r, y.state ≠ .suspended r) (hrest : y.rests l)
    (hwait : y.state = .waitPartner (.frame p.frame) → (x.allAbsent && y.allAbsent) = true) :
    u.bothBecome (armedReport l u) x y (x.atBarrier p) y := by
  have hpair : (putSession (x.atBarrier p) u).holdsPair (x.atBarrier p) y := h.put rfl rfl
  have htest : barrierTest x.id (putSession (x.atBarrier p) u) = (putSession (x.atBarrier p) u, []) :=
    barrierTest_waits (x := x.atBarrier p) hpair rfl fun hw => by
      rw [x.atBarrier_allAbsent, hwait hw]
      simp
  have hreport := armedReport_atBarrier h hcx hstate hturn hp hl habsent hy hrest fun z hz => by
    rw [htest] at hz
    cases hpair.second.symm.trans hz
    exact hrest
  rw [hreport, htest]
  exact ⟨hpair.first, hpair.second, putSession_sameRows _ _⟩

include hs hcy

section
variable (harmed : u.isArmed l = true) (hy : y.state = .waitPartner (.frame p.frame)) (hq : y.pos = some q)
  (hidle : (x.allAbsent && y.allAbsent) = false)
include harmed hy hq hidle

theorem armedReport_enters (hgx : ∀ b ∈ x.bowlers, b.game.isSome = true) (hgy : ∀ b ∈ y.bowlers, b.game.isSome = true)
    (hframe : p.frame ≠ 10) :
    u.bothBecome (armedReport l u) x y
      ((x.atBarrier p).entered u.isArmed { p with frame := p.frame + 1, lane := x.crossLane (p.frame + 1) })
      (y.entered u.isArmed { q with frame := p.frame + 1, lane := y.crossLane (p.frame + 1) }) := by
  have hput := putSession_playsOn (s := u) (y := x.atBarrier p) fun _ => by simp [Session.atBarrier]
  have hboth := barrierTest_frame_enters (x := x.atBarrier p) (hput hs).2 (h.put rfl rfl) hcx hcy hp hq (blanks_games hgx) hgy
    hframe rfl hy (by rw [x.atBarrier_allAbsent, hidle])
  have hreport := armedReport_atBarrier h hcx hstate hturn hp hl habsent (by simp [hy]) (.of_state (by simp [hy]) (by simp [hy]))
    fun z hz => by
      cases hboth.second.symm.trans hz
      exact Session.entered_rests harmed
  rw [hreport]
  exact ⟨hboth.first, hboth.second, (putSession_sameRows (x.atBarrier p) u).trans hboth.rows⟩

theorem armedReport_gamesPass (hframe : p.frame = 10) (hn : q.number = p.number) :
    u.gamesPass (armedReport l u) x y p.number := by
  have hput := putSession_playsOn (s := u) (y := x.atBarrier p) fun _ => by simp [Session.atBarrier]
  have hpass := barrierTest_gamesPass (x := x.atBarrier p) (hput hs).2 (h.put rfl rfl) hcx hcy hp hq hn
    (by simp [Session.atBarrier, hframe]) (by rw [hy, hframe]) (by rw [x.atBarrier_allAbsent, hidle])
  have hreport := armedReport_atBarrier h hcx hstate hturn hp hl habsent (by simp [hy]) (.of_state (by simp [hy]) (by simp [hy]))
    fun z hz => by
      have hsecond := hpass.second.symm.trans hz
      split at hsecond
      · cases hsecond
      · cases hsecond
        exact Session.entered_rests harmed
  have hfirst := hpass.first
  rw [x.atBarrier_forNextGame] at hfirst
  have hids := hpass.ids
  rw [putSession_ids] at hids
  have harchive := hpass.archive
  rw [x.atBarrier_run, show (x.atBarrier p).bowlers.length = x.bowlers.length from blanks_length _ _ _ _] at harchive
  rw [hreport]
  exact ⟨hids, hfirst, hpass.second, harchive⟩

end

end

/-! ## What barrier 10 leaves of the table -/

section
variable {t : State} {n : Nat} (h : s.holdsPair x y) (ht : s.gamesPass t x y n)
include h ht

theorem gamesPass_both (hcx : x.cross = true) (hcy : y.cross = true) (hxe : x.ends = false) (hye : y.ends = false) :
    t.sessions = s.sessions.map fun z =>
      if z.id = x.id then x.countGames.begun s.isArmed (n + 1) else y.countGames.begun s.isArmed (n + 1) := by
  have hx := ht.first
  have hy := ht.second
  rw [hxe, hye, if_neg Bool.false_ne_true, Session.forNextGame_pair hcx] at hx
  rw [hxe, hye, if_neg Bool.false_ne_true, Session.forNextGame_pair hcy] at hy
  exact h.becomes ht.ids hx hy

theorem gamesPass_alone (hj : firstPresent 0 x.bowlers < x.bowlers.length) (hxe : x.ends = false) (hye : y.ends = true) :
    t.sessions = [{ x.countGames.begun s.isArmed (n + 1) with cross := false }] := by
  have hx := ht.first
  have hy := ht.second
  rw [hxe, hye, if_neg Bool.false_ne_true, Session.forNextGame_alone hj] at hx
  rw [hye, if_pos rfl] at hy
  exact h.leaves ht.ids hx hy

theorem gamesPass_none (hxe : x.ends = true) (hye : y.ends = true) : t.sessions = [] := by
  have hx := ht.first
  have hy := ht.second
  rw [hxe, if_pos rfl] at hx
  rw [hye, if_pos rfl] at hy
  exact h.empty ht.ids hx hy

/-- Which sessions of the pair go on, by their limits (R80). -/
theorem gamesPass_limits (hcx : x.cross = true) (hcy : y.cross = true) (hp : x.pos = some p) (hq : y.pos = some q)
    (hpn : p.number = n) (hqn : q.number = n) (hjx : firstPresent 0 x.bowlers < x.bowlers.length)
    (hjy : firstPresent 0 y.bowlers < y.bowlers.length) :
    let limit := fun z : Session => (z.limit ≠ 0 ∧ z.limit ≤ n) ∨ 99 ≤ n
    let next := fun z : Session => z.countGames.begun s.isArmed (n + 1)
    (¬ limit x → ¬ limit y → t.sessions = s.sessions.map fun z => if z.id = x.id then next x else next y) ∧
      (limit x → ¬ limit y → t.sessions = [{ next y with cross := false }]) ∧
      (¬ limit x → limit y → t.sessions = [{ next x with cross := false }]) ∧ (limit x → limit y → t.sessions = []) := by
  intro limit next
  have hends {z : Session} {r : GamePos} (hr : z.pos = some r) (hrn : r.number = n) : z.ends = true ↔ limit z := by
    rw [Session.ends_iff hr, hrn]
  have hgoes {z : Session} {r : GamePos} (hr : z.pos = some r) (hrn : r.number = n) (hz : ¬ limit z) : z.ends = false :=
    Bool.eq_false_iff.2 (mt (hends hr hrn).1 hz)
  exact ⟨fun hx hy => gamesPass_both h ht hcx hcy (hgoes hp hpn hx) (hgoes hq hqn hy),
    fun hx hy => gamesPass_alone h.symm ht.symm hjy (hgoes hq hqn hy) ((hends hp hpn).2 hx),
    fun hx hy => gamesPass_alone h ht hjx (hgoes hp hpn hx) ((hends hq hqn).2 hy),
    fun hx hy => gamesPass_none h ht ((hends hp hpn).2 hx) ((hends hq hqn).2 hy)⟩

omit h in
/-- The archive, when every bowler plays the game with the pair's number. -/
theorem gamesPass_archive (hgx : ∀ b ∈ x.bowlers, b.game.isSome = true) (hgy : ∀ b ∈ y.bowlers, b.game.isSome = true)
    (hn : ∀ b ∈ x.bowlers ++ y.bowlers, ∀ g ∈ b.game, g.number = n) :
    let runs := [x, y].map fun z => z.bowlers.map fun _ => (z.id, true, n)
    s.store.archive.length + runs.flatten.length ≤ s.store.archiveCap →
      ∃ new : List ArchivedGame, t.store.archive = s.store.archive ++ new ∧
        (new.map ArchivedGame.brief = runs.flatten ∨ new.map ArchivedGame.brief = runs.reverse.flatten) := by
  intro runs hroom
  have hruns : runs.flatten = x.run ++ y.run ∧ runs.reverse.flatten = y.run ++ x.run := by
    rw [Session.run_eq hgx fun b hb => hn b (List.mem_append_left _ hb),
      Session.run_eq hgy fun b hb => hn b (List.mem_append_right _ hb)]
    simp [runs]
  rw [hruns.1, hruns.2]
  exact ht.archive (by simpa [runs] using hroom)

end

/-! ## The requests -/

section
variable {n n0 : ReqName} {r : Result} {d : ReplyData} {x' y' : Session} {t : State}

/-- What a request leaves after whose reply both sessions come to new records. -/
theorem replied_bothBecome (hs : s.calm) (h : s.holdsPair x y) (hm : s.reaches m n0) (hr : s.room 1)
    (hp : (s.replied m n r d).playsOn t) (hb : (s.replied m n r d).bothBecome t x y x' y') :
    beginTx t = t ∧ s.acked t ∧
      t = { s with
        seqs := t.seqs, meters := t.meters, link := t.link
        sessions := s.sessions.map fun z => if z.id = x.id then x' else y' } ∧
      (∀ k, t.seq k = { s.seq k with foul := (t.seq k).foul } ∧ t.meter k = { s.meter k with wait := (t.meter k).wait }) ∧
      t.queued m.sender.toNat (firstReply m n r d) := by
  obtain ⟨hbusy, hacked, hframe, hlanes, hqueued⟩ := replied_playedOn hm hr (hp hs.replied).1
  have hsame : (s.replied m n r d).sessions = s.sessions ∧ (s.replied m n r d).store = s.store ∧
      (s.replied m n r d).free = s.free := by
    rw [s.replied_eq]
    exact ⟨rfl, rfl, rfl⟩
  obtain ⟨h1, h2, h3⟩ := hsame
  have hsessions := h.replied.becomes (by rw [hb.rows.ids]) hb.first hb.second
  rw [hb.rows.store, hb.rows.free, hsessions, h1, h2, h3] at hframe
  exact ⟨hbusy, hacked, hframe, hlanes, hqueued⟩

variable (hs : s.calm) (h : s.holdsPair x y)
include hs h

/-- BEGIN of the second session of the pair (R70, R78). -/
theorem beginSession_event (hm : s.reaches m .beginSession) (ha : parse1 m.args = some x.id)
    (hcx : x.cross = true) (hforming : x.state = .forming) (hfull : x.size ≤ x.bowlers.length)
    (hy : y.state = .waitPartner .start) :
    ∃ t, exec (.beginSession m) s = .next (beginTx t) ∧ (s.replied m .beginSession .done .none).playsOn t ∧
      (s.replied m .beginSession .done .none).bothBecome t x y (x.begun s.isArmed 1) (y.begun s.isArmed 1) := by
  obtain ⟨hplays, hboth⟩ := beginSession_pair (hs.replied (m := m) (n := .beginSession) (r := .done) (d := .none)) h.replied hcx hy
  rw [State.isArmed_replied] at hboth
  have hown : ownBeginSession m x.id (takeFrame m.dest s) = beginSession x (s.replied m .beginSession .done .none) :=
    ownBeginSession_taken (s := takeFrame m.dest s) h.first hforming hfull
  exact ⟨_, (exec_request (c := .beginSession m) rfl hm ha).trans (by rw [hown]), hplays, hboth⟩

/-- A bowler of a session that waits at its barrier is back, and the test is made again (R72, R78). -/
theorem setAbsent_event (hm : s.reaches m .setAbsent) {a : Nat × Nat × Nat} (ha : parse3 m.args = some a) (hid : a.1 = x.id)
    (hclear : a.2.2 = 0) (hb : x.bowler? a.2.1 ≠ none) {f : Nat} (hstate : x.state = .waitPartner (.frame f)) :
    let back := x.modifyBowler a.2.1 fun b => { b with absent := false }
    let v := putSession back (s.replied m .setAbsent .done .none)
    exec (.setAbsent m) s = .next (beginTx (startTurns (barrierTest x.id v))) ∧ v.calm ∧ v.holdsPair back y ∧
      (s.replied m .setAbsent .done .none).playsOn v ∧ back = { x with bowlers := back.bowlers } := by
  intro back v
  have heq : back = { x with bowlers := back.bowlers } := x.modifyBowler_eq _ _
  have hput : (s.replied m .setAbsent .done .none).playsOn v := putSession_playsOn fun _ => by rw [heq]; simp [hstate]
  have htest : bowlerTest (takeFrame m.dest s) a.1 a.2.1 = .ok x :=
    bowlerTest_taken (hid ▸ h.first) hb (by rw [hstate]; rfl)
  have hown : ownSetAbsent m a (takeFrame m.dest s) = startTurns (barrierTest x.id v) := by
    rw [ownSetAbsent_ok htest, if_neg (by simp [hclear])]
    exact presentAgain_waits hstate v
  exact ⟨(exec_request (c := .setAbsent m) rfl hm ha).trans (by rw [hown]), (hput hs.replied).2,
    h.replied.put (x' := back) (by rw [heq]) (by rw [heq]), hput, heq⟩

/-- The pair goes on, for the other session waits at the same barrier. -/
theorem setAbsent_passes (hm : s.reaches m .setAbsent) {a : Nat × Nat × Nat} (ha : parse3 m.args = some a) (hid : a.1 = x.id)
    (hclear : a.2.2 = 0) (hb : x.bowler? a.2.1 ≠ none) {f : Nat} (hf : f ≠ 10) (hstate : x.state = .waitPartner (.frame f))
    (hcx : x.cross = true) (hcy : y.cross = true) (hp : x.pos = some p) (hq : y.pos = some q)
    (hgx : ∀ b ∈ x.bowlers, b.game.isSome = true) (hgy : ∀ b ∈ y.bowlers, b.game.isSome = true)
    (hy : y.state = .waitPartner (.frame f)) :
    let back := x.modifyBowler a.2.1 fun b => { b with absent := false }
    ∃ t, exec (.setAbsent m) s = .next (beginTx t) ∧ (s.replied m .setAbsent .done .none).playsOn t ∧
      (s.replied m .setAbsent .done .none).bothBecome t x y
        (back.entered s.isArmed { p with frame := f + 1, lane := x.crossLane (f + 1) })
        (y.entered s.isArmed { q with frame := f + 1, lane := y.crossLane (f + 1) }) := by
  intro back
  obtain ⟨hexec, hcalm, hpair, hput, heq⟩ := setAbsent_event hs h hm ha hid hclear hb hstate
  have hbid : back.id = x.id := by rw [show back = _ from heq]
  have hlane : back.crossLane (f + 1) = x.crossLane (f + 1) := by rw [show back = _ from heq]; rfl
  have hgames (c : Bowler) (hc : c ∈ back.bowlers) : c.game.isSome = true := by
    obtain ⟨e, he, rfl | rfl⟩ := Session.modifyBowler_mem hc
    · exact hgx _ he
    · exact hgx e he
  have hboth := barrierTest_frame_enters hcalm hpair (by rw [heq]; exact hcx) hcy (by rw [heq]; exact hp) hq hgames hgy hf
    (by rw [heq]; exact hstate) hy (by rw [Session.modifyBowler_present hb, Bool.false_and])
  have harmed : (putSession back (s.replied m .setAbsent .done .none)).isArmed = s.isArmed := by
    rw [(hput hs.replied).1.isArmed, State.isArmed_replied]
  rw [show (x.modifyBowler a.2.1 fun b => { b with absent := false }) = back from rfl] at hboth hput
  rw [hbid, hlane, harmed] at hboth
  exact ⟨_, hexec, (hput.trans (barrierTest_playsOn _ _)).trans (startTurns_playsOn _),
    hbid ▸ hboth.first, hboth.second, (putSession_sameRows back _).trans hboth.rows⟩

/-- The session waits on. -/
theorem setAbsent_waits (hm : s.reaches m .setAbsent) {a : Nat × Nat × Nat} (ha : parse3 m.args = some a) (hid : a.1 = x.id)
    (hclear : a.2.2 = 0) (hb : x.bowler? a.2.1 ≠ none) {f : Nat} (hstate : x.state = .waitPartner (.frame f))
    (hy : y.state ≠ .waitPartner (.frame f)) :
    let back := x.modifyBowler a.2.1 fun b => { b with absent := false }
    ∃ t, exec (.setAbsent m) s = .next (beginTx t) ∧ (s.replied m .setAbsent .done .none).playsOn t ∧
      (s.replied m .setAbsent .done .none).bothBecome t x y back y := by
  intro back
  obtain ⟨hexec, -, hpair, hput, heq⟩ := setAbsent_event hs h hm ha hid hclear hb hstate
  have hbid : back.id = x.id := by rw [show back = _ from heq]
  have htest : barrierTest x.id (putSession back (s.replied m .setAbsent .done .none)) =
      (putSession back (s.replied m .setAbsent .done .none), []) :=
    hbid ▸ barrierTest_waits hpair ((congrArg Session.state heq).trans hstate) fun hw => absurd hw hy
  rw [show (x.modifyBowler a.2.1 fun b => { b with absent := false }) = back from rfl, htest] at hexec
  exact ⟨_, hexec, hput, hbid ▸ hpair.first, hpair.second, putSession_sameRows back _⟩

/-- RESUME_PARKED of a session, with the other one un-crossed (R79, R165). -/
theorem resumeParked_event (hm : s.reaches m .resumeParked) (ha : parse1 m.args = some x.id) (hstate : x.state = .parked)
    (hopen : (s.meter x.home).isOpen = true) (hfree : s.occupied x.home = false) (hreserved : s.reserved ≠ some x.home)
    (harmed : (s.seq x.home).state ≠ .armed) (hchosen : x.unparked.choose.2 = .chosen) (hcy : y.cross = true)
    (hparked : y.state ≠ .parked) (hgames : y.pos ≠ none → ∀ b ∈ y.bowlers, b.game.isSome = true)
    (hwait : ∀ b, y.state = .waitPartner b → b ≠ .frame 10 ∧ (b ≠ .start → y.pos ≠ none)) :
    ∃ t, exec (.resumeParked m) s = .next (beginTx t) ∧ (s.replied m .resumeParked .done .none).playsOn t ∧
      (s.replied m .resumeParked .done .none).bothBecome t x y x.unparked.choose.1 (y.uncrossed s.isArmed) := by
  obtain ⟨hplays, hboth⟩ := resumeParked_pair (hs.replied (m := m) (n := .resumeParked) (r := .done) (d := .none)) h.replied hcy
    hparked hgames hwait (by rw [State.isArmed_replied]; simpa [State.isArmed] using harmed) hchosen
  rw [State.isArmed_replied] at hboth
  have hown : ownResumeParked m x.id (takeFrame m.dest s) = resumeParked x (s.replied m .resumeParked .done .none) := by
    have hfound : (takeFrame m.dest s).session? x.id = some x := h.first
    have hstay : ¬ (x.state ≠ .parked ∨ ((takeFrame m.dest s).meter x.home).isOpen = false) := by
      rw [not_or, not_not]
      exact ⟨hstate, fun hc => absurd (hopen.symm.trans hc) (by simp)⟩
    have htaken : ¬ ((takeFrame m.dest s).occupied x.home = true ∨ (takeFrame m.dest s).reserved = some x.home) := by
      rw [not_or]
      exact ⟨fun ho => absurd (hfree.symm.trans ho) (by simp), hreserved⟩
    simp only [ownResumeParked, hfound, if_neg hstay, if_neg htaken]
    rfl
  exact ⟨_, (exec_request (c := .resumeParked m) rfl hm ha).trans (by rw [hown]), hplays, hboth⟩

/-- END_SESSION of a session, with its partner un-crossed (R73, R79). -/
theorem endSession_event (hr : s.room 1) (hm : s.reaches m .endSession) (ha : parse1 m.args = some x.id)
    (hheld : x.state.transferHeld = false) (hturn : x.turn ≠ .outstanding) (hcy : y.cross = true)
    (hparked : y.state ≠ .parked) (hgames : y.pos ≠ none → ∀ b ∈ y.bowlers, b.game.isSome = true)
    (hwait : ∀ b, y.state = .waitPartner b → b ≠ .frame 10 ∧ (b ≠ .start → y.pos ≠ none)) :
    ∃ t, exec (.endSession m) s = .next t ∧ s.acked t ∧
      t = { s with
        seqs := t.seqs, meters := t.meters, link := t.link, sessions := [y.uncrossed s.isArmed]
        store := { s.store with archive := t.store.archive, nextSerial := t.store.nextSerial } } ∧
      (∀ k, t.seq k = { s.seq k with foul := (t.seq k).foul } ∧ t.meter k = { s.meter k with wait := (t.meter k).wait }) ∧
      t.queued m.sender.toNat (firstReply m .endSession .done .none) := by
  have hcalm : (s.replied m .endSession .done .none).calm := hs.replied
  obtain ⟨hplays, hsessions, hfree, hstore⟩ := removeSession_pair hcalm h.replied hcy hparked hturn hgames hwait
  obtain ⟨hbusy, hacked, hframe, hlanes, hqueued⟩ := replied_playedOn hm hr (hplays hcalm).1
  have hown : ownEndSession m x.id (takeFrame m.dest s) = removeSession x.id (s.replied m .endSession .done .none) := by
    have hfound : (takeFrame m.dest s).session? x.id = some x := h.first
    simp only [ownEndSession, hfound, hheld, Bool.false_eq_true, if_false]
    rfl
  have hexec := exec_request (c := .endSession m) rfl hm ha
  rw [hown, hbusy] at hexec
  have hsame : (s.replied m .endSession .done .none).store = s.store ∧ (s.replied m .endSession .done .none).free = s.free := by
    rw [s.replied_eq]
    exact ⟨rfl, rfl⟩
  rw [hfree, hsessions, hsame.2, State.isArmed_replied] at hframe
  rw [hsame.1] at hstore
  refine ⟨_, hexec, hacked, hframe.trans ?_, hlanes, hqueued⟩
  conv_lhs => rw [hstore]

end

end

end Sys2Proof.Machine
end

section
/-! SUPPORT. O22: the barrier of a crossed pair passes or waits, and a session is un-crossed (R78, R79). -/

namespace Sys2Proof.Machine

section
variable {s u : State} {x y : Session} {p q : GamePos} {l : LaneId} {m : Msg}

theorem beginTx_same (u : State) :
    (beginTx u).sessions = u.sessions ∧ (beginTx u).store = u.store ∧ (beginTx u).free = u.free := by
  simp

/-- The pair waits: its other session plays elsewhere, has not begun, or waits at another barrier, or everyone is absent. -/
theorem pair_waits {b : Barrier} (h : y.state = .playing ∧ y.frameLane ≠ some l ∨ y.state = .forming ∨
      (∃ c, y.state = .waitPartner c ∧ (c ≠ b ∨ (x.allAbsent && y.allAbsent) = true))) :
    (∀ r, y.state ≠ .suspended r) ∧ y.rests l ∧ (y.state = .waitPartner b → (x.allAbsent && y.allAbsent) = true) := by
  obtain ⟨hplays, hlane⟩ | hforming | ⟨c, hc, hwhy⟩ := h
  · exact ⟨by simp [hplays], fun hl => absurd hl hlane, by simp [hplays]⟩
  · exact ⟨by simp [hforming], .of_state (by simp [hforming]) (by simp [hforming]), by simp [hforming]⟩
  · refine ⟨by simp [hc], .of_state (by simp [hc]) (by simp [hc]), fun hb => hwhy.resolve_left fun hne => ?_⟩
    rw [hc] at hb
    exact hne (SessionState.waitPartner.inj hb)

theorem SessionState.not_transferHeld {q : SessionState} (hwait : q ≠ .waitMove) (hmoving : ∀ k, q ≠ .moving k)
    (hparked : q ≠ .parked) : q.transferHeld = false := by
  unfold SessionState.transferHeld
  split
  · exact absurd rfl hwait
  · exact absurd rfl (hmoving _)
  · exact absurd rfl hparked
  · rfl

end

/-- Settles O22. Both sessions are read in the table; a calm station keeps the rest, whichever session plays on. -/
theorem barriersPass : Obligations.BarriersPass := by
  intro s x y htable hids hhomes hcy hfree hall
  obtain ⟨⟨hsx, hgx⟩, hsy, hgy⟩ : (x.state ≠ .waitMove ∧ (x.pos ≠ none → ∀ b ∈ x.bowlers, b.game.isSome = true)) ∧
      y.state ≠ .waitMove ∧ (y.pos ≠ none → ∀ b ∈ y.bowlers, b.game.isSome = true) := ⟨hall x (by simp), hall y (by simp)⟩
  have hpair : s.holdsPair x y := ⟨htable, hids, hhomes⟩
  have hcalm : s.calm := ⟨hfree, by obtain ht | ht := htable <;> simp [ht, hsx, hsy]⟩
  refine ⟨fun m hr hm ha hcx hforming hfull hy _ => ?_, fun l p harms hcx hstate hturn hp hl habsent => ?_,
    fun m hr hm a ha hid hclear hcx hparked hb f hstate hf p hp q hq => ?_,
    fun m hr ha hparked hwait => ⟨fun hm hmoving hxparked hturn => ?_, fun hm hstate _ hopen hocc hres harmed hchosen => ?_⟩⟩
  · obtain ⟨t, hexec, hplays, hboth⟩ := beginSession_event hcalm hpair hm ha hcx hforming hfull hy
    obtain ⟨hbusy, hleft⟩ := replied_bothBecome hcalm hpair hm (hr.less (by omega) : s.sends 1).2 hplays hboth
    exact ⟨t, hbusy ▸ hexec, hleft⟩
  · obtain ⟨c, pend, k, hline, hexec⟩ := setDone_arms harms
    let u := s.cycleEnded l c pend k
    have hu : u.calm := hcalm.cycleEnded
    have hpu : u.holdsPair x y := hpair.of_sessions rfl
    have hlanes : u.isArmed = fun i => i == l || decide ((s.seq i).state = .armed) := cycleEnded_isArmed s l c pend k
    have harmed : u.isArmed l = true := by simp [hlanes]
    have hnone := firstPresent_absent habsent
    obtain ⟨hstarts, hsame, hframe, hstate', hseqs, hmeters⟩ := setDone_playedOn ((armedReport_playsOn l u) hu).1 hline
    obtain ⟨hsessions, hstore, hfree'⟩ := beginTx_same (armedReport l u)
    refine ⟨_, hexec, hstarts, hsame, hframe, hstate', hseqs, hmeters, fun hy hidle hten q hq => ?_,
      fun hy hten q hq hn hpresent => ?_, fun hy => ?_⟩
    · have hboth := armedReport_enters hu hpu hcx hcy hstate hturn hp hl hnone harmed hy hq hidle (hgx (by simp [hp]))
        (hgy (by simp [hq])) (by omega)
      have htable' := hpu.becomes (by rw [hboth.rows.ids]) hboth.first hboth.second
      rw [hlanes] at htable'
      exact ⟨hstore.trans hboth.rows.store, hfree'.trans hboth.rows.free, hsessions.trans htable'⟩
    · have hjx := hpresent x (by simp)
      have hjy := hpresent y (by simp)
      have hidle : (x.allAbsent && y.allAbsent) = false := by rw [Session.not_allAbsent hjx, Bool.false_and]
      have hpass := armedReport_gamesPass hu hpu hcx hcy hstate hturn hp hl hnone harmed hy hq hidle hten hn
      have hleft := gamesPass_limits hpu hpass hcx hcy hp hq rfl hn hjx hjy
      rw [hlanes] at hleft
      obtain ⟨hboth, hsecond, hfirst, hnobody⟩ := hleft
      refine ⟨fun hx hy => hsessions.trans (hboth hx hy), fun hx hy => hsessions.trans (hsecond hx hy),
        fun hx hy => hsessions.trans (hfirst hx hy), fun hx hy => hsessions.trans (hnobody hx hy), fun hroom hnumbers => ?_⟩
      rw [hstore]
      exact gamesPass_archive (s := u) hpass (hgx (by simp [hp])) (hgy (by simp [hq])) hnumbers hroom
    · obtain ⟨hnot, hrest, hwhy⟩ := pair_waits hy
      have hboth := armedReport_waits (y := y) hpu hcx hstate hturn hp hl hnone hnot hrest hwhy
      exact ⟨hstore.trans hboth.rows.store, hfree'.trans hboth.rows.free,
        hsessions.trans (hpu.becomes (by rw [hboth.rows.ids]) hboth.first hboth.second)⟩
  · have hroom : s.room 1 := (hr.less (by omega) : s.sends 1).2
    by_cases hy : y.state = .waitPartner (.frame f)
    · obtain ⟨t, hexec, hplays, hboth⟩ := setAbsent_passes hcalm hpair hm ha hid hclear hb (by omega) hstate hcx hcy hp hq
        (hgx (by simp [hp])) (hgy (by simp [hq])) hy
      obtain ⟨hbusy, hacked, hframe, hlanes, hqueued⟩ := replied_bothBecome hcalm hpair hm hroom hplays hboth
      have htable' := congrArg State.sessions hframe
      refine ⟨t, hbusy ▸ hexec, hacked, ?_, hlanes, hqueued, fun _ => htable', fun hn => absurd hy hn⟩
      rwa [htable']
    · obtain ⟨t, hexec, hplays, hboth⟩ := setAbsent_waits hcalm hpair hm ha hid hclear hb hstate hy
      obtain ⟨hbusy, hacked, hframe, hlanes, hqueued⟩ := replied_bothBecome hcalm hpair hm hroom hplays hboth
      have htable' := congrArg State.sessions hframe
      refine ⟨t, hbusy ▸ hexec, hacked, ?_, hlanes, hqueued, fun hn => absurd hn hy, fun _ => htable'⟩
      rwa [htable']
  · have hheld := SessionState.not_transferHeld hsx hmoving hxparked
    exact endSession_event hcalm hpair (hr.less (by omega) : s.sends 1).2 hm ha hheld hturn hcy hparked hgy hwait
  · obtain ⟨t, hexec, hplays, hboth⟩ := resumeParked_event hcalm hpair hm ha hstate hopen hocc hres harmed hchosen hcy hparked
      hgy hwait
    obtain ⟨hbusy, hleft⟩ := replied_bothBecome hcalm hpair hm (hr.less (by omega) : s.sends 1).2 hplays hboth
    exact ⟨t, hbusy ▸ hexec, hleft⟩

end Sys2Proof.Machine
end
